-- ==== Sys2Proof/Word.lean ====
section
/-! DEFINITION. The bit widths of the part's fields and the small data types that commands carry. -/

namespace Sys2Proof

/-- A payload byte or a report sequence number (R138, R151). -/
abbrev Byte := BitVec 8

/-- A start-block word, an answer value, a fault set (R176, R178, R179). -/
abbrev Word := BitVec 16

/-- The raw count of an analog input, 0 to 4095 (00_scope.md, quantities). -/
abbrev Raw := BitVec 12

/-- A station number, a tag or a kind code: the four-bit fields of R176. -/
abbrev Nibble := BitVec 4

/-- A set of fault kinds, bit n for kind number n (R156, R178). -/
abbrev FaultSet := BitVec 16

/-- The two brush arms (chapter 4). -/
inductive ArmId where
  | one
  | two
  deriving DecidableEq, Repr

/-- The two tracks of the travel pickup (R19). -/
inductive Track where
  | a
  | b
  deriving DecidableEq, Repr

/-- The four frame classes (R138). -/
inductive FrameClass where
  | alert
  | answer
  | request
  | report
  deriving DecidableEq, Repr

/-- A frame of the section line without its check sequence (R138, R176). The payload length is the
length of the list. -/
structure Frame where
  cls : FrameClass
  src : Nibble
  dst : Nibble
  kind : Nibble
  payload : List Byte
  deriving DecidableEq, Repr

/-- The levels of the strap pins STN0-STN3 and ROLE0-ROLE2 (R169). -/
structure Straps where
  stn : BitVec 4
  role : BitVec 3
  deriving DecidableEq, Repr

/-- The inputs one control period of the drive channel reads (R42, R43, R44). -/
structure DriveInputs where
  dirF : Bool
  dirR : Bool
  pedal : Raw
  loopA : Raw
  loopB : Raw
  deriving DecidableEq, Repr

end Sys2Proof
end

