-- ==== Sys2Proof/Config.lean ====
section
/-! DEFINITION. What the start block fixes for one station (R179, R2, R4, R8) and the free values the manual leaves open. -/

namespace Sys2Proof

/-- A curve (R4): start x0, step shift s, and the points y0 to ym. -/
structure Curve where
  x0 : Int
  shift : Nat
  points : List Nat
  deriving DecidableEq, Repr

/-- The test quantities of a blend rule (R8). -/
inductive TestQuantity where
  | travelAbs
  | engineDroop
  | tankLevel
  | loopPressure
  | armPosition
  | brushSum
  deriving DecidableEq, Repr

/-- The condition codes 0 to 7 of a blend rule (R9). -/
inductive Condition where
  | always
  | gt
  | eq
  | lt
  | never
  | ge
  | ne
  | le
  deriving DecidableEq, Repr

/-- The mixes 0 to 7 of a blend (R10). -/
inductive Mix where
  | a
  | b
  | min
  | max
  | sum
  | diff
  | avg
  | zero
  deriving DecidableEq, Repr

/-- A blend rule (R8). -/
structure BlendRule where
  quantity : TestQuantity
  compare : Nat
  code : Condition
  fg : Mix
  bg : Mix
  deriving DecidableEq, Repr

/-- A pair of ramp times, in control periods (R2, log 40). -/
structure RampTimes where
  rise : Nat
  fall : Nat
  deriving DecidableEq, Repr

/-- A derating pair (D0, D1), in rpm (R17). -/
structure DeratePair where
  d0 : Nat
  d1 : Nat
  deriving DecidableEq, Repr

/-- One curve bank (R2). -/
structure Bank where
  pedal : Curve
  feed : Curve
  brush : Curve
  water : Curve
  drvTimes : RampTimes
  brTimes : RampTimes
  wtrTimes : RampTimes
  drvPair : DeratePair
  brPair : DeratePair
  wtrPair : DeratePair
  blindShare : Nat
  brRule : BlendRule
  wtrRule : BlendRule
  waterTrim : Nat
  primeCommand : Nat
  pattern : List (BitVec 4)
  blindCommand : Nat
  deriving DecidableEq, Repr

/-- Words 2 to 9 of the start block: the line times and the measurement scales (R179). -/
structure LineParams where
  period : Nat
  discardTime : Nat
  repeatInterval : Nat
  repeatLimit : Nat
  setSpeed : Nat
  fullScale : Nat
  ppm : Nat
  ppr : Nat
  deriving DecidableEq, Repr

/-- Words 10 to 24: the settings of the drive channel (chapter 3). -/
structure DriveParams where
  pedalDeadband : Nat
  transportCap : Nat
  sweepCap : Nat
  sweepCapMin : Nat
  capSlope : Nat
  reverseCap : Nat
  stopSpeed : Nat
  parkDelay : Nat
  dwellTime : Nat
  faultRamp : Nat
  trimDeadband : Nat
  trimLimit : Nat
  cutPressure : Nat
  cutHysteresis : Nat
  cutStep : Nat
  deriving DecidableEq, Repr

/-- Words 25 to 33: the settings of the arm channels (chapter 4). -/
structure ArmParams where
  stow1 : Nat
  work1 : Nat
  stow2 : Nat
  work2 : Nat
  moveTime : Nat
  blindTime : Nat
  reverseLift : Nat
  resume : Nat
  lowerSpeed : Nat
  deriving DecidableEq, Repr

/-- Words 34 to 40: the settings of the water channel (chapter 5); the dry wait time is in ms. -/
structure WaterParams where
  empty : Nat
  primePressure : Nat
  lossThreshold : Nat
  primeTime : Nat
  lossTime : Nat
  dryWaitTime : Nat
  sprayMin : Nat
  deriving DecidableEq, Repr

/-- One used slot of the switch map: destination, kind code and the four stored argument bytes
(R133, R179). -/
structure SwitchSlot where
  dest : Nibble
  kind : Nibble
  args : List Byte
  deriving DecidableEq, Repr

/-- The accepted start-block image: every parameter at the value the part uses (R171, R179). -/
structure StartBlock where
  line : LineParams
  drive : DriveParams
  arms : ArmParams
  water : WaterParams
  bank0 : Bank
  bank1 : Bank
  bank2 : Bank
  bank3 : Bank
  /-- The 32 slots of the switch map, `none` for an empty one. -/
  switchMap : List (Option SwitchSlot)
  deriving DecidableEq, Repr

/-- FREE VALUE: bits 3 to 0 of the value of an ARM_MOVE answer REFUSED when the request names no arm;
R120 gives the code of the named arm's state and no arm is named. Log 7. -/
opaque Config.freeArmCode : Nat → Nibble

/-- FREE VALUE: the high four bits of a tag byte the part sends; R176 says only that they are not
read. Log 8. -/
opaque Config.freeTagHigh : Nat → BitVec 4

/-- FREE VALUE: how many of its four stored argument bytes a switch-map request of an unnamed kind
sends; R179 gives no argument length for such a code. Log 9. -/
opaque Config.unnamedArgBytes : Nibble → Nat

end Sys2Proof
end

