-- ==== Sys2Proof/Syntax.lean ====
section
/-! DEFINITION. The commands of the block: one constructor for each row of spec/opcode_table.json.
A command is one indivisible event; its operands are the levels and bits its step reads from outside. -/

namespace Sys2Proof

/-- The 42 steps of the part. The docstring of each constructor names its row. -/
inductive Instr where
  /-- COLD_RESET (R169). -/
  | coldReset
  /-- RESET_RELEASE (R169), with the strap levels it samples. -/
  | resetRelease (straps : Straps)
  /-- LOAD_COMPLETION (R171): the levels of SPI_MISO at the rising edges of SPI_SCK that follow the command
  and the address (R170), the arm positions and the switch levels (bit i for SWi) read on leaving LOADING. -/
  | loadCompletion (miso : List Bool) (arm1 arm2 : Raw) (switches : BitVec 8)
  /-- JOIN_TIMER_EXPIRY (R173). -/
  | joinTimerExpiry
  /-- DRV_CONTROL_PERIOD (R47), with the inputs the period reads. -/
  | drvControlPeriod (inputs : DriveInputs)
  /-- ARM_CONTROL_PERIOD (R72) of one arm, with its position count. -/
  | armControlPeriod (arm : ArmId) (position : Raw)
  /-- WTR_CONTROL_PERIOD (R93), with the TANK and WATER_P counts. -/
  | wtrControlPeriod (tank waterP : Raw)
  /-- BUCKET_CLOSE (R19). -/
  | bucketClose
  /-- SPEED_EDGE (R19): the track, and the levels of both tracks after the edge. -/
  | speedEdge (track : Track) (levelA levelB : Bool)
  /-- ENGINE_EDGE (R20), a rising edge. -/
  | engineEdge
  /-- PARK_TIMER_EXPIRY (R50). -/
  | parkTimerExpiry
  /-- DWELL_TIMER_EXPIRY (R52). -/
  | dwellTimerExpiry
  /-- SPEED_SILENCE_EXPIRY (R65). -/
  | speedSilenceExpiry
  /-- ENGINE_SILENCE_EXPIRY (R66). -/
  | engineSilenceExpiry
  /-- MOVE_TIMER_EXPIRY (R77) of one arm. -/
  | moveTimerExpiry (arm : ArmId)
  /-- BLIND_TIMER_EXPIRY (R84) of one arm. -/
  | blindTimerExpiry (arm : ArmId)
  /-- PRIME_TIMER_EXPIRY (R101). -/
  | primeTimerExpiry
  /-- LOSS_TIMER_EXPIRY (R100). -/
  | lossTimerExpiry
  /-- DRY_WAIT_EXPIRY (R101). -/
  | dryWaitExpiry
  /-- PATTERN_TIMER_EXPIRY (R99). -/
  | patternTimerExpiry
  /-- STALE_EXPIRY (R28) of one peer entry. -/
  | staleExpiry (station : Fin 15)
  /-- LOST_EXPIRY (R29) of one peer entry. -/
  | lostExpiry (station : Fin 15)
  /-- ENTRY_DISCARD (R127) of the pending entry with this requester and tag. -/
  | entryDiscard (requester tag : Nibble)
  /-- REPEAT_TIMER_EXPIRY (R137) of the outgoing entry with this tag. -/
  | repeatTimerExpiry (tag : Nibble)
  /-- SWITCH_LEVEL_CHANGE (R132): the switch and its new raw level. -/
  | switchLevelChange (switch : Fin 8) (level : Bool)
  /-- SETTLING_TIMER_EXPIRY (R132) of one switch. -/
  | settlingTimerExpiry (switch : Fin 8)
  /-- REPORT_TIMER_EXPIRY (R150). -/
  | reportTimerExpiry
  /-- FRAME_ARRIVAL (R141): the bits heard, header first. -/
  | frameArrival (bits : List Bool)
  /-- BABBLE_GUARD_CUTOFF (R143). -/
  | babbleGuardCutoff
  /-- REPORT_ARRIVAL (R25): the report at the front of the receive queue is taken. -/
  | reportArrival
  /-- ALERT_ARRIVAL (R27): the alert at the front of the receive queue is taken. -/
  | alertArrival
  /-- ANSWER_ARRIVAL (R136): the answer at the front of the receive queue is taken. -/
  | answerArrival
  /-- SET_MODE (R108): the request of kind 1 at the front of the receive queue is taken. -/
  | setMode
  /-- ARM_MOVE (R74): the request of kind 2 at the front of the receive queue is taken. -/
  | armMove
  /-- WATER_SET (R94): the request of kind 3 at the front of the receive queue is taken. -/
  | waterSet
  /-- TRIM_SET (R128): the request of kind 4 at the front of the receive queue is taken. -/
  | trimSet
  /-- FAULT_CLEAR (R159): the request of kind 5 at the front of the receive queue is taken. -/
  | faultClear
  /-- QUERY (R130): the request of kind 6 at the front of the receive queue is taken. -/
  | query
  /-- RESTART (R131): the request of kind 7 at the front of the receive queue is taken. The strap
  levels are read only where the step is a reload (R172). -/
  | restart (straps : Straps)
  /-- UNKNOWN_REQUEST_KIND (R119): a request of kind 0 or 8 to 15 at the front is taken. -/
  | unknownRequestKind
  /-- LINE_IDLE (R139): the strongest frame another station offers at this idle, if any. -/
  | lineIdle (rival : Option Frame)
  /-- FRAME_SENT (R145): the end of the frame this station has on the line. -/
  | frameSent
  deriving DecidableEq, Repr

end Sys2Proof
end

