-- ==== Sys2Proof/Decode.lean ====
section
/-! DEFINITION. Decoding of table words. No row of this hardware's table gives bits: the commands are
events, and the words the part does read (frames, requests, the start block) are read in Machine/. -/

namespace Sys2Proof

/-- The command a word spells by the table's bits. spec/opcode_table.json gives no row any bits, so
no word spells a command. -/
def decodeTableWord (_nbits _w : Nat) : Option Instr := none

end Sys2Proof
end

