-- ==== Sys2Proof/Machine/State.lean ====
section
/-! DEFINITION. Every piece of state the manual gives the SC6, as plain data, and the state after reset. -/

namespace Sys2Proof.Machine

/-- A timer: `none` while stopped, `some t` while running, t ms after its start. -/
abbrev Timer := Option Nat

/-- The station states (R168). -/
inductive StationState where
  | loading
  | failedStart
  | listening
  | running
  | silenced
  deriving DecidableEq, Repr

/-- The station modes, codes 0 to 3 in this order (R106). -/
inductive Mode where
  | transport
  | sweepDry
  | sweepWet
  | service
  deriving DecidableEq, Repr

/-- Value qualities (R154). -/
inductive Quality where
  | good
  | held
  | bad
  deriving DecidableEq, Repr

/-- A driving direction; its absence is `Option.none` (R46, R177). -/
inductive Direction where
  | forward
  | reverse
  deriving DecidableEq, Repr

/-- The sixteen fault kinds, numbers 0 to 15 in this order (R156). -/
inductive FaultKind where
  | pedalInput
  | dirInput
  | speedSensor
  | engineSensor
  | pressureInput
  | arm1Fault
  | arm2Fault
  | waterDry
  | waterInput
  | travelLost
  | engineLost
  | driveConflict
  | requestLost
  | tankLow
  | lineFault
  | configBad
  deriving DecidableEq, Repr

/-- The channels of a role mask, bits 0 to 5 in this order (R22, R177). -/
inductive Channel where
  | drv
  | arm1
  | br1
  | arm2
  | br2
  | wtr
  deriving DecidableEq, Repr

/-! ### Start unit -/

/-- The SPI port of the start-memory read (R170): chip select, the bytes sent on SPI_MOSI since it last fell,
and how many bytes were taken on SPI_MISO after them. -/
structure Spi where
  selected : Bool
  sent : List Byte
  taken : Nat
  deriving DecidableEq, Repr

/-- The start unit (R168, R169, R106). -/
structure StartUnit where
  station : StationState
  number : Nibble
  role : BitVec 3
  mode : Mode
  image : Option StartBlock
  joinTimer : Timer
  spi : Spi
  deriving DecidableEq, Repr

/-! ### Input pins -/

/-- The levels last given to the input pins (11.5). The switch levels stand with their debouncers. -/
structure Pins where
  /-- RESET_N is high. -/
  resetN : Bool
  drive : DriveInputs
  arm1 : Raw
  arm2 : Raw
  tank : Raw
  waterP : Raw
  speedA : Bool
  speedB : Bool
  deriving DecidableEq, Repr

/-! ### Line port -/

/-- Result codes of an answer, codes 0 to 8 in this order (R120, R176). -/
inductive Result where
  | done
  | pending
  | busy
  | conflict
  | mismatch
  | refused
  | failed
  | unknown
  | superseded
  deriving DecidableEq, Repr

/-- A queued answer (R120, R148), its hold mark (R146), and whether its sending starts the warm
restart of R131. -/
structure Answer where
  dest : Nibble
  tag : Nibble
  kind : Nibble
  result : Result
  value : Word
  mark : Option Byte
  restarts : Bool
  deriving DecidableEq, Repr

/-- A queued request frame of the outgoing entry with this tag (R149). -/
structure QueuedRequest where
  dest : Nibble
  tag : Nibble
  kind : Nibble
  args : List Byte
  deriving DecidableEq, Repr

/-- What a frame on the line came from, and so what its end is reported to (R145); `orphan` where
it reaches no block (R149, R153). A report is the line port's own, and its end always steps the sequence counter (R151,
log 33). -/
inductive Owner where
  | alert (kind : FaultKind)
  | answer
  | report
  | request (tag : Nibble)
  | orphan
  deriving DecidableEq, Repr

/-- The frame this station is sending (R139). -/
structure Sending where
  owner : Owner
  frame : Frame
  deriving DecidableEq, Repr

/-- The six diagnostic counters, 0 to 255 each (R152). -/
structure Counters where
  checkErrors : Nat
  missedFrames : Nat
  duplicateReports : Nat
  reportGaps : Nat
  orphanedOps : Nat
  unmatchedAnswers : Nat
  deriving DecidableEq, Repr

/-- The line port (chapter 8). -/
structure LinePort where
  rx : List Frame
  alertSlot : Option FaultKind
  answers : List Answer
  requests : List QueuedRequest
  reportDue : Bool
  reportTimer : Timer
  seq : Byte
  counters : Counters
  guardArmed : Bool
  /-- How long the transmitter has been sending without a break, in ms (R143). -/
  guardTime : Nat
  /-- The transmitter of FAILED_START is held off (R143, R172). -/
  heldOff : Bool
  onLine : Option Sending
  deriving DecidableEq, Repr

/-! ### Peer table -/

/-- The arm states, codes 0 to 5 in this order (chapter 4, R177). -/
inductive ArmState where
  | stowed
  | lowering
  | working
  | lifting
  | reverseLifted
  | held
  deriving DecidableEq, Repr

/-- The water states, codes 0 to 4 in this order (chapter 5, R177). -/
inductive WaterState where
  | off
  | priming
  | spraying
  | dryWait
  | dryLocked
  deriving DecidableEq, Repr

/-- The states of a non-ABSENT peer entry (R22). -/
inductive EntryState where
  | fresh
  | stale
  | lost
  deriving DecidableEq, Repr

/-- The values a report carries, as a peer loads them (R22, R26, R177). -/
structure ReportValues where
  period : Nat
  mask : BitVec 6
  mode : Mode
  travel : Int
  travelQ : Quality
  direction : Option Direction
  engine : Nat
  engineQ : Quality
  pressure : Nat
  pressureQ : Quality
  brush1 : Byte
  brush2 : Byte
  arm1 : ArmState
  arm2 : ArmState
  water : WaterState
  summary : FaultSet
  deriving DecidableEq, Repr

/-- A non-ABSENT entry of the peer table (R22); an ABSENT entry is `Option.none`. -/
structure PeerEntry where
  status : EntryState
  lastSeq : Byte
  vals : ReportValues
  lastAlert : Option FaultKind
  age : Nat
  deriving DecidableEq, Repr

/-! ### Request unit -/

/-- The targets of ARM_MOVE (R119). -/
inductive Target where
  | stow
  | work
  deriving DecidableEq, Repr

/-- The kind and argument of a request whose operation takes time (R119, R125). -/
inductive Operation where
  | setTransport
  | armMove (arm : ArmId) (target : Target)
  deriving DecidableEq, Repr

/-- A set of claimed resources (R124). -/
structure Claims where
  stationMode : Bool
  arm1 : Bool
  arm2 : Bool
  deriving DecidableEq, Repr

/-- The states of a pending entry (R125). -/
inductive PendingState where
  | running
  | done
  | failed
  | superseded
  deriving DecidableEq, Repr

/-- An entry of the pending table (R125). -/
structure PendingEntry where
  requester : Nibble
  tag : Nibble
  op : Operation
  claims : Claims
  state : PendingState
  value : Word
  time : Nat
  deriving DecidableEq, Repr

/-- The states of an outgoing entry (R135). -/
inductive OutgoingState where
  | queued
  | awaiting
  | backingOff
  deriving DecidableEq, Repr

/-- An entry of the outgoing table (R135); `onEdge` says which edge of the switch made it. -/
structure OutgoingEntry where
  switch : Fin 8
  onEdge : Bool
  dest : Nibble
  kind : Nibble
  args : List Byte
  tag : Nibble
  repeatsLeft : Nat
  state : OutgoingState
  timer : Timer
  deriving DecidableEq, Repr

/-- A switch input with its debouncer (R132): raw level, debounced level, settling timer. -/
structure Debouncer where
  raw : Bool
  level : Bool
  settle : Timer
  deriving DecidableEq, Repr

/-- The request unit (chapter 7). -/
structure RequestUnit where
  table : List PendingEntry
  outgoing : List OutgoingEntry
  nextTag : Nibble
  switches : Vector Debouncer 8
  deriving DecidableEq, Repr

/-! ### Setpoint engine -/

/-- The ramp phases (R11). -/
inductive Phase where
  | rising
  | falling
  | atTarget
  deriving DecidableEq, Repr

/-- A ramp (R11): output o, error term E, phase, time T, step constants and set-up marker. -/
structure Ramp where
  out : Int
  err : Int
  phase : Phase
  time : Nat
  q : Nat
  k1 : Int
  k2 : Int
  setUp : Bool
  deriving DecidableEq, Repr

/-- A pair of clamp flags (R7). -/
structure ClampPair where
  low : Bool
  high : Bool
  deriving DecidableEq, Repr

/-- The setpoint state of BR1, BR2 or WTR: ramp, clamp pair, SAT and factor k (R7, R10, R11, R18). -/
structure BlendSite where
  ramp : Ramp
  clamp : ClampPair
  sat : Bool
  k : Nat
  deriving DecidableEq, Repr

/-- The setpoint state of DRV (R7, R11, R18). -/
structure DriveSite where
  ramp : Ramp
  pedalClamp : ClampPair
  feedClamp : ClampPair
  k : Nat
  deriving DecidableEq, Repr

/-- The setpoint engine (chapter 1). -/
structure Setpoint where
  drv : DriveSite
  br1 : BlendSite
  br2 : BlendSite
  wtr : BlendSite
  deriving DecidableEq, Repr

/-! ### Drive channel -/

/-- The drive states (R46). -/
inductive DriveState where
  | parked
  | neutral
  | forward
  | reverse
  | changing
  | tripped
  deriving DecidableEq, Repr

/-- The cut states (R62). -/
inductive CutState where
  | none
  | hold
  | reduce
  deriving DecidableEq, Repr

/-- Five buckets of a measurement window (R19, R20); `open` is the open one, `b1` the newest closed. -/
structure Window where
  opened : Int
  b1 : Int
  b2 : Int
  b3 : Int
  b4 : Int
  deriving DecidableEq, Repr

/-- The two measurements (R19 to R21, R45): windows, latest values, closes since leaving LOADING (to
5) and the time to the next close. -/
structure Measure where
  travel : Window
  engine : Window
  v : Int
  nE : Nat
  closes : Nat
  bucketTimer : Timer
  deriving DecidableEq, Repr

/-- The drive channel (R46, R44). `command` is the signed pump command; its magnitude is the last
output magnitude L of R62. `engineBad` holds the effect of ENGINE_SENSOR on the quality of nE that outlasts its cause:
set where the cause ends, and taken from the active set at each period and bucket close (R161, R167, log 23). -/
structure Drive where
  state : DriveState
  lastDir : Option Direction
  pendDir : Option Direction
  brakeApplied : Bool
  parkTimer : Timer
  dwellTimer : Timer
  trim : Int
  cut : CutState
  command : Int
  speedSilence : Nat
  engineSilence : Nat
  engineBad : Bool
  pressure : Nat
  meas : Measure
  deriving DecidableEq, Repr

/-! ### Arm and brush channels -/

/-- An arm with its brush (R70, R71, R88). -/
structure Arm where
  state : ArmState
  resume : Bool
  moveTimer : Timer
  blindTimer : Timer
  position : Raw
  trim : Nat
  command : Nat
  deriving DecidableEq, Repr

/-! ### Water channel -/

/-- The water channel (R92) with its outputs (R93, R99). -/
structure Water where
  state : WaterState
  enable : Bool
  dryCount : Nat
  slot : BitVec 4
  primeTimer : Timer
  lossTimer : Timer
  dryWaitTimer : Timer
  patternTimer : Timer
  tank : Raw
  waterP : Raw
  pump : Nat
  valves : BitVec 4
  deriving DecidableEq, Repr

/-! ### Fault unit -/

/-- The fault unit (R157, R158): the causes as last handed over (for ARMn_FAULT the position cause,
for TRAVEL_LOST the peer table's), the two stall causes, and the sticky set. -/
structure Faults where
  cause : FaultSet
  stall1 : Bool
  stall2 : Bool
  sticky : FaultSet
  deriving DecidableEq, Repr

/-! ### The whole part -/

/-- The SC6. `pending` is the queue of commands that wait, first in first out; `free` is the model's own
counter that the free values of Config are applied to (log 7). -/
structure State where
  pending : List Instr
  free : Nat
  pins : Pins
  start : StartUnit
  line : LinePort
  peers : Vector (Option PeerEntry) 15
  req : RequestUnit
  sp : Setpoint
  drive : Drive
  arm1 : Arm
  arm2 : Arm
  water : Water
  faults : Faults
  deriving DecidableEq, Repr

/-- The block never stops with a fault: every failure the manual describes is a fault kind held by
the fault unit (R156). Safe: no run is cut short. -/
inductive Fault where
  deriving DecidableEq, Repr

/-- Refusals. -/
inductive Refusal where
  /-- Raised by an arm of `exec` for a command that has no meaning yet. Safe. No arm raises it. -/
  | notModelled (mnemonic : String)
  deriving DecidableEq, Repr

/-! ### Cold-reset values -/

/-- A ramp after cold reset (R11). T, q, K1 and K2 are DESIGN CHOICE 0 (log 6). -/
def Ramp.reset : Ramp := ⟨0, 0, .atTarget, 0, 0, 0, 0, false⟩

/-- A clear clamp pair (R7). -/
def ClampPair.clear : ClampPair := ⟨false, false⟩

/-- A blend site after cold reset (R7, R10, R11, R18). -/
def BlendSite.reset : BlendSite := ⟨.reset, .clear, false, 256⟩

/-- The drive site after cold reset (R7, R11, R18). -/
def DriveSite.reset : DriveSite := ⟨.reset, .clear, .clear, 256⟩

/-- The setpoint engine after cold reset (10.5 table). -/
def Setpoint.reset : Setpoint := ⟨.reset, .reset, .reset, .reset⟩

/-- Empty buckets (R21). -/
def Window.reset : Window := ⟨0, 0, 0, 0, 0⟩

/-- The measurements after cold reset (R21). -/
def Measure.reset : Measure := ⟨.reset, .reset, 0, 0, 0, none⟩

/-- The drive channel after cold reset (R46, R44). -/
def Drive.reset : Drive :=
  ⟨.parked, none, none, true, none, none, 0, .none, 0, 0, 0, false, 0, .reset⟩

/-- An arm and brush after cold reset (R70, R88). -/
def Arm.reset : Arm := ⟨.held, false, none, none, 0, 0, 0⟩

/-- An unpopulated arm (R68). -/
def Arm.unpopulated : Arm := ⟨.stowed, false, none, none, 0, 0, 0⟩

/-- The water channel after cold reset (R92). -/
def Water.reset : Water := ⟨.off, false, 0, 0, none, none, none, none, 0, 0, 0, 0⟩

/-- The fault unit after cold reset (R157, R158). -/
def Faults.reset : Faults := ⟨0, false, false, 0⟩

/-- The counters after cold reset (R152). -/
def Counters.reset : Counters := ⟨0, 0, 0, 0, 0, 0⟩

/-- The line port after cold reset (R153). -/
def LinePort.reset : LinePort :=
  ⟨[], none, [], [], false, none, 0, .reset, true, 0, false, none⟩

/-- The peer table after cold reset (R22). -/
def peersAbsent : Vector (Option PeerEntry) 15 := Vector.replicate 15 none

/-- The request unit after cold reset (R125, R134, R135). The debounced levels are DESIGN CHOICE off
(log 6); R132 takes them anew on leaving LOADING. -/
def RequestUnit.reset : RequestUnit := ⟨[], [], 0, Vector.replicate 8 ⟨false, false, none⟩⟩

/-- The start unit after cold reset (10.5 table). Number and role are DESIGN CHOICE 0 until the
release samples the straps (log 6). -/
def StartUnit.reset : StartUnit := ⟨.loading, 0, 0, .transport, none, none, ⟨false, [], 0⟩⟩

/-- The input pins at reset: RESET_N low (R169); the other levels are DESIGN CHOICE 0 (log 6). -/
def Pins.reset : Pins := ⟨false, ⟨false, false, 0, 0, 0⟩, 0, 0, 0, 0, false, false⟩

/-- The machine right after reset: RESET_N is low and every block holds its cold-reset value (R169,
10.5 table). The release is the command RESET_RELEASE (log 5). -/
def State.reset : State where
  pending := []
  free := 0
  pins := .reset
  start := .reset
  line := .reset
  peers := peersAbsent
  req := .reset
  sp := .reset
  drive := .reset
  arm1 := .reset
  arm2 := .reset
  water := .reset
  faults := .reset

/-! ### One update for each block -/

/-- Replace the queue. -/
def State.withPending (s : State) (x : List Instr) : State := { s with pending := x }
/-- Advance the counter of free values. -/
def State.withFree (s : State) (x : Nat) : State := { s with free := x }
/-- Replace the input pins. -/
def State.withPins (s : State) (x : Pins) : State := { s with pins := x }
/-- Replace the start unit. -/
def State.withStart (s : State) (x : StartUnit) : State := { s with start := x }
/-- Replace the line port. -/
def State.withLine (s : State) (x : LinePort) : State := { s with line := x }
/-- Replace the peer table. -/
def State.withPeers (s : State) (x : Vector (Option PeerEntry) 15) : State := { s with peers := x }
/-- Replace the request unit. -/
def State.withReq (s : State) (x : RequestUnit) : State := { s with req := x }
/-- Replace the setpoint engine. -/
def State.withSp (s : State) (x : Setpoint) : State := { s with sp := x }
/-- Replace the drive channel. -/
def State.withDrive (s : State) (x : Drive) : State := { s with drive := x }
/-- Replace ARM1 with BR1. -/
def State.withArm1 (s : State) (x : Arm) : State := { s with arm1 := x }
/-- Replace ARM2 with BR2. -/
def State.withArm2 (s : State) (x : Arm) : State := { s with arm2 := x }
/-- Replace the water channel. -/
def State.withWater (s : State) (x : Water) : State := { s with water := x }
/-- Replace the fault unit. -/
def State.withFaults (s : State) (x : Faults) : State := { s with faults := x }

end Sys2Proof.Machine
end

