-- ==== Sys2Proof/Machine/Flags.lean ====
section
/-! DEFINITION. Qualities (R154), the fault sets and the hand-over of causes (R157, R158, R163), saturating counters (R152). -/

namespace Sys2Proof.Machine

/-! ### Quality -/

/-- The worse of two qualities (R154). -/
def Quality.worse : Quality → Quality → Quality
  | .bad, _ => .bad
  | _, .bad => .bad
  | .held, _ => .held
  | _, .held => .held
  | .good, .good => .good

/-- A raw count within the valid span 82 to 4013 (00_scope.md, value quality). -/
def inSpan (raw : Raw) : Bool := 82 ≤ raw.toNat && raw.toNat ≤ 4013

/-! ### Fault sets -/

/-- The number of a kind (R156). -/
def FaultKind.num : FaultKind → Nat
  | .pedalInput => 0
  | .dirInput => 1
  | .speedSensor => 2
  | .engineSensor => 3
  | .pressureInput => 4
  | .arm1Fault => 5
  | .arm2Fault => 6
  | .waterDry => 7
  | .waterInput => 8
  | .travelLost => 9
  | .engineLost => 10
  | .driveConflict => 11
  | .requestLost => 12
  | .tankLow => 13
  | .lineFault => 14
  | .configBad => 15

/-- The kind with a number, as an alert's kind field carries it (R176). -/
def FaultKind.ofNum (n : Nibble) : FaultKind :=
  match n.toNat with
  | 0 => .pedalInput
  | 1 => .dirInput
  | 2 => .speedSensor
  | 3 => .engineSensor
  | 4 => .pressureInput
  | 5 => .arm1Fault
  | 6 => .arm2Fault
  | 7 => .waterDry
  | 8 => .waterInput
  | 9 => .travelLost
  | 10 => .engineLost
  | 11 => .driveConflict
  | 12 => .requestLost
  | 13 => .tankLow
  | 14 => .lineFault
  | _ => .configBad

/-- The trip kinds (R156, R162). -/
def FaultKind.isTrip : FaultKind → Bool
  | .pedalInput => true
  | .speedSensor => true
  | .arm1Fault => true
  | .arm2Fault => true
  | .waterDry => true
  | .waterInput => true
  | .lineFault => true
  | .configBad => true
  | .dirInput => false
  | .engineSensor => false
  | .pressureInput => false
  | .travelLost => false
  | .engineLost => false
  | .driveConflict => false
  | .requestLost => false
  | .tankLow => false

/-- The set of one kind. -/
def FaultKind.bit (k : FaultKind) : FaultSet := 1#16 <<< k.num

/-- Membership. -/
def hasKind (set : FaultSet) (k : FaultKind) : Bool := set.getLsbD k.num

/-- A set with one member put in or taken out. -/
def putKind (set : FaultSet) (k : FaultKind) (present : Bool) : FaultSet :=
  if present then set ||| k.bit else set &&& ~~~k.bit

/-- The set of the trip kinds (R162). -/
def tripKinds : FaultSet := 0xC1E5#16

/-- The fault kind of an arm (R156). -/
def armFault : ArmId → FaultKind
  | .one => .arm1Fault
  | .two => .arm2Fault

/-- The active set: a member is set while any cause of its kind is present (R157). -/
def Faults.active (f : Faults) : FaultSet :=
  f.cause ||| (if f.stall1 then FaultKind.arm1Fault.bit else 0)
    ||| (if f.stall2 then FaultKind.arm2Fault.bit else 0)

/-- The kind is in the sticky set. -/
def sticky (k : FaultKind) (s : State) : Bool := hasKind s.faults.sticky k

/-- The kind is in the active set. -/
def active (k : FaultKind) (s : State) : Bool := hasKind s.faults.active k

/-- FAULT_N is asserted while any trip kind is sticky (R162). -/
def faultAsserted (s : State) : Bool := s.faults.sticky &&& tripKinds != 0

/-! ### Hand-over of causes -/

/-- Set a sticky member (R158); a trip kind that was not set goes to the ALERT slot (R163, R164). -/
def setSticky (k : FaultKind) (s : State) : State :=
  let t := s.withFaults { s.faults with sticky := putKind s.faults.sticky k true }
  if k.isTrip && !sticky k s then t.withLine { t.line with alertSlot := some k } else t

/-- An owner block hands over its held cause, present or absent (R157). The sticky member of TANK_LOW
follows its active member (R158). -/
def handOver (k : FaultKind) (present : Bool) (s : State) : State :=
  let t := s.withFaults { s.faults with cause := putKind s.faults.cause k present }
  if present then setSticky k t
  else if k = .tankLow then
    t.withFaults { t.faults with sticky := putKind t.faults.sticky k false }
  else t

/-- An arm hands over its stall cause (R77, R157). -/
def handOverStall (n : ArmId) (present : Bool) (s : State) : State :=
  let t := match n with
    | .one => s.withFaults { s.faults with stall1 := present }
    | .two => s.withFaults { s.faults with stall2 := present }
  if present then setSticky (armFault n) t else t

/-- A cause of one event: it sets the sticky member, and its active member is clear again when the
event is over (R157): REQUEST_LOST, LINE_FAULT, the blind timer's TRAVEL_LOST record. -/
def raiseOnce (k : FaultKind) (s : State) : State := setSticky k s

/-- The sticky set after a FAULT_CLEAR with this mask: the masked kinds whose active member is clear
are removed (R159). -/
def clearedSticky (mask : FaultSet) (f : Faults) : FaultSet :=
  f.sticky &&& ~~~(mask &&& ~~~f.active)

/-! ### Counters and due flag -/

/-- A diagnostic counter counts to 255 and stays there (R152). -/
def bump (n : Nat) : Nat := min 255 (n + 1)

/-- CHECK_ERRORS (R140). -/
def countCheckError (s : State) : State :=
  s.withLine { s.line with counters := { s.line.counters with checkErrors := bump s.line.counters.checkErrors } }

/-- MISSED_FRAMES (R141, R148). -/
def countMissed (s : State) : State :=
  s.withLine { s.line with counters := { s.line.counters with missedFrames := bump s.line.counters.missedFrames } }

/-- DUPLICATE_REPORTS (R25). -/
def countDuplicate (s : State) : State :=
  s.withLine { s.line with counters := { s.line.counters with duplicateReports := bump s.line.counters.duplicateReports } }

/-- REPORT_GAPS (R25). -/
def countGap (s : State) : State :=
  s.withLine { s.line with counters := { s.line.counters with reportGaps := bump s.line.counters.reportGaps } }

/-- ORPHANED_OPS (R127). -/
def countOrphan (s : State) : State :=
  s.withLine { s.line with counters := { s.line.counters with orphanedOps := bump s.line.counters.orphanedOps } }

/-- UNMATCHED_ANSWERS (R137). -/
def countUnmatched (s : State) : State :=
  s.withLine { s.line with counters := { s.line.counters with unmatchedAnswers := bump s.line.counters.unmatchedAnswers } }

/-- The events of R150 set the report-due flag in RUNNING and FAILED_START and leave it elsewhere. -/
def makeDue (s : State) : State :=
  if s.start.station = .running ∨ s.start.station = .failedStart then
    s.withLine { s.line with reportDue := true }
  else s

end Sys2Proof.Machine
end

