-- ==== Sys2Proof/Machine/Operands.lean ====
section
/-! DEFINITION. The field codes of chapter 11, the frame on the wire with its check sequence, request arguments and report payloads. -/

namespace Sys2Proof.Machine

/-! ### Roles -/

/-- Bit number of a channel in the role mask (R177). -/
def Channel.num : Channel → Nat
  | .drv => 0
  | .arm1 => 1
  | .br1 => 2
  | .arm2 => 3
  | .br2 => 4
  | .wtr => 5

/-- The channels a role populates, as the mask of R177 (00_scope.md, roles). -/
def roleMask (role : BitVec 3) : BitVec 6 :=
  match role.toNat with
  | 0 => 0b000000#6
  | 1 => 0b000001#6
  | 2 => 0b011110#6
  | 3 => 0b000110#6
  | 4 => 0b100000#6
  | 5 => 0b111110#6
  | 6 => 0b100001#6
  | _ => 0b111111#6

/-- A mask holds a channel. -/
def maskHas (mask : BitVec 6) (c : Channel) : Bool := mask.getLsbD c.num

/-- The station's role populates a channel. -/
def populated (c : Channel) (s : State) : Bool := maskHas (roleMask s.start.role) c

/-- The channel of an arm. -/
def armChannel : ArmId → Channel
  | .one => .arm1
  | .two => .arm2

/-- The channel of an arm's brush. -/
def brushChannel : ArmId → Channel
  | .one => .br1
  | .two => .br2

/-! ### Codes (R177, R178) -/

def Mode.code : Mode → Nat
  | .transport => 0
  | .sweepDry => 1
  | .sweepWet => 2
  | .service => 3

def Mode.ofCode? : Nat → Option Mode
  | 0 => some .transport
  | 1 => some .sweepDry
  | 2 => some .sweepWet
  | 3 => some .service
  | _ => none

/-- The mode of a two-bit field. -/
def Mode.ofBits (b : BitVec 2) : Mode := (Mode.ofCode? b.toNat).getD .service

def Quality.code : Quality → BitVec 2
  | .good => 0
  | .held => 1
  | .bad => 2

/-- Code 3 names no quality and is loaded as BAD (R26, R177). -/
def Quality.ofBits (b : BitVec 2) : Quality :=
  match b.toNat with
  | 0 => .good
  | 1 => .held
  | _ => .bad

def directionCode : Option Direction → BitVec 2
  | none => 0
  | some .forward => 1
  | some .reverse => 2

/-- Code 3 is loaded as NONE (R177). -/
def directionOfBits (b : BitVec 2) : Option Direction :=
  match b.toNat with
  | 1 => some .forward
  | 2 => some .reverse
  | _ => none

def ArmState.code : ArmState → Nat
  | .stowed => 0
  | .lowering => 1
  | .working => 2
  | .lifting => 3
  | .reverseLifted => 4
  | .held => 5

/-- A code that names no arm state is loaded as HELD (R26, R177). -/
def ArmState.ofCode : Nat → ArmState
  | 0 => .stowed
  | 1 => .lowering
  | 2 => .working
  | 3 => .lifting
  | 4 => .reverseLifted
  | _ => .held

def WaterState.code : WaterState → Nat
  | .off => 0
  | .priming => 1
  | .spraying => 2
  | .dryWait => 3
  | .dryLocked => 4

/-- A code that names no water state is loaded as OFF (R26, R177). -/
def WaterState.ofCode : Nat → WaterState
  | 1 => .priming
  | 2 => .spraying
  | 3 => .dryWait
  | 4 => .dryLocked
  | _ => .off

def StationState.code : StationState → Nat
  | .loading => 0
  | .failedStart => 1
  | .listening => 2
  | .running => 3
  | .silenced => 4

def DriveState.code : DriveState → Nat
  | .parked => 0
  | .neutral => 1
  | .forward => 2
  | .reverse => 3
  | .changing => 4
  | .tripped => 5

def EntryState.code : EntryState → Nat
  | .fresh => 1
  | .stale => 2
  | .lost => 3

def Result.code : Result → Nat
  | .done => 0
  | .pending => 1
  | .busy => 2
  | .conflict => 3
  | .mismatch => 4
  | .refused => 5
  | .failed => 6
  | .unknown => 7
  | .superseded => 8

def classCode : FrameClass → BitVec 2
  | .alert => 0
  | .answer => 1
  | .request => 2
  | .report => 3

def classOfBits (b : BitVec 2) : FrameClass :=
  match b.toNat with
  | 0 => .alert
  | 1 => .answer
  | 2 => .request
  | _ => .report

/-- Request kind codes (R176). -/
def kindSetMode : Nibble := 1
def kindArmMove : Nibble := 2
def kindWaterSet : Nibble := 3
def kindTrimSet : Nibble := 4
def kindFaultClear : Nibble := 5
def kindQuery : Nibble := 6
def kindRestart : Nibble := 7

/-- Codes 0 and 8 to 15 name no kind (R176). -/
def kindUnnamed (k : Nibble) : Bool := k.toNat = 0 || 8 ≤ k.toNat

/-- Argument bytes after the tag byte (R176); for a code that names no kind the number is a free value
(log 9). -/
def argBytes (k : Nibble) : Nat :=
  match k.toNat with
  | 1 => 1
  | 2 => 2
  | 3 => 1
  | 4 => 3
  | 5 => 2
  | 6 => 1
  | 7 => 0
  | _ => Config.unnamedArgBytes k

/-! ### Bits, most significant first -/

/-- The bits of a field, most significant bit first (R176). -/
def bitsOf {w : Nat} (v : BitVec w) : List Bool := (List.range w).map v.getMsbD

/-- The number a list of bits spells, most significant bit first. -/
def numOf (bits : List Bool) : Nat := bits.foldl (fun n b => 2 * n + b.toNat) 0

/-- Two bytes as a word, the high byte first. -/
def wordOf (hi lo : Byte) : Word := hi ++ lo

/-- The high byte of a word. -/
def hiByte (w : Word) : Byte := w.extractLsb' 8 8

/-- The low byte of a word. -/
def loByte (w : Word) : Byte := w.extractLsb' 0 8

/-! ### The frame on the wire (R138, R140, R176) -/

/-- One bit into the CRC register, generator x^16 + x^12 + x^5 + 1 (R140). -/
def crcBit (reg : Word) (b : Bool) : Word :=
  let shifted := reg <<< 1
  if reg.msb ^^ b then shifted ^^^ 0x1021#16 else shifted

/-- The check sequence: the register starts at all ones (R140). -/
def crc (bits : List Bool) : Word := bits.foldl crcBit 0xFFFF#16

/-- The 19 header bits (R176). -/
def headerBits (f : Frame) : List Bool :=
  bitsOf (classCode f.cls) ++ bitsOf f.src ++ bitsOf f.dst ++ bitsOf f.kind
    ++ bitsOf (BitVec.ofNat 5 f.payload.length)

/-- The bits from the priority word to the end of the payload. -/
def bodyBits (f : Frame) : List Bool := headerBits f ++ f.payload.flatMap bitsOf

/-- The whole frame, check sequence last. -/
def frameBits (f : Frame) : List Bool := bodyBits f ++ bitsOf (crc (bodyBits f))

/-- The field of w bits that starts at a bit of the frame. -/
def field (bits : List Bool) (start w : Nat) : BitVec w :=
  BitVec.ofNat w (numOf ((bits.drop start).take w))

/-- A frame received whole: `none` where it is discarded (R140): cut short, a length field above 16, or a
check sequence that does not match. Bits after the check sequence are not read (log 14). -/
def parseFrame (bits : List Bool) : Option Frame :=
  let len := (field bits 14 5).toNat
  if bits.length < 19 then none
  else if 16 < len then none
  else if bits.length < 19 + 8 * len + 16 then none
  else if field bits (19 + 8 * len) 16 = crc (bits.take (19 + 8 * len)) then
    some
      { cls := classOfBits (field bits 0 2)
        src := field bits 2 4
        dst := field bits 6 4
        kind := field bits 10 4
        payload := (List.range len).map (fun i => field bits (19 + 8 * i) 8) }
  else none

/-- The contest at a line idle: a driven level, a 0, overrides an undriven one, so the frame whose bits
are lower at the first difference goes through; frames identical to the last bit both do (R139, R176). -/
def winsContest : List Bool → List Bool → Bool
  | [], _ => true
  | _ :: _, [] => true
  | a :: as, b :: bs => if a = b then winsContest as bs else b

/-! ### Requests and answers (R119, R176) -/

/-- A received request with its tag byte split off. -/
structure Request where
  src : Nibble
  tag : Nibble
  kind : Nibble
  args : List Byte
  deriving DecidableEq, Repr

/-- The tag is the low four bits of the tag byte (R176). -/
def tagOf (b : Byte) : Nibble := b.extractLsb' 0 4

/-- The request a frame carries. -/
def requestOf (f : Frame) : Request :=
  ⟨f.src, tagOf (f.payload.headD 0), f.kind, f.payload.tail⟩

/-- The mode an argument of SET_MODE names (R119). -/
def modeArg : List Byte → Option Mode
  | [b] => Mode.ofCode? b.toNat
  | _ => none

/-- The arm an argument of ARM_MOVE names; an argument of another length names none (log 20). -/
def armArg : List Byte → Option ArmId
  | [a, _] => if a = 1 then some .one else if a = 2 then some .two else none
  | _ => none

/-- The target an argument of ARM_MOVE names (R176). -/
def targetArg : List Byte → Option Target
  | [_, t] => if t = 0 then some .stow else if t = 1 then some .work else none
  | _ => none

/-- The brush an argument of TRIM_SET names. -/
def brushArg : List Byte → Option ArmId
  | [c, _, _] => if c = 1 then some .one else if c = 2 then some .two else none
  | _ => none

/-- The trim value of a TRIM_SET, 0 to 4095 (R119). -/
def trimArg : List Byte → Option Nat
  | [_, hi, lo] => if (wordOf hi lo).toNat ≤ 4095 then some (wordOf hi lo).toNat else none
  | _ => none

/-- The argument of a WATER_SET (R176). -/
def onOffArg : List Byte → Option Bool
  | [b] => if b = 0 then some false else if b = 1 then some true else none
  | _ => none

/-- The mask of a FAULT_CLEAR (R176). -/
def maskArg : List Byte → Option FaultSet
  | [hi, lo] => some (wordOf hi lo)
  | _ => none

/-- The item of a QUERY: 0 to 15, 16 to 30 or 32 to 46 (R119). -/
def itemArg : List Byte → Option Nat
  | [b] => if b.toNat ≤ 30 ∨ (32 ≤ b.toNat ∧ b.toNat ≤ 46) then some b.toNat else none
  | _ => none

/-- The operation a request asks for, where its kind takes time (R119). -/
def operationOf (r : Request) : Option Operation :=
  if r.kind = kindSetMode then
    if modeArg r.args = some .transport then some .setTransport else none
  else if r.kind = kindArmMove then
    match armArg r.args, targetArg r.args with
    | some a, some t => some (.armMove a t)
    | _, _ => none
  else none

/-- The tag byte the part sends: its high four bits are a free value (log 8). -/
def tagByte (high tag : BitVec 4) : Byte := high ++ tag

/-! ### Reports (R26, R177) -/

/-- The 15 payload bytes of a report. -/
def reportBytes (seq : Byte) (v : ReportValues) : List Byte :=
  let speed := BitVec.ofInt 16 v.travel
  let engine := BitVec.ofNat 16 v.engine
  [ seq,
    BitVec.ofNat 8 v.period,
    BitVec.ofNat 2 v.mode.code ++ v.mask,
    hiByte speed, loByte speed,
    v.travelQ.code ++ v.engineQ.code ++ v.pressureQ.code ++ directionCode v.direction,
    hiByte engine, loByte engine,
    BitVec.ofNat 8 (v.pressure / 2),
    v.brush1, v.brush2,
    BitVec.ofNat 4 v.arm1.code ++ BitVec.ofNat 4 v.arm2.code,
    BitVec.ofNat 8 v.water.code,
    hiByte v.summary, loByte v.summary ]

/-- The sequence number and values of a report payload, awkward values treated as R26 gives them; `none`
for a payload that is not 15 bytes. -/
def parseReport : List Byte → Option (Byte × ReportValues)
  | [b0, b1, b2, b3, b4, b5, b6, b7, b8, b9, b10, b11, b12, b13, b14] =>
    some (b0,
      { period := max 2 (min 20 b1.toNat)
        mask := b2.extractLsb' 0 6
        mode := Mode.ofBits (b2.extractLsb' 6 2)
        travel := max (-1500) (min 1500 (wordOf b3 b4).toInt)
        travelQ := Quality.ofBits (b5.extractLsb' 6 2)
        engineQ := Quality.ofBits (b5.extractLsb' 4 2)
        pressureQ := Quality.ofBits (b5.extractLsb' 2 2)
        direction := directionOfBits (b5.extractLsb' 0 2)
        engine := min 4000 (wordOf b6 b7).toNat
        pressure := min 500 (2 * b8.toNat)
        brush1 := b9
        brush2 := b10
        arm1 := ArmState.ofCode (b11.extractLsb' 4 4).toNat
        arm2 := ArmState.ofCode (b11.extractLsb' 0 4).toNat
        water := WaterState.ofCode b12.toNat
        summary := wordOf b13 b14 })
  | _ => none

end Sys2Proof.Machine
end

