-- ==== Sys2Proof/Machine/Setpoint.lean ====
section
/-! DEFINITION. The setpoint arithmetic of chapter 1: curve lookup, blend, ramp and derating. -/

namespace Sys2Proof.Machine

/-! ### Curve lookup (R4, R5) -/

/-- The clamp result of a lookup (R5). -/
inductive ClampResult where
  | inside
  | low
  | high
  deriving DecidableEq, Repr

/-- The pair a lookup leaves at its site (R7). -/
def ClampResult.pair : ClampResult → ClampPair
  | .inside => ⟨false, false⟩
  | .low => ⟨true, false⟩
  | .high => ⟨false, true⟩

/-- Point y_i of a curve. -/
def curvePoint (c : Curve) (i : Nat) : Nat := c.points.getD i 0

/-- The number of segments m. -/
def curveSegments (c : Curve) : Nat := c.points.length - 1

/-- The value within segment i at offset f; the quotient truncates toward zero (R5). -/
def interpolate (c : Curve) (i f : Nat) : Nat :=
  let y : Int := curvePoint c i
  let y' : Int := curvePoint c (i + 1)
  (y + Int.tdiv ((y' - y) * (f : Int)) ((2 ^ c.shift : Nat) : Int)).toNat

/-- A lookup of input x: output and clamp result (R5). -/
def curveLookup (c : Curve) (x : Nat) : Nat × ClampResult :=
  if (x : Int) < c.x0 then (curvePoint c 0, .low)
  else
    let dx := ((x : Int) - c.x0).toNat
    let i := dx / 2 ^ c.shift
    if curveSegments c ≤ i then (curvePoint c (curveSegments c), .high)
    else (interpolate c i (dx - i * 2 ^ c.shift), .inside)

/-! ### Blend (R9, R10) -/

/-- The condition of a code on Q and C (R9). -/
def conditionHolds (code : Condition) (q c : Nat) : Bool :=
  match code with
  | .always => true
  | .gt => decide (c < q)
  | .eq => decide (q = c)
  | .lt => decide (q < c)
  | .never => false
  | .ge => decide (c ≤ q)
  | .ne => decide (q ≠ c)
  | .le => decide (q ≤ c)

/-- The result of a mix and whether it saturates (R10). -/
def applyMix (m : Mix) (a b : Nat) : Nat × Bool :=
  match m with
  | .a => (a, false)
  | .b => (b, false)
  | .min => (min a b, false)
  | .max => (max a b, false)
  | .sum => (min 4095 (a + b), decide (4095 < a + b))
  | .diff => (a - b, false)
  | .avg => ((a + b) / 2, false)
  | .zero => (0, false)

/-- The blend. A test quantity of quality BAD is `none` and gives the background mix whatever the code
(R9). -/
def blend (r : BlendRule) (q : Option Nat) (a b : Nat) : Nat × Bool :=
  match q with
  | some q => if conditionHolds r.code q r.compare then applyMix r.fg a b else applyMix r.bg a b
  | none => applyMix r.bg a b

/-! ### Ramp (R11 to R15) -/

/-- The effective target t' (R12): 0 where t has the sign opposite to o. -/
def effectiveTarget (o t : Int) : Int :=
  if (0 < o ∧ t < 0) ∨ (o < 0 ∧ 0 < t) then 0 else t

/-- Arrival: AT_TARGET, E 0, not set up (R12, R14, R15). -/
def Ramp.arrive (r : Ramp) (o : Int) : Ramp :=
  { r with out := o, err := 0, phase := .atTarget, setUp := false }

/-- Setup under time T (R13). -/
def Ramp.setup (r : Ramp) (full : Nat) (ph : Phase) (t : Nat) : Ramp :=
  let rem : Int := ((full % t : Nat) : Int)
  { r with
    err := 2 * rem - (t : Int)
    phase := ph
    time := t
    q := full / t
    k1 := 2 * rem
    k2 := 2 * (rem - (t : Int))
    setUp := true }

/-- The causes of a setup: not set up, another phase, another time (R13). -/
def Ramp.prepared (r : Ramp) (full : Nat) (ph : Phase) (t : Nat) : Ramp :=
  if r.setUp = true ∧ r.phase = ph ∧ r.time = t then r else r.setup full ph t

/-- o moved toward t' by an advance, stopping at t' (R14). -/
def toward (o target : Int) (advance : Nat) : Int :=
  if o ≤ target then min (o + advance) target else max (o - advance) target

/-- The advance of a period and the error term after it (R14). -/
def Ramp.advance (r : Ramp) : Nat × Int :=
  if 0 ≤ r.err then (r.q + 1, r.err + r.k2) else (r.q, r.err + r.k1)

/-- A moving period under phase and time (R13, R14). -/
def Ramp.move (r : Ramp) (full : Nat) (ph : Phase) (t : Nat) (target : Int) : Ramp :=
  if t = 0 then r.arrive target
  else
    let p := r.prepared full ph t
    let o := toward p.out target p.advance.1
    if o = target then p.arrive target else { p with out := o, err := p.advance.2 }

/-- One period of a ramp toward target t (R12 to R14). -/
def Ramp.step (r : Ramp) (full : Nat) (times : RampTimes) (t : Int) : Ramp :=
  let target := effectiveTarget r.out t
  if r.out.natAbs < target.natAbs then r.move full .rising times.rise target
  else if target ≠ r.out then r.move full .falling times.fall target
  else r.arrive r.out

/-- A set of o from outside the ramp (R15). -/
def Ramp.setOut (r : Ramp) (o : Int) : Ramp := r.arrive o

/-- The mark "not set up" of a bank switch (R3) and of entry to and exit from TRIPPED (R59). -/
def Ramp.unset (r : Ramp) : Ramp := { r with setUp := false }

/-- A ramp at warm restart: AT_TARGET, not set up, output kept (R11). -/
def Ramp.warm (r : Ramp) : Ramp := { r with phase := .atTarget, setUp := false }

/-! ### Derating (R16, R17) -/

/-- The derating factor k; a BAD droop is `none` and gives the blind share (R17). DEDUCED (log 39): k is the
truncated value of R17 at every droop, so under a pair whose span is above 256 rpm it is still 256 at D0 + 1, where
R115 has it below 256. -/
def factor (p : DeratePair) (blindShare : Nat) (droop : Option Nat) : Nat :=
  match droop with
  | none => blindShare
  | some d =>
    if d ≤ p.d0 then 256
    else if p.d1 ≤ d then 0
    else 256 - (d - p.d0) * 256 / (p.d1 - p.d0)

/-- The derated signed command (R17): the quotient truncates toward zero. -/
def derateInt (x : Int) (k : Nat) : Int := Int.tdiv (x * (k : Int)) 256

/-- The derated command of BR1, BR2 and WTR (R17). -/
def derateNat (x : Int) (k : Nat) : Nat := (derateInt x k).toNat

/-! ### The chain of BR1, BR2 and WTR (R1) -/

/-- Curve on x, blend with B and Q, and ramp: the stages before derating. -/
def BlendSite.chain (site : BlendSite) (curve : Curve) (rule : BlendRule) (times : RampTimes)
    (x b : Nat) (q : Option Nat) : BlendSite :=
  let look := curveLookup curve x
  let mixed := blend rule q look.1 b
  { site with
    ramp := site.ramp.step 4095 times (mixed.1 : Int)
    clamp := look.2.pair
    sat := mixed.2 }

end Sys2Proof.Machine
end

