-- ==== Sys2Proof/Machine/View.lean ====
section
/-! DEFINITION. Reading the state: arms, banks, and the machine view of chapter 2, which is formed at each read (R40). -/

namespace Sys2Proof.Machine

/-! ### Channels and banks -/

/-- An arm with its brush. -/
def State.arm (s : State) : ArmId → Arm
  | .one => s.arm1
  | .two => s.arm2

/-- Replace an arm with its brush. -/
def State.withArm (s : State) (n : ArmId) (a : Arm) : State :=
  match n with
  | .one => s.withArm1 a
  | .two => s.withArm2 a

/-- The setpoint state of a brush. -/
def Setpoint.brush (sp : Setpoint) : ArmId → BlendSite
  | .one => sp.br1
  | .two => sp.br2

/-- Replace the setpoint state of a brush. -/
def State.withBrush (s : State) (n : ArmId) (x : BlendSite) : State :=
  match n with
  | .one => s.withSp { s.sp with br1 := x }
  | .two => s.withSp { s.sp with br2 := x }

/-- Replace the setpoint state of the water channel. -/
def State.withWaterSite (s : State) (x : BlendSite) : State := s.withSp { s.sp with wtr := x }

/-- The bank of a mode (R2). -/
def bankOfMode (b : StartBlock) : Mode → Bank
  | .transport => b.bank0
  | .sweepDry => b.bank1
  | .sweepWet => b.bank2
  | .service => b.bank3

/-- The active bank (R2). -/
def activeBank (b : StartBlock) (s : State) : Bank := bankOfMode b s.start.mode

/-- The stow position of an arm. -/
def stowPosition (b : StartBlock) : ArmId → Nat
  | .one => b.arms.stow1
  | .two => b.arms.stow2

/-- The work position of an arm. -/
def workPosition (b : StartBlock) : ArmId → Nat
  | .one => b.arms.work1
  | .two => b.arms.work2

/-- Channel periods run in LISTENING, RUNNING and SILENCED (10.1 table). -/
def periodsRun (s : State) : Bool :=
  s.start.station = .listening || s.start.station = .running || s.start.station = .silenced

/-- An arm the role populates, with its ARMn_FAULT sticky while HELD: the arm is held by its trip
(R85). -/
def heldByTrip (n : ArmId) (s : State) : Bool :=
  (s.arm n).state = .held && sticky (armFault n) s

/-- The populated arms. -/
def populatedArms (s : State) : List ArmId :=
  [ArmId.one, ArmId.two].filter (fun n => populated (armChannel n) s)

/-- Every populated arm is STOWED (R110, R111). -/
def allStowed (s : State) : Bool := (populatedArms s).all (fun n => (s.arm n).state = .stowed)

/-! ### Own measurements (R45) -/

/-- Quality of the own travel speed (R45). -/
def ownTravelQuality (s : State) : Quality :=
  if sticky .speedSensor s then .bad else if s.drive.meas.closes < 5 then .held else .good

/-- Quality of the own engine speed: BAD while ENGINE_SENSOR is in the active set (R45, R66), and on while the effect
that the drive took of it stands (R161, R167, log 23). -/
def ownEngineQuality (s : State) : Quality :=
  if active .engineSensor s || s.drive.engineBad then .bad
  else if s.drive.meas.closes < 5 then .held
  else .good

/-- Quality of the own loop pressure (R45). -/
def ownPressureQuality (s : State) : Quality :=
  if active .pressureInput s then .bad else .good

/-- The own travel direction: NONE outside FORWARD and REVERSE (R67). -/
def shownDirection (d : Drive) : Option Direction :=
  match d.state with
  | .forward => some .forward
  | .reverse => some .reverse
  | .parked => none
  | .neutral => none
  | .changing => none
  | .tripped => none

/-! ### The travel source (R31) -/

/-- The station whose travel and engine speed this station uses. -/
inductive Source where
  | own
  | peer (n : Fin 15)
  | none
  deriving DecidableEq, Repr

/-- The entry of a station is not ABSENT and its role mask holds DRV. -/
def peerHasDrive (s : State) (n : Fin 15) : Bool :=
  match s.peers[n] with
  | some e => maskHas e.vals.mask .drv
  | none => false

/-- The stations whose entries hold DRV, lowest first. -/
def drivePeers (s : State) : List (Fin 15) := (List.finRange 15).filter (peerHasDrive s)

/-- The travel source (R31). -/
def travelSource (s : State) : Source :=
  if populated .drv s then .own
  else match drivePeers s with
    | n :: _ => .peer n
    | [] => .none

/-- The DRIVE_CONFLICT cause stands in the table (R31). -/
def driveConflict (s : State) : Bool :=
  if populated .drv s then 1 ≤ (drivePeers s).length else 2 ≤ (drivePeers s).length

/-- The quality a source entry's state allows (R32). -/
def entryQuality : EntryState → Quality → Quality
  | .fresh, q => q
  | .stale, q => Quality.worse .held q
  | .lost, _ => .bad

/-- The alert shortcut of an entry (R35). -/
def shortcut (e : PeerEntry) : Bool := e.lastAlert = some .speedSensor

/-- A value with its quality. -/
structure Reading (α : Type) where
  value : α
  quality : Quality
  deriving DecidableEq, Repr

/-- Travel speed of the machine view (R31, R32, R35). -/
def viewTravel (s : State) : Reading Int :=
  match travelSource s with
  | .own => ⟨s.drive.meas.v, ownTravelQuality s⟩
  | .peer n =>
    match s.peers[n] with
    | some e => ⟨e.vals.travel, if shortcut e then .bad else entryQuality e.status e.vals.travelQ⟩
    | none => ⟨0, .bad⟩
  | .none => ⟨0, .bad⟩

/-- Travel direction of the machine view, given under the quality of the travel speed (R32); without a source it
is NONE (log 22). -/
def viewDirection (s : State) : Reading (Option Direction) :=
  let value := match travelSource s with
    | .own => shownDirection s.drive
    | .peer n => (s.peers[n]).bind (fun e => e.vals.direction)
    | .none => none
  ⟨value, (viewTravel s).quality⟩

/-- Engine speed of the machine view (R31, R32). -/
def viewEngine (s : State) : Reading Nat :=
  match travelSource s with
  | .own => ⟨s.drive.meas.nE, ownEngineQuality s⟩
  | .peer n =>
    match s.peers[n] with
    | some e => ⟨e.vals.engine, entryQuality e.status e.vals.engineQ⟩
    | none => ⟨0, .bad⟩
  | .none => ⟨0, .bad⟩

/-- Loop pressure of the machine view (R32, R34); without a source it is BAD (log 22). -/
def viewPressure (s : State) : Reading Nat :=
  match travelSource s with
  | .own => ⟨s.drive.pressure, ownPressureQuality s⟩
  | .peer n =>
    match s.peers[n] with
    | some e => ⟨e.vals.pressure, entryQuality e.status e.vals.pressureQ⟩
    | none => ⟨0, .bad⟩
  | .none => ⟨0, .bad⟩

/-! ### Arms and brushes across the machine (R36 to R39) -/

/-- The arms an entry's role mask holds, with the states it reported. -/
def PeerEntry.arms (e : PeerEntry) : List ArmState :=
  (if maskHas e.vals.mask .arm1 then [e.vals.arm1] else [])
    ++ (if maskHas e.vals.mask .arm2 then [e.vals.arm2] else [])

/-- The brush bytes an entry's role mask holds. -/
def PeerEntry.brushes (e : PeerEntry) : List Byte :=
  (if maskHas e.vals.mask .br1 then [e.vals.brush1] else [])
    ++ (if maskHas e.vals.mask .br2 then [e.vals.brush2] else [])

/-- The non-ABSENT entries. -/
def entries (s : State) : List PeerEntry := s.peers.toList.filterMap id

/-- The FRESH and STALE entries, whose brushes and arms are known to work (R36). -/
def liveEntries (s : State) : List PeerEntry := (entries s).filter (fun e => e.status ≠ .lost)

/-- The states of the own populated arms. -/
def ownArms (s : State) : List ArmState := (populatedArms s).map (fun n => (s.arm n).state)

/-- Arms-down (R37). -/
def armsDown (s : State) : Bool :=
  (ownArms s ++ (entries s).flatMap PeerEntry.arms).any (fun a => a ≠ .stowed)

/-- Brush-working (R38). -/
def brushWorking (s : State) : Bool :=
  (ownArms s ++ (liveEntries s).flatMap PeerEntry.arms).any (fun a => a = .working)

/-- The byte an own brush shows: command / 16 (R39, R89). -/
def ownBrushByte (n : ArmId) (s : State) : Nat := (s.arm n).command / 16

/-- The bytes of the own populated brushes. -/
def ownBrushes (s : State) : List Nat :=
  ([ArmId.one, ArmId.two].filter (fun n => populated (brushChannel n) s)).map (fun n => ownBrushByte n s)

/-- The brush sum, held within 0 to 65535 (R39). -/
def brushSum (s : State) : Reading Nat :=
  let bytes := ownBrushes s ++ ((liveEntries s).flatMap PeerEntry.brushes).map BitVec.toNat
  let held := (liveEntries s).any (fun e => e.status = .stale && !e.brushes.isEmpty)
  ⟨min 65535 ((bytes.map (16 * ·)).sum), if held then .held else .good⟩

/-! ### Droop and test quantities (R8, R16) -/

/-- Engine droop; `none` where it is BAD (R16). -/
def droop (b : StartBlock) (s : State) : Option Nat :=
  let e := viewEngine s
  if e.quality = .bad then none else some (b.line.setSpeed - e.value)

/-- A raw count as a test quantity: `none` where BAD. -/
def rawQuantity (raw : Raw) : Option Nat := if inSpan raw then some raw.toNat else none

/-- A reading as a test quantity: a HELD value is compared as it stands, a BAD one is `none` (R9). -/
def readingQuantity (r : Reading Nat) : Option Nat := if r.quality = .bad then none else some r.value

/-- The test quantity Q (R8); `armPos` is what ARM_POSITION reads for the channel. -/
def testQuantity (b : StartBlock) (s : State) (armPos : Option Nat) : TestQuantity → Option Nat
  | .travelAbs => readingQuantity ⟨(viewTravel s).value.natAbs, (viewTravel s).quality⟩
  | .engineDroop => droop b s
  | .tankLevel => if populated .wtr s then rawQuantity s.water.tank else none
  | .loopPressure => readingQuantity (viewPressure s)
  | .armPosition => armPos
  | .brushSum => readingQuantity (brushSum s)

/-- What ARM_POSITION reads for WTR: ARM1_POS where ARM1 is populated (R8). -/
def waterArmPosition (s : State) : Option Nat :=
  if populated .arm1 s then rawQuantity s.arm1.position else none

end Sys2Proof.Machine
end

