-- ==== Sys2Proof/Machine/Ops.lean ====
section
/-! DEFINITION. The shared operations: arm state changes and the ends of operations, mode change, queues, the inherited causes, SILENCED, warm restart, cold reset and reload. -/

namespace Sys2Proof.Machine

/-! ### The ends of operations (R78, R111, R126) -/

/-- The entry finishes: its result and value are recorded and its claims released (R126). -/
def PendingEntry.finish (e : PendingEntry) (st : PendingState) (value : Word) : PendingEntry :=
  { e with state := st, value := value, claims := ⟨false, false, false⟩ }

/-- A claim set holds an arm. -/
def Claims.hasArm (c : Claims) : ArmId → Bool
  | .one => c.arm1
  | .two => c.arm2

/-- Two claim sets share a resource (R124). -/
def Claims.overlap (c d : Claims) : Bool :=
  (c.stationMode && d.stationMode) || (c.arm1 && d.arm1) || (c.arm2 && d.arm2)

/-- The code of an arm state as an answer value (R178). -/
def armValue (a : ArmState) : Word := BitVec.ofNat 16 a.code

/-- What an arm that has just entered its state does to a pending entry: ARM_MOVE by R78, SET_MODE
TRANSPORT by R111; the value recorded by a SET_MODE entry is never read (log 36). -/
def PendingEntry.afterArm (e : PendingEntry) (n : ArmId) (a : Arm) (everyArmStowed : Bool) : PendingEntry :=
  if e.state = .running ∧ e.claims.hasArm n = true then
    match e.op, a.state with
    | .armMove _ .work, .working => e.finish .done (armValue a.state)
    | .armMove _ .work, .held => e.finish .failed (armValue a.state)
    | .armMove _ .work, .stowed => e.finish .failed (armValue a.state)
    | .armMove _ .work, .lifting => if a.resume then e else e.finish .failed (armValue a.state)
    | .armMove _ .work, .lowering => e
    | .armMove _ .work, .reverseLifted => e
    | .armMove _ .stow, .stowed => e.finish .done (armValue a.state)
    | .armMove _ .stow, .held => e.finish .failed (armValue a.state)
    | .armMove _ .stow, .lowering => e
    | .armMove _ .stow, .working => e
    | .armMove _ .stow, .lifting => e
    | .armMove _ .stow, .reverseLifted => e
    | .setTransport, .held => e.finish .failed 0
    | .setTransport, _ => if everyArmStowed then e.finish .done 0 else e
  else e

/-- The arm hands its new state to the pending table (R78, R111, R126). -/
def endOperations (n : ArmId) (s : State) : State :=
  s.withReq { s.req with
    table := s.req.table.map (fun e => e.afterArm n (s.arm n) (allStowed s)) }

/-! ### Arm state changes -/

/-- The brush stops: command 0, ramp output set to 0 from outside (R87, R15). -/
def stopBrush (n : ArmId) (s : State) : State :=
  let site := s.sp.brush n
  (s.withArm n { s.arm n with command := 0 }).withBrush n { site with ramp := site.ramp.setOut 0 }

/-- The move timer after a change of arm state: it starts at each entry into LOWERING or LIFTING from
another state and stops on leaving both (R77). -/
def moveTimerAfter (before after : ArmState) (timer : Timer) : Timer :=
  if after = .lowering ∨ after = .lifting then
    if before = after then timer else some 0
  else none

/-- The fields of an arm that enters a state: the blind timer stops on leaving WORKING (R84). -/
def Arm.entered (a : Arm) (st : ArmState) (resume : Bool) : Arm :=
  { a with
    state := st
    resume := resume
    moveTimer := moveTimerAfter a.state st a.moveTimer
    blindTimer := if st = .working then a.blindTimer else none }

/-- An arm takes a state and a resume flag, and hands both to the pending table (R78). A change of state stops
the brush on leaving WORKING (R87) and makes a report due (R89). A stow demand on a LIFTING arm keeps the state and
clears the flag, and that ends a RUNNING ARM_MOVE WORK too (R78, R109). -/
def enterArm (n : ArmId) (st : ArmState) (resume : Bool) (s : State) : State :=
  let before := (s.arm n).state
  let t := s.withArm n ((s.arm n).entered st resume)
  if before = st then endOperations n t
  else
    let t := if before = .working then stopBrush n t else t
    endOperations n (makeDue t)

/-- A stow demand on one arm (R79). -/
def stowDemand (n : ArmId) (s : State) : State :=
  match (s.arm n).state with
  | .stowed => s
  | .lowering => enterArm n .lifting false s
  | .working => enterArm n .lifting false s
  | .lifting => enterArm n .lifting false s
  | .reverseLifted => enterArm n .stowed false s
  | .held => if heldByTrip n s then s else enterArm n .lifting false s

/-- Do an operation on each populated arm, ARM1 first. -/
def forArms (f : ArmId → State → State) (s : State) : State :=
  let t := if populated .arm1 s then f .one s else s
  if populated .arm2 s then f .two t else t

/-! ### Water channel moves -/

/-- The channel is PRIMING, SPRAYING or DRY_WAIT. -/
def WaterState.active : WaterState → Bool
  | .priming => true
  | .spraying => true
  | .dryWait => true
  | .off => false
  | .dryLocked => false

/-- Pump 0, valves closed, every timer stopped, slot 0, and the WTR ramp output set to 0 (R96, R101). -/
def quietWater (s : State) : State :=
  (s.withWater { s.water with
    slot := 0, primeTimer := none, lossTimer := none, dryWaitTimer := none, patternTimer := none,
    pump := 0, valves := 0 }).withWaterSite
      { s.sp.wtr with ramp := s.sp.wtr.ramp.setOut 0 }

/-- The water channel takes a state; a change makes a report due (R105). -/
def enterWater (st : WaterState) (s : State) : State :=
  let t := s.withWater { s.water with state := st }
  if s.water.state = st then t else makeDue t

/-- The move to OFF on a lost condition, the dry-failure count kept (R96). -/
def waterOff (s : State) : State := enterWater .off (quietWater s)

/-- An active channel goes to OFF; OFF and DRY_LOCKED stay (R96, R104). -/
def stopWater (s : State) : State := if s.water.state.active then waterOff s else s

/-! ### Mode change (R107) -/

/-- The bank switch of the setpoint engine (R3). -/
def bankSwitch (sp : Setpoint) : Setpoint :=
  { drv := { sp.drv with ramp := sp.drv.ramp.unset }
    br1 := { sp.br1 with ramp := sp.br1.ramp.unset }
    br2 := { sp.br2 with ramp := sp.br2.ramp.unset }
    wtr := { sp.wtr with ramp := sp.wtr.ramp.unset } }

/-- The water channel at a mode change to N: the enable flag is set on entry to SWEEP_WET and clear in
every other mode, and an active channel stops unless N is SWEEP_WET (R94, R96). -/
def waterModeChange (n : Mode) (s : State) : State :=
  if populated .wtr s then
    let t := s.withWater { s.water with enable := decide (n = .sweepWet) }
    if n = .sweepWet then t else stopWater t
  else s

/-- Modes whose entry is a stow demand (R79). -/
def stowsArms (n : Mode) : Bool := n = .transport || n = .service

/-- A mode change to a mode other than the current one (R107). -/
def changeMode (n : Mode) (s : State) : State :=
  let t := (s.withStart { s.start with mode := n }).withSp (bankSwitch s.sp)
  let t := if stowsArms n then forArms stowDemand t else t
  makeDue (waterModeChange n t)

/-! ### The inherited causes (R33) -/

/-- The peer table tests its three causes and hands them over, in RUNNING and SILENCED (R33). -/
def testInherited (s : State) : State :=
  if s.start.station = .running ∨ s.start.station = .silenced then
    let away := decide (travelSource s ≠ .own)
    let travelLost := away && decide ((viewTravel s).quality = .bad)
    let engineLost := away && decide ((viewEngine s).quality = .bad)
    let conflict := driveConflict s
    handOver .driveConflict conflict (handOver .engineLost engineLost (handOver .travelLost travelLost s))
  else s

/-- On entry to LISTENING or LOADING the three causes become absent (R33). -/
def dropInherited (s : State) : State :=
  handOver .driveConflict false (handOver .engineLost false (handOver .travelLost false s))

/-! ### Answers (R146, R148) -/

/-- This station's report is on the line, one that a warm restart or a reload caught there too (R146, log 33). -/
def reportOnLine (s : State) : Bool :=
  match s.line.onLine with
  | some x => x.owner = .report
  | none => false

/-- The hold mark of a DONE or FAILED answer queued now (R146). -/
def holdMark (s : State) : Option Byte :=
  if reportOnLine s then
    if s.line.reportDue then some (s.line.seq + 1) else some s.line.seq
  else if s.line.reportDue then some s.line.seq else none

/-- Queue an answer, with its mark where its result takes one (R146, R148). -/
def queueAnswer (dest tag kind : Nibble) (r : Result) (value : Word) (restarts : Bool) (s : State) :
    State :=
  let mark := if r = .done ∨ r = .failed then holdMark s else none
  s.withLine { s.line with
    answers := s.line.answers ++ [⟨dest, tag, kind, r, value, mark, restarts⟩] }

/-! ### Outgoing side (R133, R136, R137) -/

/-- A frame of this station that a warm restart or a reload catches on the line: its queue is emptied, and its end
reaches no block (R153, R172). A report has no queue, and its end still steps the line port's sequence counter (R151,
log 33). -/
def Sending.caught (x : Sending) : Sending := if x.owner = .report then x else { x with owner := .orphan }

/-- Withdraw the queued frame of a tag; a frame already on the line is sent to its end and reaches no
entry (R145, R149). -/
def withdrawFrame (tag : Nibble) (s : State) : State :=
  let onLine := match s.line.onLine with
    | some x => if x.owner = .request tag then some { x with owner := .orphan } else some x
    | none => none
  s.withLine { s.line with
    requests := s.line.requests.filter (fun q => q.tag ≠ tag), onLine := onLine }

/-- Remove the outgoing entry of a tag with its queued frame. -/
def removeOutgoing (tag : Nibble) (s : State) : State :=
  withdrawFrame tag
    (s.withReq { s.req with outgoing := s.req.outgoing.filter (fun e => e.tag ≠ tag) })

/-- Replace the outgoing entry of a tag. -/
def mapOutgoing (tag : Nibble) (f : OutgoingEntry → OutgoingEntry) (s : State) : State :=
  s.withReq { s.req with
    outgoing := s.req.outgoing.map (fun e => if e.tag = tag then f e else e) }

/-- An entry goes to QUEUED and its frame joins the request queue at its back (R137, R149). -/
def requeue (e : OutgoingEntry) (s : State) : State :=
  let t := mapOutgoing e.tag (fun x => { x with state := .queued, timer := none }) s
  t.withLine { t.line with requests := t.line.requests ++ [⟨e.dest, e.tag, e.kind, e.args⟩] }

/-- A given-up entry is removed and hands over REQUEST_LOST (R136). -/
def giveUp (tag : Nibble) (s : State) : State := raiseOnce .requestLost (removeOutgoing tag s)

/-! ### SILENCED (R174) -/

/-- An arm at entry to SILENCED (R80). -/
def silenceArm (n : ArmId) (s : State) : State :=
  match (s.arm n).state with
  | .lowering => enterArm n .held false s
  | .working => enterArm n .held false s
  | .lifting => enterArm n .held false s
  | .reverseLifted => enterArm n .stowed false s
  | .stowed => s
  | .held => s

/-- Entry to SILENCED with LINE_FAULT (R142, R143, R174). The drive trips at its next period (R54). -/
def enterSilenced (s : State) : State :=
  let t := raiseOnce .lineFault s
  let t := t.withStart { t.start with station := .silenced, joinTimer := none }
  let t := t.withLine { t.line with reportTimer := none }
  stopWater (forArms silenceArm t)

/-! ### Warm restart (R175) -/

/-- An arm at warm restart: out of STOWED it lifts with its resume flag clear and its move timer started
afresh, unless it is held by its trip; blind timer stopped, brush command 0, trim kept (R70). -/
def warmArm (n : ArmId) (s : State) : Arm :=
  let a := { s.arm n with blindTimer := none, command := 0 }
  if populated (armChannel n) s then
    if a.state = .stowed ∨ heldByTrip n s = true then a
    else { a with state := .lifting, resume := false, moveTimer := some 0 }
  else a

/-- A blend site at warm restart: output 0, flags clear, k 256 (R7, R10, R11, R18). -/
def warmSite (x : BlendSite) : BlendSite := ⟨x.ramp.setOut 0, .clear, false, 256⟩

/-- The setpoint engine at warm restart: the DRV ramp keeps its output (R11). -/
def warmSetpoint (sp : Setpoint) : Setpoint :=
  { drv := ⟨sp.drv.ramp.warm, .clear, .clear, 256⟩
    br1 := warmSite sp.br1
    br2 := warmSite sp.br2
    wtr := warmSite sp.wtr }

/-- A debouncer at warm restart: the settling timer stops, and starts at once where the raw level
differs from the debounced level (R132). -/
def warmDebouncer (d : Debouncer) : Debouncer :=
  { d with settle := if d.raw = d.level then none else some 0 }

/-- The line port at warm restart (R153). -/
def warmLine (l : LinePort) : LinePort :=
  { l with
    rx := [], alertSlot := none, answers := [], requests := []
    reportDue := false, reportTimer := none, guardArmed := true, heldOff := false
    onLine := l.onLine.map Sending.caught }

/-- The drive channel at warm restart (R46). -/
def warmDrive (d : Drive) : Drive :=
  { d with state := .neutral, pendDir := none, parkTimer := none, dwellTimer := none }

/-- The water channel at warm restart (R92). -/
def warmWater (w : Water) : Water :=
  { w with
    state := .off, enable := false, slot := 0
    primeTimer := none, lossTimer := none, dryWaitTimer := none, patternTimer := none
    pump := 0, valves := 0 }

/-- The fault unit at warm restart: LINE_FAULT leaves both sets (R157, R158). -/
def warmFaults (f : Faults) : Faults :=
  { f with cause := putKind f.cause .lineFault false, sticky := putKind f.sticky .lineFault false }

/-- The warm restart, one event (R175). -/
def warmRestart (s : State) : State :=
  dropInherited
    { s with
      start := { s.start with station := .listening, mode := .transport, joinTimer := some 0 }
      line := warmLine s.line
      peers := peersAbsent
      req := { s.req with table := [], outgoing := [], switches := s.req.switches.map warmDebouncer }
      sp := warmSetpoint s.sp
      drive := if populated .drv s then warmDrive s.drive else s.drive
      arm1 := warmArm .one s
      arm2 := warmArm .two s
      water := if populated .wtr s then warmWater s.water else s.water
      faults := warmFaults s.faults }

/-! ### Cold reset and loading (R169, R170, R172) -/

/-- A debouncer through a reset: the pin keeps its level (R132). -/
def resetDebouncer (d : Debouncer) : Debouncer := ⟨d.raw, false, none⟩

/-- Every block at its cold-reset value; the commands that wait, the levels at the pins and the counter of
free values are no block's state and stay (R169). -/
def coldState (s : State) : State :=
  { State.reset with
    pending := s.pending
    free := s.free
    pins := { s.pins with resetN := false }
    req := { RequestUnit.reset with switches := s.req.switches.map resetDebouncer } }

/-- The cold-reset value of an arm once the role is known: HELD where populated (R70), STOWED where not
(R68). -/
def armAtRelease (role : BitVec 3) (n : ArmId) : Arm :=
  if maskHas (roleMask role) (armChannel n) then .reset else .unpopulated

/-- The start of LOADING: the straps are sampled and the read of the start memory begins with the command
03 and the address 0000 (R169, R170). -/
def beginLoading (straps : Straps) (s : State) : State :=
  { s with
    pins := { s.pins with resetN := true }
    start := { s.start with
      station := .loading, number := straps.stn, role := straps.role
      spi := ⟨true, [0x03#8, 0x00#8, 0x00#8], 0⟩ }
    arm1 := armAtRelease straps.role .one
    arm2 := armAtRelease straps.role .two }

/-- The reload: every block takes its cold-reset value but the counters and the report sequence counter,
and a frame on the line is sent to its end (R172, R153). -/
def reload (straps : Straps) (s : State) : State :=
  let t := coldState s
  beginLoading straps
    (t.withLine { t.line with
      counters := s.line.counters, seq := s.line.seq, onLine := s.line.onLine.map Sending.caught,
      guardTime := s.line.guardTime })

end Sys2Proof.Machine
end

