-- ==== Sys2Proof/Machine/Clock.lean ====
section
/-! DEFINITION. Time: which timers have reached their time, and the millisecond that passes on an empty queue (log 1, log 2). -/

namespace Sys2Proof.Machine

/-- A timer runs and has reached a limit (log 2). -/
def Timer.reached (t : Timer) (limit : Nat) : Bool :=
  match t with
  | some n => limit ≤ n
  | none => false

/-- A timer of the image: due where it has reached the limit the image gives; without an image none is. -/
def dueBy (s : State) (t : Timer) (limit : StartBlock → Nat) : Bool :=
  match s.start.image with
  | some b => Timer.reached t (limit b)
  | none => false

/-- The drive measures and its silence timers run: DRV populated, in LISTENING, RUNNING and SILENCED
(R21, R65). -/
def driveMeasures (s : State) : Bool := populated .drv s && periodsRun s

/-! ### What is due -/

/-- The join timer, five report periods (R173). -/
def joinDue (s : State) : Bool :=
  s.start.station = .listening && dueBy s s.start.joinTimer (fun b => 50 * b.line.period)

/-- The park timer (R50, R55). -/
def parkDue (s : State) : Bool := dueBy s s.drive.parkTimer (fun b => b.drive.parkDelay)

/-- The dwell timer (R52). -/
def dwellDue (s : State) : Bool := dueBy s s.drive.dwellTimer (fun b => b.drive.dwellTime)

/-- The speed silence timer has passed 500 ms and its cause is not yet present (R65). -/
def speedSilenceDue (s : State) : Bool :=
  driveMeasures s && decide (500 ≤ s.drive.speedSilence) && !hasKind s.faults.cause .speedSensor

/-- The engine silence timer has passed 500 ms and its cause is not yet present (R66). -/
def engineSilenceDue (s : State) : Bool :=
  driveMeasures s && decide (500 ≤ s.drive.engineSilence) && !hasKind s.faults.cause .engineSensor

/-- The 20 ms bucket close (R19). -/
def bucketDue (s : State) : Bool := driveMeasures s && Timer.reached s.drive.meas.bucketTimer 20

/-- The move timer of an arm (R77). -/
def moveDue (n : ArmId) (s : State) : Bool := dueBy s (s.arm n).moveTimer (fun b => b.arms.moveTime)

/-- The blind timer of an arm (R84). -/
def blindDue (n : ArmId) (s : State) : Bool := dueBy s (s.arm n).blindTimer (fun b => b.arms.blindTime)

/-- The prime timer (R97). -/
def primeDue (s : State) : Bool := dueBy s s.water.primeTimer (fun b => b.water.primeTime)

/-- The loss timer (R100). -/
def lossDue (s : State) : Bool := dueBy s s.water.lossTimer (fun b => b.water.lossTime)

/-- The dry wait timer (R101). -/
def dryWaitDue (s : State) : Bool := dueBy s s.water.dryWaitTimer (fun b => b.water.dryWaitTime)

/-- The pattern timer, 100 ms (R99). -/
def patternDue (s : State) : Bool := Timer.reached s.water.patternTimer 100

/-- A FRESH entry whose age has passed 20 × P ms (R28). -/
def staleDue (n : Fin 15) (s : State) : Bool :=
  match s.peers[n] with
  | some e => e.status = .fresh && decide (20 * e.vals.period ≤ e.age)
  | none => false

/-- A FRESH or STALE entry whose age has passed 50 × P ms (R29). -/
def lostDue (n : Fin 15) (s : State) : Bool :=
  match s.peers[n] with
  | some e => e.status ≠ .lost && decide (50 * e.vals.period ≤ e.age)
  | none => false

/-- A pending entry has reached the discard time (R127). -/
def discardDue (e : PendingEntry) (s : State) : Bool :=
  dueBy s (some e.time) (fun b => b.line.discardTime)

/-- The repeat timer of an outgoing entry (R137). -/
def repeatDue (e : OutgoingEntry) (s : State) : Bool :=
  dueBy s e.timer (fun b => b.line.repeatInterval)

/-- The settling timer of a switch, 20 ms (R132). -/
def settlingDue (i : Fin 8) (s : State) : Bool := Timer.reached (s.req.switches[i]).settle 20

/-- The period of the report timer: P × 10 ms, and 100 ms in FAILED_START (R150). -/
def reportPeriod (s : State) : Nat :=
  match s.start.image with
  | some b => 10 * b.line.period
  | none => 100

/-- The report timer (R150). -/
def reportTimerDue (s : State) : Bool := Timer.reached s.line.reportTimer (reportPeriod s)

/-- The armed guard has measured 2 ms of sending (R143). -/
def guardDue (s : State) : Bool :=
  s.line.onLine.isSome && s.line.guardArmed && decide (2 ≤ s.line.guardTime)

/-- One command where it is due. -/
def whenDue (due : Bool) (i : Instr) : List Instr := if due then [i] else []

/-- The expiries of the drive channel that are due. -/
def driveExpiries (s : State) : List Instr :=
  whenDue (parkDue s) .parkTimerExpiry ++ whenDue (dwellDue s) .dwellTimerExpiry
    ++ whenDue (speedSilenceDue s) .speedSilenceExpiry
    ++ whenDue (engineSilenceDue s) .engineSilenceExpiry ++ whenDue (bucketDue s) .bucketClose

/-- The expiries of one arm that are due. -/
def armExpiries (s : State) (n : ArmId) : List Instr :=
  whenDue (moveDue n s) (.moveTimerExpiry n) ++ whenDue (blindDue n s) (.blindTimerExpiry n)

/-- The expiries of the water channel that are due. -/
def waterExpiries (s : State) : List Instr :=
  whenDue (primeDue s) .primeTimerExpiry ++ whenDue (lossDue s) .lossTimerExpiry
    ++ whenDue (dryWaitDue s) .dryWaitExpiry ++ whenDue (patternDue s) .patternTimerExpiry

/-- The expiry of one peer entry that is due: an entry whose STALE and LOST expiries are both due goes to
LOST (R29). -/
def peerExpiry (s : State) (n : Fin 15) : List Instr :=
  if lostDue n s then [.lostExpiry n] else whenDue (staleDue n s) (.staleExpiry n)

/-- The expiries of the request unit that are due. -/
def requestExpiries (s : State) : List Instr :=
  (s.req.table.filter (fun e => discardDue e s)).map (fun e => Instr.entryDiscard e.requester e.tag)
    ++ (s.req.outgoing.filter (fun e => repeatDue e s)).map (fun e => Instr.repeatTimerExpiry e.tag)
    ++ (List.finRange 8).flatMap (fun i => whenDue (settlingDue i s) (.settlingTimerExpiry i))

/-- The expiries of the line port that are due. -/
def lineExpiries (s : State) : List Instr :=
  whenDue (reportTimerDue s) .reportTimerExpiry ++ whenDue (guardDue s) .babbleGuardCutoff

/-- The expiries that are due, in the fixed order of log 1. -/
def dueExpiries (s : State) : List Instr :=
  whenDue (joinDue s) .joinTimerExpiry ++ driveExpiries s ++ armExpiries s .one ++ armExpiries s .two
    ++ waterExpiries s ++ (List.finRange 15).flatMap (peerExpiry s) ++ requestExpiries s
    ++ lineExpiries s

/-! ### One millisecond -/

/-- A running timer grows, a stopped one stays. -/
def Timer.grow (t : Timer) : Timer := t.map (· + 1)

/-- The age of an entry grows to 65535 (R28). -/
def PeerEntry.older (e : PeerEntry) : PeerEntry := { e with age := min 65535 (e.age + 1) }

/-- The drive channel's timers: the speed silence timer grows while the measurements run (R65), the engine
silence timer while the drive is out of PARKED as well (R66). -/
def driveElapse (s : State) : Drive :=
  let d := s.drive
  { d with
    parkTimer := Timer.grow d.parkTimer
    dwellTimer := Timer.grow d.dwellTimer
    speedSilence := if driveMeasures s then d.speedSilence + 1 else d.speedSilence
    engineSilence :=
      if driveMeasures s && decide (d.state ≠ .parked) then d.engineSilence + 1 else d.engineSilence
    meas := { d.meas with bucketTimer := Timer.grow d.meas.bucketTimer } }

/-- The timers of an arm. -/
def Arm.elapse (a : Arm) : Arm :=
  { a with moveTimer := Timer.grow a.moveTimer, blindTimer := Timer.grow a.blindTimer }

/-- The timers of the water channel. -/
def Water.elapse (w : Water) : Water :=
  { w with
    primeTimer := Timer.grow w.primeTimer
    lossTimer := Timer.grow w.lossTimer
    dryWaitTimer := Timer.grow w.dryWaitTimer
    patternTimer := Timer.grow w.patternTimer }

/-- The times of the request unit (R125, R132, R135). -/
def RequestUnit.elapse (r : RequestUnit) : RequestUnit :=
  { r with
    table := r.table.map (fun e => { e with time := e.time + 1 })
    outgoing := r.outgoing.map (fun e => { e with timer := Timer.grow e.timer })
    switches := r.switches.map (fun d => { d with settle := Timer.grow d.settle }) }

/-- The report timer, and the guard while a frame is being sent (R143, R150). -/
def LinePort.elapse (l : LinePort) : LinePort :=
  { l with
    reportTimer := Timer.grow l.reportTimer
    guardTime := if l.onLine.isSome then l.guardTime + 1 else l.guardTime }

/-- One millisecond passes. -/
def elapse (s : State) : State :=
  { s with
    start := { s.start with joinTimer := Timer.grow s.start.joinTimer }
    line := s.line.elapse
    peers := s.peers.map (fun e => e.map PeerEntry.older)
    req := s.req.elapse
    drive := driveElapse s
    arm1 := s.arm1.elapse
    arm2 := s.arm2.elapse
    water := s.water.elapse }

/-- The step on an empty queue: one millisecond passes, and the expiries that fall due join the queue
(log 1). -/
def tick (s : State) : State :=
  let t := elapse s
  t.withPending (t.pending ++ dueExpiries t)

end Sys2Proof.Machine
end

