-- ==== Sys2Proof/Machine/Arms.lean ====
section
/-! DEFINITION. The arm and brush channels (chapter 4): control period, move and blind timers, brush chain, lower preconditions. -/

namespace Sys2Proof.Machine

/-! ### Preconditions (R73) -/

/-- Travel tests 3, 4 and 5 of R73; a HELD speed is tested as it stands. -/
def travelAllowsLowering (b : StartBlock) (s : State) : Bool :=
  let v := viewTravel s
  decide (v.quality ≠ .bad) && decide (-(b.arms.reverseLift : Int) ≤ v.value)
    && decide (v.value.natAbs ≤ b.arms.lowerSpeed)

/-- The lower preconditions (R73). -/
def lowerAllowed (b : StartBlock) (n : ArmId) (s : State) : Bool :=
  (s.start.mode = .sweepDry || s.start.mode = .sweepWet) && decide (s.start.station = .running)
    && travelAllowsLowering b s && !heldByTrip n s

/-! ### Steps 1 and 2 (R69, R77, R85) -/

/-- The position pin of an arm takes a level. -/
def setPositionPin (n : ArmId) (raw : Raw) (s : State) : State :=
  match n with
  | .one => s.withPins { s.pins with arm1 := raw }
  | .two => s.withPins { s.pins with arm2 := raw }

/-- The level at the position pin of an arm. -/
def positionPin (n : ArmId) (s : State) : Raw :=
  match n with
  | .one => s.pins.arm1
  | .two => s.pins.arm2

/-- Step 1: the position is recorded, the position cause handed over, and the stall cause of the last expiry
ends (R69, R77). -/
def readPosition (n : ArmId) (s : State) : State :=
  let t := s.withArm n { s.arm n with position := positionPin n s }
  handOver (armFault n) (!inSpan (positionPin n s)) (handOverStall n false t)

/-- Step 2: a BAD position takes an arm in any other state to HELD (R85). -/
def positionFaultMove (n : ArmId) (s : State) : State :=
  if !inSpan (s.arm n).position ∧ (s.arm n).state ≠ .held then enterArm n .held false s else s

/-! ### Step 3 (R76, R81, R82, R83, R84) -/

/-- The thresholds of LOWERING and LIFTING, tested on a GOOD position (R76). -/
def arrivalTest (b : StartBlock) (n : ArmId) (s : State) : State :=
  let a := s.arm n
  if !inSpan a.position then s
  else
    match a.state with
    | .lowering => if a.position.toNat ≤ workPosition b n then enterArm n .working false s else s
    | .lifting =>
      if stowPosition b n ≤ a.position.toNat then
        if a.resume then enterArm n .reverseLifted true s else enterArm n .stowed false s
      else s
    | .stowed => s
    | .working => s
    | .reverseLifted => s
    | .held => s

/-- The travel speed is GOOD or HELD and below minus the reverse-lift threshold (R81). -/
def reversing (b : StartBlock) (s : State) : Bool :=
  decide ((viewTravel s).quality ≠ .bad) && decide ((viewTravel s).value < -(b.arms.reverseLift : Int))

/-- The reverse lift of an arm in LOWERING or WORKING (R81). -/
def reverseLiftTest (b : StartBlock) (n : ArmId) (s : State) : State :=
  if ((s.arm n).state = .lowering ∨ (s.arm n).state = .working) ∧ reversing b s = true then
    enterArm n .lifting true s
  else s

/-- The resume of an arm that stood in REVERSE_LIFTED when step 3 began (R82, log 12). -/
def resumeTest (b : StartBlock) (n : ArmId) (stood : ArmState) (s : State) : State :=
  let v := viewTravel s
  if stood = .reverseLifted ∧ (s.arm n).state = .reverseLifted ∧ v.quality ≠ .bad
      ∧ (b.arms.resume : Int) ≤ v.value ∧ lowerAllowed b n s = true then
    enterArm n .lowering false s
  else s

/-- The blind timer's expiry: the arm lifts with its resume flag clear, and where the travel source is not
this station the TRAVEL_LOST record is handed over (R84). -/
def blindExpired (n : ArmId) (s : State) : State :=
  let t := enterArm n .lifting false s
  if travelSource t = .own then t else raiseOnce .travelLost t

/-- The start and the end of blind running in WORKING (R83, R84); a blind time of 0 expires at the period that
starts it. -/
def blindTest (b : StartBlock) (n : ArmId) (s : State) : State :=
  let a := s.arm n
  if a.state ≠ .working then s
  else if (viewTravel s).quality = .bad then
    if a.blindTimer.isSome then s
    else if b.arms.blindTime = 0 then blindExpired n s
    else s.withArm n { a with blindTimer := some 0 }
  else s.withArm n { a with blindTimer := none }

/-- Step 3, its tests in the order R72 names them (log 12). -/
def armTests (b : StartBlock) (n : ArmId) (s : State) : State :=
  let stood := (s.arm n).state
  blindTest b n (resumeTest b n stood (reverseLiftTest b n (arrivalTest b n s)))

/-! ### Steps 4 and 5 (R83, R86, R87, R18) -/

/-- The setpoint state of a brush after a period in WORKING: the blind command while travel is BAD (R83), and
the chain of R1 otherwise (R86). -/
def brushSite (b : StartBlock) (n : ArmId) (s : State) : BlendSite :=
  let site := s.sp.brush n
  let bank := activeBank b s
  let v := viewTravel s
  if v.quality = .bad then
    if site.ramp.out = (bank.blindCommand : Int) then site
    else { site with ramp := site.ramp.setOut (bank.blindCommand : Int) }
  else
    let q := testQuantity b s (rawQuantity (s.arm n).position) bank.brRule.quantity
    site.chain bank.brush bank.brRule bank.brTimes v.value.natAbs (s.arm n).trim q

/-- The factor k of the BR pair (R17). -/
def brushFactor (b : StartBlock) (s : State) : Nat :=
  factor (activeBank b s).brPair (activeBank b s).blindShare (droop b s)

/-- Steps 4 and 5: the chain and the derated command in WORKING, command 0 elsewhere, and k in every period
(R72, R86, R87, R18). -/
def brushPeriod (b : StartBlock) (n : ArmId) (s : State) : State :=
  let k := brushFactor b s
  if (s.arm n).state = .working then
    let site := brushSite b n s
    (s.withBrush n { site with k := k }).withArm n
      { s.arm n with command := derateNat site.ramp.out k }
  else
    (s.withBrush n { s.sp.brush n with k := k }).withArm n { s.arm n with command := 0 }

/-- The five steps of a period (R72). -/
def armPeriod (b : StartBlock) (n : ArmId) (s : State) : State :=
  brushPeriod b n (armTests b n (positionFaultMove n (readPosition n s)))

/-! ### The meanings -/

/-- ARM_CONTROL_PERIOD (R72): a period of a populated arm in LISTENING, RUNNING or SILENCED. -/
def execArmControlPeriod (n : ArmId) (raw : Raw) (s : State) : Host.Outcome State Fault Refusal :=
  let t := setPositionPin n raw s
  match t.start.image with
  | some b =>
    if populated (armChannel n) t && periodsRun t then .next (armPeriod b n t) else .next t
  | none => .next t

/-- The stall: a moving arm goes to HELD with its resume flag clear and the stall cause is present (R77). -/
def stall (n : ArmId) (s : State) : State := handOverStall n true (enterArm n .held false s)

/-- MOVE_TIMER_EXPIRY (R77). -/
def execMoveTimerExpiry (n : ArmId) (s : State) : Host.Outcome State Fault Refusal :=
  if moveDue n s then .next (stall n s) else .next s

/-- BLIND_TIMER_EXPIRY (R84). -/
def execBlindTimerExpiry (n : ArmId) (s : State) : Host.Outcome State Fault Refusal :=
  if blindDue n s ∧ (s.arm n).state = .working then .next (blindExpired n s) else .next s

end Sys2Proof.Machine
end

