-- ==== Sys2Proof/Machine/Drive.lean ====
section
/-! DEFINITION. The drive channel: measurements (1.6), drive states (3.2), the drive chain (3.3) and the sensor faults (3.4). -/

namespace Sys2Proof.Machine

/-! ### Reading the inputs (R42, R43, R44) -/

/-- The selector value; `none` is NEUTRAL (R42). -/
def selector (s : State) : Option Direction :=
  if s.start.station = .running then
    match s.pins.drive.dirF, s.pins.drive.dirR with
    | true, false => some .forward
    | false, true => some .reverse
    | false, false => none
    | true, true => none
  else none

/-- A raw count in bar (R44). -/
def barOf (fullScale : Nat) (raw : Raw) : Nat := min 500 ((raw.toNat - 82) * fullScale / 3931)

/-- At a drive period or bucket close the drive takes ENGINE_SENSOR from the active set, so the effect of one that is
clear ends (R161, R167, log 23). -/
def takeEngineSensor (s : State) : Drive := { s.drive with engineBad := active .engineSensor s }

/-- Both loop-pressure inputs are valid (R44). -/
def pressureValid (s : State) : Bool := inSpan s.pins.drive.loopA && inSpan s.pins.drive.loopB

/-- Step 1 of a period: the causes of DIR_INPUT, PEDAL_INPUT and PRESSURE_INPUT are handed over, the loop
pressure is taken while both inputs are valid (R42, R43, R44, R47), and ENGINE_SENSOR is taken (R161, R167). -/
def readDriveInputs (b : StartBlock) (s : State) : State :=
  let s := s.withDrive (takeEngineSensor s)
  let i := s.pins.drive
  let s := handOver .dirInput (decide (s.start.station = .running) && i.dirF && i.dirR) s
  let s := handOver .pedalInput (!inSpan i.pedal) s
  let s :=
    if pressureValid s then
      s.withDrive { s.drive with
        pressure := max (barOf b.line.fullScale i.loopA) (barOf b.line.fullScale i.loopB) }
    else s
  handOver .pressureInput (!pressureValid s) s

/-! ### State changes (R48 to R55) -/

/-- Entry to FORWARD or REVERSE: last direction set, brake released, timers stopped (R48, R50, R51, R52). -/
def enterDirection (d : Direction) (x : Drive) : Drive :=
  { x with
    state := match d with
      | .forward => .forward
      | .reverse => .reverse
    lastDir := some d, pendDir := none, brakeApplied := false, parkTimer := none, dwellTimer := none }

/-- Entry to CHANGING (R49, R50, R64). -/
def enterChanging (d : Direction) (x : Drive) : Drive :=
  { x with state := .changing, pendDir := some d, trim := 0, parkTimer := none }

/-- Entry to NEUTRAL from FORWARD or REVERSE (R49, R64). -/
def enterNeutral (x : Drive) : Drive := { x with state := .neutral, trim := 0 }

/-- Entry to PARKED: brake applied, trim 0 (R50, R53, R55). -/
def enterParked (x : Drive) : Drive :=
  { x with state := .parked, brakeApplied := true, trim := 0, parkTimer := none }

/-- Entry to TRIPPED (R54). -/
def enterTripped (x : Drive) : Drive :=
  { x with state := .tripped, trim := 0, parkTimer := none, dwellTimer := none, pendDir := none }

/-- The kinds that trip the drive are sticky (R54, R160). -/
def driveTripSticky (s : State) : Bool := sticky .pedalInput s || sticky .speedSensor s

/-- The DRV ramp sets up afresh, whatever the time it was set up for (R55, R59). -/
def freshDrvRamp (s : State) : State :=
  s.withSp { s.sp with drv := { s.sp.drv with ramp := s.sp.drv.ramp.unset } }

/-- Step 2: the trip test (R54); entry to TRIPPED makes the ramp set up afresh (R59). -/
def tripTest (s : State) : State :=
  if s.drive.state ≠ .tripped ∧ (driveTripSticky s = true ∨ s.start.station = .silenced) then
    freshDrvRamp (s.withDrive (enterTripped s.drive))
  else s

/-- The stop test; it passes whatever v reads when v is BAD (R50, R155). -/
def stopTest (b : StartBlock) (s : State) : Bool :=
  ownTravelQuality s = .bad || decide (s.drive.meas.v.natAbs ≤ b.drive.stopSpeed)

/-- The machine stands: o is 0 and the stop test passes. -/
def atRest (b : StartBlock) (s : State) : Bool :=
  decide (s.sp.drv.ramp.out = 0) && stopTest b s

/-- The pedal is GOOD and above the deadband (R43). -/
def pedalPressed (b : StartBlock) (s : State) : Bool :=
  inSpan s.pins.drive.pedal && decide (b.drive.pedalDeadband < s.pins.drive.pedal.toNat)

/-- The park timer starts if it is stopped; a park delay of 0 expires at that same period (R50). -/
def startPark (b : StartBlock) (expired : Drive → Drive) (x : Drive) : Drive :=
  if x.parkTimer.isSome then x
  else if b.drive.parkDelay = 0 then expired x
  else { x with parkTimer := some 0 }

/-- PARKED (R48). -/
def periodParked (b : StartBlock) (s : State) : Drive :=
  match selector s with
  | some d =>
    if s.start.station = .running ∧ s.start.mode ≠ .service ∧ pedalPressed b s = true then
      enterDirection d s.drive
    else s.drive
  | none => s.drive

/-- FORWARD or REVERSE, with its own direction (R49). -/
def periodDriving (own : Direction) (s : State) : Drive :=
  match selector s with
  | none => enterNeutral s.drive
  | some d => if d = own then s.drive else enterChanging d s.drive

/-- NEUTRAL (R50): what the selector does; the park timer is `standNeutral`. -/
def periodNeutral (b : StartBlock) (s : State) : Drive :=
  match selector s with
  | some d =>
    if s.drive.lastDir = some d then enterDirection d s.drive
    else if atRest b s then enterDirection d s.drive
    else enterChanging d s.drive
  | none => s.drive

/-- CHANGING (R51; a selector that is neither the pending nor the last direction is log 26); the dwell timer is
`standChanging`. -/
def periodChanging (s : State) : Drive :=
  match selector s with
  | none => { s.drive with state := .neutral, pendDir := none, dwellTimer := none }
  | some d =>
    if s.drive.pendDir = some d then s.drive
    else if s.drive.lastDir = some d then enterDirection d s.drive
    else s.drive

/-- The park timer's expiry in TRIPPED applies the brake (R55). -/
def applyBrake (x : Drive) : Drive := { x with brakeApplied := true, parkTimer := none }

/-- The drive leaves TRIPPED (R55). -/
def tripReleased (s : State) : Bool :=
  !driveTripSticky s && decide (s.start.station = .running) && decide (selector s = none)
    && s.drive.brakeApplied

/-- TRIPPED (R55): the release, which makes the ramp set up afresh (R59); the park timer is `standTripped`. -/
def periodTripped (s : State) : State :=
  if tripReleased s then freshDrvRamp (s.withDrive (enterParked s.drive)) else s

/-- Step 3: the transition of the state the drive stands in (R47). -/
def driveTransition (b : StartBlock) (s : State) : State :=
  match s.drive.state with
  | .parked => s.withDrive (periodParked b s)
  | .forward => s.withDrive (periodDriving .forward s)
  | .reverse => s.withDrive (periodDriving .reverse s)
  | .neutral => s.withDrive (periodNeutral b s)
  | .changing => s.withDrive (periodChanging s)
  | .tripped => periodTripped s

/-! ### The stand of the machine: park and dwell timers (R50, R52, R55) -/

/-- The park timer in NEUTRAL (R50). -/
def standNeutral (b : StartBlock) (s : State) : Drive :=
  if atRest b s then startPark b enterParked s.drive else { s.drive with parkTimer := none }

/-- The dwell timer in CHANGING: it starts at rest and stops when the stop test fails (R52). -/
def standChanging (b : StartBlock) (s : State) : Drive :=
  if atRest b s then
    if s.drive.dwellTimer.isSome then s.drive else { s.drive with dwellTimer := some 0 }
  else if stopTest b s then s.drive
  else { s.drive with dwellTimer := none }

/-- The park timer in TRIPPED (R55). -/
def standTripped (b : StartBlock) (s : State) : Drive :=
  if s.drive.brakeApplied then s.drive
  else if atRest b s then startPark b applyBrake s.drive
  else if stopTest b s then s.drive
  else { s.drive with parkTimer := none }

/-- The timers of a period that keeps its state, on the ramp output the period leaves: the dwell starts from the
end of the period that reaches 0 (R51, log 10). `stood` is the state in which step 3 found the drive. -/
def standTest (b : StartBlock) (stood : DriveState) (s : State) : State :=
  if s.drive.state = stood then
    s.withDrive
      (match stood with
      | .neutral => standNeutral b s
      | .changing => standChanging b s
      | .tripped => standTripped b s
      | .parked => s.drive
      | .forward => s.drive
      | .reverse => s.drive)
  else s

/-! ### The chain (R57 to R63) -/

/-- The PEDAL lookup is made in FORWARD or REVERSE with a pressed pedal (R43, R57). -/
def pedalLooksUp (b : StartBlock) (s : State) : Bool :=
  (s.drive.state = .forward || s.drive.state = .reverse) && pedalPressed b s

/-- The PEDAL curve output held at 1500, and the clamp pair the lookup leaves (R57). -/
def pedalSpeed (b : StartBlock) (s : State) : Nat × ClampPair :=
  if pedalLooksUp b s then
    let look := curveLookup (activeBank b s).pedal s.pins.drive.pedal.toNat
    (min 1500 look.1, look.2.pair)
  else (0, s.sp.drv.pedalClamp)

/-- The effective sweep cap (R58). -/
def effectiveSweepCap (b : StartBlock) (s : State) : Nat :=
  max b.drive.sweepCapMin
    (b.drive.sweepCap - (brushSum s).value * b.drive.capSlope / 4096)

/-- The target magnitude under every cap that applies (R58). -/
def cappedSpeed (b : StartBlock) (s : State) (mag : Nat) : Nat :=
  let m := if s.start.mode = .transport then min mag b.drive.transportCap else mag
  let m := if armsDown s then min m (effectiveSweepCap b s) else m
  let m := if s.drive.state = .reverse then min m b.drive.reverseCap else m
  if active .pressureInput s then min m b.drive.sweepCapMin else m

/-- The signed capped target of the period (R57, R58). -/
def driveTarget (b : StartBlock) (s : State) : Int :=
  let m : Int := cappedSpeed b s (pedalSpeed b s).1
  if s.drive.state = .reverse then -m else m

/-- The ramp times: the fault ramp time while TRIPPED (R55, R59). -/
def driveTimes (b : StartBlock) (s : State) : RampTimes :=
  if s.drive.state = .tripped then ⟨b.drive.faultRamp, b.drive.faultRamp⟩
  else (activeBank b s).drvTimes

/-- The pump command before derating, with the sign of o (R60). -/
def pumpCommand (o : Int) (feed : Nat) (trim : Int) : Int :=
  let mag : Int := max 0 (min 4095 ((feed : Int) + trim))
  if o = 0 then 0 else if o < 0 then -mag else mag

/-- The pressure cut: cut state and output magnitude (R62); a BAD pressure is `none`. -/
def pressureCut (p : DriveParams) (pressure : Option Nat) (d last : Nat) : CutState × Nat :=
  match pressure with
  | none => (.none, d)
  | some bar =>
    if p.cutPressure < bar then (.reduce, min d (last - p.cutStep))
    else if p.cutPressure < bar + p.cutHysteresis then (.hold, min d last)
    else (.none, d)

/-- The loop pressure the cut reads (R62). -/
def cutPressureRead (s : State) : Option Nat :=
  if active .pressureInput s then none else some s.drive.pressure

/-- A magnitude with the sign of a command. -/
def withSign (x : Int) (mag : Nat) : Int := if x < 0 then -(mag : Int) else mag

/-- Step 4: target, caps, ramp, FEED, trim, derating and pressure cut (R57 to R63). -/
def driveChain (b : StartBlock) (s : State) : State :=
  let pedal := pedalSpeed b s
  let ramp := s.sp.drv.ramp.step 1500 (driveTimes b s) (driveTarget b s)
  let feed := curveLookup (activeBank b s).feed ramp.out.natAbs
  let k := factor (activeBank b s).drvPair (activeBank b s).blindShare (droop b s)
  let derated := derateInt (pumpCommand ramp.out feed.1 s.drive.trim) k
  let cut := pressureCut b.drive (cutPressureRead s) derated.natAbs s.drive.command.natAbs
  (s.withSp { s.sp with drv := ⟨ramp, pedal.2, feed.2.pair, k⟩ }).withDrive
    { s.drive with cut := cut.1, command := withSign derated cut.2 }

/-! ### Trim and speed silence (R64, R65) -/

/-- The trim is frozen upward (R64). Of the cut state R64 reads the one of this period alone, where R62 speaks of
this period and the next (log 32). -/
def trimFrozen (s : State) : Bool :=
  decide (s.sp.drv.k < 256) || decide (s.drive.cut ≠ .none) || s.sp.drv.feedClamp.high

/-- The trim after a speed error (R64). -/
def trimmed (p : DriveParams) (frozen : Bool) (e trim : Int) : Int :=
  if (p.trimDeadband : Int) < e then
    if frozen then trim else min (p.trimLimit : Int) (trim + 1)
  else if e < -(p.trimDeadband : Int) then max (-(p.trimLimit : Int)) (trim - 1)
  else trim

/-- Step 5: the trim update, in FORWARD or REVERSE with v GOOD (R64). -/
def updateTrim (b : StartBlock) (s : State) : State :=
  if (s.drive.state = .forward ∨ s.drive.state = .reverse) ∧ ownTravelQuality s = .good then
    let e : Int := (s.sp.drv.ramp.out.natAbs : Int) - (s.drive.meas.v.natAbs : Int)
    s.withDrive { s.drive with trim := trimmed b.drive (trimFrozen s) e s.drive.trim }
  else s

/-- The speed silence timer is set to 0, which ends the SPEED_SENSOR cause (R65). -/
def restartSpeedSilence (s : State) : State :=
  handOver .speedSensor false (s.withDrive { s.drive with speedSilence := 0 })

/-- A period whose pump command has a magnitude of 400 or less sets the speed silence timer to 0 (R65). -/
def quietPeriod (s : State) : State :=
  if s.drive.command.natAbs ≤ 400 then restartSpeedSilence s else s

/-- Steps 1 and 2 of a period (R47). -/
def driveBegin (b : StartBlock) (s : State) : State := tripTest (readDriveInputs b s)

/-- The steps of a period in order (R47); the timers that stand at rest follow the chain (log 10). -/
def drivePeriod (b : StartBlock) (s : State) : State :=
  let t := driveBegin b s
  quietPeriod (updateTrim b (standTest b t.drive.state (driveChain b (driveTransition b t))))

/-! ### The meanings -/

/-- DRV_CONTROL_PERIOD (R47): a period of a populated drive channel in LISTENING, RUNNING or SILENCED;
elsewhere no period runs (R2, R41). -/
def execDrvControlPeriod (i : DriveInputs) (s : State) : Host.Outcome State Fault Refusal :=
  let t := s.withPins { s.pins with drive := i }
  match t.start.image with
  | some b => if driveMeasures t then .next (drivePeriod b t) else .next t
  | none => .next t

/-- The sum of the five buckets (R19, R20). -/
def Window.total (w : Window) : Int := w.opened + w.b1 + w.b2 + w.b3 + w.b4

/-- The oldest bucket leaves and an empty one opens (R19). -/
def Window.shift (w : Window) : Window := ⟨0, w.opened, w.b1, w.b2, w.b3⟩

/-- v of a window count (R19). -/
def travelSpeed (ppm : Nat) (n : Int) : Int := max (-1500) (min 1500 (Int.tdiv (1000 * n) (ppm : Int)))

/-- nE of a window count (R20). -/
def engineSpeed (ppr : Nat) (n : Int) : Nat := min 4000 (n.toNat * 600 / ppr)

/-- The measurements at a bucket close (R19, R20, R45). -/
def Measure.close (m : Measure) (b : StartBlock) : Measure where
  travel := m.travel.shift
  engine := m.engine.shift
  v := travelSpeed b.line.ppm m.travel.total
  nE := engineSpeed b.line.ppr m.engine.total
  closes := min 5 (m.closes + 1)
  bucketTimer := m.bucketTimer.map (· - 20)

/-- BUCKET_CLOSE (R19, R20): both windows close a bucket, every 20 ms while the measurements run, and ENGINE_SENSOR
is taken (R161, R167). -/
def execBucketClose (s : State) : Host.Outcome State Fault Refusal :=
  match s.start.image with
  | some b =>
    if bucketDue s then
      .next (s.withDrive { takeEngineSensor s with meas := s.drive.meas.close b })
    else .next s
  | none => .next s

/-- The sign of an edge from the quadrature of the two tracks (R19). -/
def edgeSign (track : Track) (levelA levelB : Bool) : Int :=
  match track with
  | .a => if levelA ≠ levelB then 1 else -1
  | .b => if levelA = levelB then 1 else -1

/-- A travel bucket saturates at -32768 and 32767 (R19). -/
def countTravel (n d : Int) : Int := max (-32768) (min 32767 (n + d))

/-- SPEED_EDGE (R19, R65): the edge counts into the open bucket and sets the speed silence timer to 0; the
pickup of a station without DRV, and of one in LOADING or FAILED_START, is not read (R21). -/
def execSpeedEdge (track : Track) (levelA levelB : Bool) (s : State) :
    Host.Outcome State Fault Refusal :=
  let t := s.withPins { s.pins with speedA := levelA, speedB := levelB }
  if driveMeasures t then
    let w := t.drive.meas.travel
    let w := { w with opened := countTravel w.opened (edgeSign track t.pins.speedA t.pins.speedB) }
    .next (restartSpeedSilence (t.withDrive { t.drive with meas := { t.drive.meas with travel := w } }))
  else .next t

/-- ENGINE_EDGE (R20, R66): the edge counts into the open engine bucket, which saturates at 65535, sets the
engine silence timer to 0 and ends the ENGINE_SENSOR cause, whose effect on the quality of nE stands to the drive's
next period or bucket close (R161, R167, log 23). -/
def execEngineEdge (s : State) : Host.Outcome State Fault Refusal :=
  if driveMeasures s then
    let w := s.drive.meas.engine
    let w := { w with opened := min 65535 (w.opened + 1) }
    .next (handOver .engineSensor false
      (s.withDrive { s.drive with
        engineSilence := 0
        engineBad := s.drive.engineBad || active .engineSensor s
        meas := { s.drive.meas with engine := w } }))
  else .next s

/-- The park timer's expiry: a NEUTRAL drive parks (R50), a TRIPPED one applies its brake (R55). -/
def parkExpired (x : Drive) : Drive :=
  match x.state with
  | .neutral => enterParked x
  | .tripped => applyBrake x
  | .parked => x
  | .forward => x
  | .reverse => x
  | .changing => x

/-- PARK_TIMER_EXPIRY (R50, R55). -/
def execParkTimerExpiry (s : State) : Host.Outcome State Fault Refusal :=
  if parkDue s then .next (s.withDrive (parkExpired s.drive)) else .next s

/-- The dwell timer's expiry moves a CHANGING drive to its pending direction (R52). -/
def dwellExpired (x : Drive) : Drive :=
  match x.state, x.pendDir with
  | .changing, some d => enterDirection d x
  | _, _ => x

/-- DWELL_TIMER_EXPIRY (R52). -/
def execDwellTimerExpiry (s : State) : Host.Outcome State Fault Refusal :=
  if dwellDue s then .next (s.withDrive (dwellExpired s.drive)) else .next s

/-- SPEED_SILENCE_EXPIRY (R65): the SPEED_SENSOR cause is present. -/
def execSpeedSilenceExpiry (s : State) : Host.Outcome State Fault Refusal :=
  if speedSilenceDue s then .next (handOver .speedSensor true s) else .next s

/-- ENGINE_SILENCE_EXPIRY (R66): the ENGINE_SENSOR cause is present, and nE is BAD from this event on (R45). -/
def execEngineSilenceExpiry (s : State) : Host.Outcome State Fault Refusal :=
  if engineSilenceDue s then .next (handOver .engineSensor true s) else .next s

end Sys2Proof.Machine
end

