-- ==== Sys2Proof/Machine/Peers.lean ====
section
/-! DEFINITION. The peer table's events (chapter 2): reports and alerts taken from the receive queue, and ageing. -/

namespace Sys2Proof.Machine

/-- Replace one entry. -/
def State.withPeer (s : State) (n : Fin 15) (e : Option PeerEntry) : State :=
  s.withPeers (s.peers.set n e)

/-- The entry index of a source field; 15 names no entry (R23). -/
def entryIndex (src : Nibble) : Option (Fin 15) :=
  if h : src.toNat < 15 then some ⟨src.toNat, h⟩ else none

/-- The place of the frame at the front of the receive queue is freed (R141). -/
def popRx (s : State) : State := s.withLine { s.line with rx := s.line.rx.tail }

/-- The front frame, where it is of a class (R138). -/
def frontOf (c : FrameClass) (s : State) : Option Frame :=
  match s.line.rx with
  | f :: _ => if f.cls = c then some f else none
  | [] => none

/-! ### Reports (R24, R25, R26) -/

/-- The last alert kind after an accepted report: a travel quality of GOOD or HELD removes SPEED_SENSOR (R35,
log 21). -/
def alertAfterReport (v : ReportValues) (last : Option FaultKind) : Option FaultKind :=
  if last = some .speedSensor ∧ v.travelQ ≠ .bad then none else last

/-- The entry an accepted report leaves (R24, R25). -/
def accepted (seq : Byte) (v : ReportValues) (last : Option FaultKind) : PeerEntry :=
  ⟨.fresh, seq, v, alertAfterReport v last, 0⟩

/-- A report is accepted: the fields load together and the inherited causes are tested (R26, R33). -/
def acceptReport (n : Fin 15) (seq : Byte) (v : ReportValues) (last : Option FaultKind) (s : State) :
    State :=
  testInherited (s.withPeer n (some (accepted seq v last)))

/-- A report for an entry: no sequence check from ABSENT and LOST (R24), the step d from FRESH and STALE
(R25). -/
def takeReport (n : Fin 15) (seq : Byte) (v : ReportValues) (s : State) : State :=
  match s.peers[n] with
  | none => acceptReport n seq v none s
  | some e =>
    if e.status = .lost then acceptReport n seq v e.lastAlert s
    else if seq - e.lastSeq = 0 then countDuplicate s
    else if seq - e.lastSeq = 1 then acceptReport n seq v e.lastAlert s
    else acceptReport n seq v e.lastAlert (countGap s)

/-- REPORT_ARRIVAL (R25): a source of 15 reaches no entry (R23), and a payload of another length than 15 bytes
is discarded (R26). -/
def execReportArrival (s : State) : Host.Outcome State Fault Refusal :=
  match frontOf .report s with
  | none => .next s
  | some f =>
    match entryIndex f.src, parseReport f.payload with
    | some n, some (seq, v) => .next (takeReport n seq v (popRx s))
    | _, _ => .next (popRx s)

/-! ### Alerts (R27) -/

/-- The entry an alert leaves (R27). -/
def alerted (k : FaultKind) (e : PeerEntry) : PeerEntry :=
  { e with vals := { e.vals with summary := putKind e.vals.summary k true }, lastAlert := some k }

/-- An alert for an entry; an ABSENT one stays so (R27). DEDUCED (log 38): an alert at an ABSENT entry is not one of
the events at which the inherited causes are tested, since it can change none of them (R33). -/
def takeAlert (n : Fin 15) (k : FaultKind) (s : State) : State :=
  match s.peers[n] with
  | none => s
  | some e => testInherited (s.withPeer n (some (alerted k e)))

/-- ALERT_ARRIVAL (R27): the kind field names the fault kind, and any payload is ignored (R176). -/
def execAlertArrival (s : State) : Host.Outcome State Fault Refusal :=
  match frontOf .alert s with
  | none => .next s
  | some f =>
    match entryIndex f.src with
    | some n => .next (takeAlert n (FaultKind.ofNum f.kind) (popRx s))
    | none => .next (popRx s)

/-! ### Ageing (R28, R29) -/

/-- An entry takes a state, keeping every field. -/
def markEntry (n : Fin 15) (st : EntryState) (s : State) : State :=
  match s.peers[n] with
  | some e => testInherited (s.withPeer n (some { e with status := st }))
  | none => s

/-- STALE_EXPIRY (R28). -/
def execStaleExpiry (n : Fin 15) (s : State) : Host.Outcome State Fault Refusal :=
  if staleDue n s then .next (markEntry n .stale s) else .next s

/-- LOST_EXPIRY (R29). -/
def execLostExpiry (n : Fin 15) (s : State) : Host.Outcome State Fault Refusal :=
  if lostDue n s then .next (markEntry n .lost s) else .next s

end Sys2Proof.Machine
end

