-- ==== Sys2Proof/Machine/Outgoing.lean ====
section
/-! DEFINITION. The requesting side of the request unit (7.4, 7.5): switches, switch map, outgoing table. -/

namespace Sys2Proof.Machine

/-! ### Debouncers (R132) -/

/-- Replace a debouncer. -/
def State.withSwitch (s : State) (i : Fin 8) (d : Debouncer) : State :=
  s.withReq { s.req with switches := s.req.switches.set i d }

/-- A raw level at a debouncer that reads its input: a level that differs starts the stopped timer, and one that
returns stops it (R132). -/
def Debouncer.see (d : Debouncer) (raw : Bool) : Debouncer :=
  { d with
    raw := raw
    settle := if raw = d.level then none else if d.settle.isSome then d.settle else some 0 }

/-- SWITCH_LEVEL_CHANGE (R132): the debouncer reads its input in LISTENING, RUNNING and SILENCED; elsewhere only
the pin changes. -/
def execSwitchLevelChange (i : Fin 8) (level : Bool) (s : State) : Host.Outcome State Fault Refusal :=
  let d := s.req.switches[i]
  if periodsRun s then .next (s.withSwitch i (d.see level))
  else .next (s.withSwitch i { d with raw := level })

/-! ### A switch edge (R133, R134) -/

/-- The fresh tag: the first value from the counter on, modulo 16, that no outgoing entry holds (R134). -/
def freshTag (s : State) : Nibble :=
  (((List.range 16).map (fun i => s.req.nextTag + BitVec.ofNat 4 i)).find?
    (fun t => !(s.req.outgoing.map OutgoingEntry.tag).contains t)).getD s.req.nextTag

/-- The slot of a switch, edge and request slot: k = 4i + 2e + j with e = 0 for on (R179). -/
def slotAt (b : StartBlock) (i : Fin 8) (onEdge : Bool) (j : Nat) : Option SwitchSlot :=
  (b.switchMap.getD (4 * i.val + 2 * (if onEdge then 0 else 1) + j) none)

/-- Step 1: the entries made by an earlier edge of this switch to this destination are removed; the tags in
`made` are this edge's own (R133). -/
def removeEarlier (i : Fin 8) (dest : Nibble) (made : List Nibble) (s : State) : State :=
  ((s.req.outgoing.filter
      (fun e => e.switch = i && e.dest = dest && !made.contains e.tag)).map OutgoingEntry.tag).foldl
    (fun t tag => removeOutgoing tag t) s

/-- Step 3: a new entry in QUEUED with its request frame (R133, R134). -/
def makeOutgoing (b : StartBlock) (i : Fin 8) (onEdge : Bool) (slot : SwitchSlot) (s : State) : State :=
  let tag := freshTag s
  let args := slot.args.take (argBytes slot.kind)
  let t := s.withReq { s.req with
    nextTag := tag + 1
    outgoing := s.req.outgoing ++
      [⟨i, onEdge, slot.dest, slot.kind, args, tag, b.line.repeatLimit, .queued, none⟩] }
  t.withLine { t.line with requests := t.line.requests ++ [⟨slot.dest, tag, slot.kind, args⟩] }

/-- One slot of an edge: removal, then a full table raises REQUEST_LOST, else a new entry is made (R133). -/
def serveSlot (b : StartBlock) (i : Fin 8) (onEdge : Bool) (made : List Nibble)
    (slot : Option SwitchSlot) (s : State) : State :=
  match slot with
  | none => s
  | some x =>
    let t := removeEarlier i x.dest made s
    if 4 ≤ t.req.outgoing.length then raiseOnce .requestLost t else makeOutgoing b i onEdge x t

/-- The tag of the entry that a slot makes when it is served, if it makes one (R133, R134). -/
def madeTags (i : Fin 8) (made : List Nibble) (slot : Option SwitchSlot) (s : State) : List Nibble :=
  match slot with
  | none => []
  | some x =>
    let t := removeEarlier i x.dest made s
    if 4 ≤ t.req.outgoing.length then [] else [freshTag t]

/-- An edge in RUNNING serves its two slots, slot 0 first; the two requests of one edge do not remove each other
(R133). -/
def switchEdge (b : StartBlock) (i : Fin 8) (onEdge : Bool) (s : State) : State :=
  let first := slotAt b i onEdge 0
  serveSlot b i onEdge (madeTags i [] first s) (slotAt b i onEdge 1) (serveSlot b i onEdge [] first s)

/-- SETTLING_TIMER_EXPIRY (R132, R133): the raw level becomes the debounced level, and in RUNNING the edge makes
its requests. -/
def execSettlingTimerExpiry (i : Fin 8) (s : State) : Host.Outcome State Fault Refusal :=
  if settlingDue i s then
    let d := s.req.switches[i]
    let t := s.withSwitch i { d with level := d.raw, settle := none }
    match s.start.image with
    | some b => if s.start.station = .running then .next (switchEdge b i d.raw t) else .next t
    | none => .next t
  else .next s

/-! ### Answers and repeats (R136, R137) -/

/-- The outgoing entry of a tag. -/
def findOutgoing (tag : Nibble) (s : State) : Option OutgoingEntry :=
  s.req.outgoing.find? (fun e => e.tag = tag)

/-- One repeat is consumed: the entry backs off, or is given up at 0 (R136). -/
def backOffOrGiveUp (e : OutgoingEntry) (s : State) : State :=
  if e.repeatsLeft ≤ 1 then giveUp e.tag s
  else
    mapOutgoing e.tag
      (fun x => { x with repeatsLeft := x.repeatsLeft - 1, state := .backingOff, timer := some 0 }) s

/-- The effect of an answer on its entry, by result code and entry state (R136). Codes of 9 and above end the
entry as a final result does (R176). -/
def answered (code : Nat) (e : OutgoingEntry) (s : State) : State :=
  if code = Result.pending.code then
    if e.state = .queued then s
    else mapOutgoing e.tag (fun x => { x with state := .backingOff, timer := some 0 }) s
  else if code = Result.busy.code ∨ code = Result.conflict.code then
    if e.state = .queued then s else backOffOrGiveUp e s
  else removeOutgoing e.tag s

/-- The entry an answer frame matches by source, tag and kind (R136). -/
def matchAnswer (f : Frame) (s : State) : Option OutgoingEntry :=
  s.req.outgoing.find?
    (fun e => e.dest = f.src && e.tag = tagOf (f.payload.headD 0) && e.kind = f.kind)

/-- An answer of four payload bytes acts on its entry or counts UNMATCHED_ANSWERS (R136, R137). -/
def takeAnswer (f : Frame) (s : State) : State :=
  match matchAnswer f s with
  | some e => answered (f.payload.getD 1 0).toNat e s
  | none => countUnmatched s

/-- ANSWER_ARRIVAL (R136): an answer addressed to 15, or of another length than 4 payload bytes, is discarded
without a count (R137, R176). -/
def execAnswerArrival (s : State) : Host.Outcome State Fault Refusal :=
  match frontOf .answer s with
  | none => .next s
  | some f =>
    let t := popRx s
    if f.dst = 15 ∨ f.payload.length ≠ 4 then .next t else .next (takeAnswer f t)

/-- The expiry of a repeat timer (R137): AWAITING consumes a repeat, BACKING_OFF none. -/
def repeatExpired (e : OutgoingEntry) (s : State) : State :=
  match e.state with
  | .awaiting =>
    if e.repeatsLeft ≤ 1 then giveUp e.tag s
    else requeue e (mapOutgoing e.tag (fun x => { x with repeatsLeft := x.repeatsLeft - 1 }) s)
  | .backingOff => requeue e s
  | .queued => s

/-- REPEAT_TIMER_EXPIRY (R137). -/
def execRepeatTimerExpiry (tag : Nibble) (s : State) : Host.Outcome State Fault Refusal :=
  match findOutgoing tag s with
  | some e => if repeatDue e s then .next (repeatExpired e s) else .next s
  | none => .next s

end Sys2Proof.Machine
end

