-- ==== Sys2Proof/Machine/WaterSpray.lean ====
section
/-! DEFINITION. The water channel (chapter 5): control period, priming, spraying, dry failures. -/

namespace Sys2Proof.Machine

/-! ### Conditions (R95) -/

/-- Conditions 5 and 6: travel speed not BAD and at or above the spray minimum speed. -/
def travelAllowsSpray (b : StartBlock) (s : State) : Bool :=
  decide ((viewTravel s).quality ≠ .bad) && decide ((b.water.sprayMin : Int) ≤ (viewTravel s).value)

/-- Condition 7: the latest TANK reading is GOOD and above the empty threshold. -/
def tankHasWater (b : StartBlock) (s : State) : Bool :=
  inSpan s.water.tank && decide (b.water.empty < s.water.tank.toNat)

/-- The seven spray conditions (R95). -/
def sprayConditions (b : StartBlock) (s : State) : Bool :=
  decide (s.start.station = .running) && decide (s.start.mode = .sweepWet) && s.water.enable
    && brushWorking s && travelAllowsSpray b s && tankHasWater b s

/-- The trip hold (R95). -/
def waterTripSticky (s : State) : Bool := sticky .waterDry s || sticky .waterInput s

/-! ### Steps 1 and 2 (R91, R101, R103) -/

/-- Either reading is BAD (R91). -/
def waterInputBad (s : State) : Bool := !(inSpan s.water.tank && inSpan s.water.waterP)

/-- TANK is GOOD and at or below the empty threshold, in RUNNING (R91). -/
def tankLow (b : StartBlock) (s : State) : Bool :=
  decide (s.start.station = .running) && inSpan s.water.tank
    && decide (s.water.tank.toNat ≤ b.water.empty)

/-- Step 1: the readings, the causes of WATER_INPUT and TANK_LOW, and the end of the WATER_DRY cause (R91,
R101). -/
def readWaterInputs (b : StartBlock) (s : State) : State :=
  let t := s.withWater { s.water with tank := s.pins.tank, waterP := s.pins.waterP }
  handOver .tankLow (tankLow b t)
    (handOver .waterInput (waterInputBad t) (handOver .waterDry false t))

/-- Step 2: the WATER_INPUT move (R103). -/
def waterInputMove (s : State) : State := if waterInputBad s then stopWater s else s

/-! ### Step 3 (R95, R96, R97, R100) -/

/-- Entry to PRIMING: slot 0 and the prime timer (R95). -/
def enterPriming (s : State) : State :=
  enterWater .priming (s.withWater { s.water with slot := 0, primeTimer := some 0, dryWaitTimer := none })

/-- A good prime: SPRAYING from the prime command (R97). -/
def enterSpraying (b : StartBlock) (s : State) : State :=
  let t := s.withWater { s.water with
    primeTimer := none, dryCount := 0, slot := 0, patternTimer := some 0 }
  let t := t.withWaterSite
    { t.sp.wtr with ramp := t.sp.wtr.ramp.setOut ((activeBank b t).primeCommand : Int) }
  enterWater .spraying t

/-- The loss timer in SPRAYING (R100). -/
def lossTest (b : StartBlock) (s : State) : State :=
  if s.water.waterP.toNat < b.water.lossThreshold then
    if s.water.lossTimer.isSome then s else s.withWater { s.water with lossTimer := some 0 }
  else s.withWater { s.water with lossTimer := none }

/-- Step 3: the test of the state the channel stands in (R93). -/
def waterTests (b : StartBlock) (s : State) : State :=
  match s.water.state with
  | .off => if sprayConditions b s ∧ waterTripSticky s = false then enterPriming s else s
  | .priming =>
    if sprayConditions b s then
      if b.water.primePressure ≤ s.water.waterP.toNat then enterSpraying b s else s
    else waterOff s
  | .spraying => if sprayConditions b s then lossTest b s else waterOff s
  | .dryWait => if sprayConditions b s then s else waterOff s
  | .dryLocked => s

/-! ### Steps 4 and 5 (R93, R97, R98, R99, R18) -/

/-- The valves a pattern slot opens (R99). -/
def slotValves (b : StartBlock) (s : State) (slot : BitVec 4) : BitVec 4 :=
  (activeBank b s).pattern.getD slot.toNat 0

/-- The pump and valves of PRIMING: the prime command and slot 0 (R97). -/
def primeOutputs (b : StartBlock) (s : State) : State :=
  s.withWater { s.water with pump := (activeBank b s).primeCommand, valves := slotValves b s 0 }

/-- The flow command chain of SPRAYING (R98). -/
def waterSite (b : StartBlock) (s : State) : BlendSite :=
  let bank := activeBank b s
  let q := testQuantity b s (waterArmPosition s) bank.wtrRule.quantity
  s.sp.wtr.chain bank.water bank.wtrRule bank.wtrTimes (viewTravel s).value.natAbs bank.waterTrim q

/-- The factor k of the WTR pair (R17). -/
def waterFactor (b : StartBlock) (s : State) : Nat :=
  factor (activeBank b s).wtrPair (activeBank b s).blindShare (droop b s)

/-- Step 4 (R93). -/
def waterOutputs (b : StartBlock) (s : State) : State :=
  match s.water.state with
  | .priming => primeOutputs b s
  | .spraying =>
    let site := waterSite b s
    (s.withWaterSite site).withWater { s.water with
      pump := derateNat site.ramp.out (waterFactor b s), valves := slotValves b s s.water.slot }
  | .off => s.withWater { s.water with pump := 0, valves := 0 }
  | .dryWait => s.withWater { s.water with pump := 0, valves := 0 }
  | .dryLocked => s.withWater { s.water with pump := 0, valves := 0 }

/-- Step 5 (R18). -/
def waterRecompute (b : StartBlock) (s : State) : State :=
  s.withWaterSite { s.sp.wtr with k := waterFactor b s }

/-- The five steps of a period (R93). -/
def waterPeriod (b : StartBlock) (s : State) : State :=
  waterRecompute b (waterOutputs b (waterTests b (waterInputMove (readWaterInputs b s))))

/-! ### Dry failures (R101) -/

/-- A failed prime: count 1 waits, count 2 locks with the WATER_DRY cause present (R101). -/
def failedPrime (s : State) : State :=
  let t := quietWater s
  let t := t.withWater { t.water with dryCount := min 2 (t.water.dryCount + 1) }
  if t.water.dryCount = 1 then
    enterWater .dryWait (t.withWater { t.water with dryWaitTimer := some 0 })
  else handOver .waterDry true (enterWater .dryLocked t)

/-! ### The meanings -/

/-- WTR_CONTROL_PERIOD (R93): a period of a populated water channel in LISTENING, RUNNING or SILENCED. -/
def execWtrControlPeriod (tank waterP : Raw) (s : State) : Host.Outcome State Fault Refusal :=
  let t := s.withPins { s.pins with tank := tank, waterP := waterP }
  match t.start.image with
  | some b => if populated .wtr t && periodsRun t then .next (waterPeriod b t) else .next t
  | none => .next t

/-- PRIME_TIMER_EXPIRY (R101). -/
def execPrimeTimerExpiry (s : State) : Host.Outcome State Fault Refusal :=
  if primeDue s ∧ s.water.state = .priming then .next (failedPrime s) else .next s

/-- LOSS_TIMER_EXPIRY (R100, R101). -/
def execLossTimerExpiry (s : State) : Host.Outcome State Fault Refusal :=
  if lossDue s ∧ s.water.state = .spraying then .next (failedPrime s) else .next s

/-- The end of the dry wait: prime again where all spray conditions hold, else OFF (R101). -/
def dryWaitEnded (b : StartBlock) (s : State) : State :=
  if sprayConditions b s then primeOutputs b (enterPriming s) else waterOff s

/-- DRY_WAIT_EXPIRY (R101). -/
def execDryWaitExpiry (s : State) : Host.Outcome State Fault Refusal :=
  match s.start.image with
  | some b =>
    if dryWaitDue s ∧ s.water.state = .dryWait then .next (dryWaitEnded b s) else .next s
  | none => .next s

/-- The pattern slot advances, from 15 back to 0, and the valves take it (R99). -/
def advancePattern (b : StartBlock) (s : State) : State :=
  let slot := s.water.slot + 1
  s.withWater { s.water with
    slot := slot, valves := slotValves b s slot
    patternTimer := s.water.patternTimer.map (· - 100) }

/-- PATTERN_TIMER_EXPIRY (R99). -/
def execPatternTimerExpiry (s : State) : Host.Outcome State Fault Refusal :=
  match s.start.image with
  | some b =>
    if patternDue s ∧ s.water.state = .spraying then .next (advancePattern b s) else .next s
  | none => .next s

end Sys2Proof.Machine
end

