-- ==== Sys2Proof/Machine/Requests.lean ====
section
/-! DEFINITION. The answering side of the request unit (7.1 to 7.3) and SET_MODE (6.2): the tests of R122 in order, and each request kind. -/

namespace Sys2Proof.Machine

/-! ### The answer a request gets -/

/-- What a request leaves: the state after it, the result and value of its answer, and whether the sending of
the answer starts a warm restart (R131). -/
structure Reply where
  state : State
  result : Result
  value : Word
  restarts : Bool

/-- A reply that changes nothing. -/
def decided (result : Result) (value : Word) (s : State) : Reply := ⟨s, result, value, false⟩

/-- The code of the mode held (R108). -/
def modeValue (s : State) : Word := BitVec.ofNat 16 s.start.mode.code

/-- The enable flag as an answer value (R94, R120). -/
def enableValue (s : State) : Word := if s.water.enable then 1 else 0

/-! ### The pending table (R122 to R125) -/

/-- The entry with a requester and tag (R122, test 1). -/
def findEntry (src tag : Nibble) (s : State) : Option PendingEntry :=
  s.req.table.find? (fun e => e.requester = src && e.tag = tag)

/-- An entry leaves the table. -/
def freeEntry (src tag : Nibble) (s : State) : State :=
  s.withReq { s.req with table := s.req.table.filter (fun e => !(e.requester = src && e.tag = tag)) }

/-- An entry's time is set to 0 (R123). -/
def refreshEntry (src tag : Nibble) (s : State) : State :=
  s.withReq { s.req with
    table := s.req.table.map
      (fun e => if e.requester = src ∧ e.tag = tag then { e with time := 0 } else e) }

/-- The value of an answer from an entry: for SET_MODE the mode held now (R108), for ARM_MOVE the recorded
state (R120) or, while RUNNING, the state as it stands. -/
def entryValue (e : PendingEntry) (s : State) : Word :=
  match e.op with
  | .setTransport => modeValue s
  | .armMove n _ => if e.state = .running then armValue (s.arm n).state else e.value

/-- The value of a MISMATCH by the kind of the request (R120): 0 for ARM_MOVE. -/
def mismatchValue (r : Request) (s : State) : Word :=
  if r.kind = kindSetMode then modeValue s
  else if r.kind = kindWaterSet then enableValue s
  else if r.kind = kindFaultClear then s.faults.sticky
  else 0

/-- A repeat is answered from its entry (R123). -/
def answerFromEntry (r : Request) (e : PendingEntry) (s : State) : Reply :=
  if operationOf r = some e.op then
    match e.state with
    | .running => decided .pending (entryValue e s) (refreshEntry e.requester e.tag s)
    | .done => decided .done (entryValue e s) (freeEntry e.requester e.tag s)
    | .failed => decided .failed (entryValue e s) (freeEntry e.requester e.tag s)
    | .superseded => decided .superseded (entryValue e s) (freeEntry e.requester e.tag s)
  else decided .mismatch (mismatchValue r s) s

/-- The claims overlap a RUNNING entry of another requester (R122, test 8). -/
def conflicts (src : Nibble) (c : Claims) (s : State) : Bool :=
  s.req.table.any (fun e => e.state = .running && e.requester ≠ src && e.claims.overlap c)

/-- No entry is free (R122, test 9). -/
def tableFull (s : State) : Bool := 4 ≤ s.req.table.length

/-- The value a superseded entry records: the state of its arm for ARM_MOVE (R124), and 0, which is never read, for
SET_MODE (R108, log 36). -/
def supersededValue (e : PendingEntry) (s : State) : Word :=
  match e.op with
  | .setTransport => 0
  | .armMove n _ => armValue (s.arm n).state

/-- The RUNNING entries of the same requester whose claims overlap become SUPERSEDED (R124). -/
def supersede (src : Nibble) (c : Claims) (s : State) : State :=
  s.withReq { s.req with
    table := s.req.table.map (fun e =>
      if e.state = .running ∧ e.requester = src ∧ e.claims.overlap c = true then
        e.finish .superseded (supersededValue e s)
      else e) }

/-- A new RUNNING entry, with its time at 0 (R125). R125 gives no result value before the operation ends: the model
writes 0, and nothing reads it while the entry is RUNNING (log 36). -/
def makeEntry (r : Request) (op : Operation) (c : Claims) (s : State) : State :=
  s.withReq { s.req with
    table := s.req.table ++ [⟨r.src, r.tag, op, c, .running, 0, 0⟩] }

/-! ### Serving a request (R119, R122, R148) -/

/-- The request at the front of the receive queue, where its kind is one of these. -/
def frontRequest (kinds : Nibble → Bool) (s : State) : Option Frame :=
  match frontOf .request s with
  | some f => if kinds f.kind then some f else none
  | none => none

/-- A request that reaches no requester or no single station, or carries no tag, is discarded without an answer
or a count (R119, R176). -/
def discarded (f : Frame) : Bool := f.dst = 15 || f.src = 15 || f.payload.isEmpty

/-- Queue the answer of a reply. -/
def sendReply (r : Request) (p : Reply) : State :=
  queueAnswer r.src r.tag r.kind p.result p.value p.restarts p.state

/-- A request with a place for its answer: matched against the pending table first, and else acted on (R122);
with all four places in use it is dropped and counted (R148). -/
def answerRequest (act : Request → State → Reply) (r : Request) (s : State) : State :=
  if 4 ≤ s.line.answers.length then countMissed s
  else
    match findEntry r.src r.tag s with
    | some e => sendReply r (answerFromEntry r e s)
    | none => sendReply r (act r s)

/-- The request at the front is taken: its place in the receive queue is freed (R141), and it is discarded or
answered. -/
def serve (kinds : Nibble → Bool) (act : Request → State → Reply) (s : State) : State :=
  match frontRequest kinds s with
  | none => s
  | some f => if discarded f then popRx s else answerRequest act (requestOf f) (popRx s)

/-! ### SET_MODE (R108 to R113) -/

/-- The claims of a SET_MODE (R109). -/
def modeClaims (m : Mode) (s : State) : Claims :=
  if m = .transport then ⟨true, populated .arm1 s, populated .arm2 s⟩ else ⟨true, false, false⟩

/-- The preconditions of SERVICE: the drive condition and the stop condition (R113). -/
def serviceAllowed (s : State) : Bool :=
  match s.start.image with
  | some b =>
    (!populated .drv s || s.drive.state = .parked)
      && decide ((viewTravel s).quality ≠ .bad)
      && decide ((viewTravel s).value.natAbs ≤ b.drive.stopSpeed)
  | none => false

/-- A populated arm is held by its trip (R110). -/
def someArmTripped (s : State) : Bool := (populatedArms s).any (fun n => heldByTrip n s)

/-- The stow demand would leave every populated arm STOWED (R110). -/
def stowsAtOnce (s : State) : Bool :=
  (populatedArms s).all (fun n => (s.arm n).state = .stowed || (s.arm n).state = .reverseLifted)

/-- A SET_MODE TRANSPORT needs an entry (R110, R122). -/
def transportNeedsEntry (s : State) : Bool := !(stowsAtOnce s || someArmTripped s)

/-- A SET_MODE of another mode than the one held changes it (R106, R107). -/
def takeMode (m : Mode) (s : State) : State := if s.start.mode = m then s else changeMode m s

/-- SET_MODE TRANSPORT acts: the mode, the stow demand whether or not the mode was TRANSPORT already, and the
judgement on the arms as the demand left them (R110). -/
def actTransport (r : Request) (c : Claims) (s : State) : Reply :=
  let t := if s.start.mode = .transport then forArms stowDemand s else changeMode .transport s
  if allStowed t then decided .done (modeValue t) t
  else if someArmTripped t then decided .failed (modeValue t) t
  else decided .pending (modeValue t) (makeEntry r .setTransport c t)

/-- SET_MODE past its argument, state and preconditions: claims, room, and the act (R109, R122). -/
def claimMode (r : Request) (m : Mode) (s : State) : Reply :=
  let c := modeClaims m s
  if conflicts r.src c s then decided .conflict (modeValue s) s
  else if m = .transport ∧ transportNeedsEntry s = true ∧ tableFull s = true then
    decided .busy (modeValue s) s
  else
    let t := supersede r.src c s
    if m = .transport then actTransport r c t
    else
      let u := takeMode m t
      decided .done (modeValue u) u

/-- SET_MODE by the tests of R122 (R108, R113). -/
def actSetMode (r : Request) (s : State) : Reply :=
  match modeArg r.args with
  | none => decided .refused (modeValue s) s
  | some m =>
    if s.start.station ≠ .running then decided .refused (modeValue s) s
    else if m = .service ∧ serviceAllowed s = false then decided .refused (modeValue s) s
    else claimMode r m s

/-- SET_MODE (R108). -/
def execSetMode (s : State) : Host.Outcome State Fault Refusal :=
  .next (serve (fun k => k = kindSetMode) actSetMode s)

/-! ### ARM_MOVE (R73, R74, R75) -/

/-- The claim of an ARM_MOVE (R119). -/
def armClaims : ArmId → Claims
  | .one => ⟨false, true, false⟩
  | .two => ⟨false, false, true⟩

/-- The state of an arm that already holds its target (R122, test 6). -/
def targetState : Target → ArmState
  | .work => .working
  | .stow => .stowed

/-- The preconditions of an ARM_MOVE (R73, R75). -/
def moveAllowed (n : ArmId) (t : Target) (s : State) : Bool :=
  match t with
  | .stow => !heldByTrip n s
  | .work =>
    match s.start.image with
    | some b => lowerAllowed b n s
    | none => false

/-- The arm acts on an ARM_MOVE WORK (R74). -/
def armToWork (n : ArmId) (s : State) : State :=
  match (s.arm n).state with
  | .stowed => enterArm n .lowering false s
  | .lowering => s
  | .working => s
  | .lifting => enterArm n .lowering false s
  | .reverseLifted => enterArm n .lowering false s
  | .held => enterArm n .lowering false s

/-- The arm acts on an ARM_MOVE STOW (R75). -/
def armToStow (n : ArmId) (s : State) : State :=
  match (s.arm n).state with
  | .stowed => s
  | .lowering => enterArm n .lifting false s
  | .working => enterArm n .lifting false s
  | .lifting => enterArm n .lifting false s
  | .reverseLifted => enterArm n .stowed false s
  | .held => enterArm n .lifting false s

/-- The arm acts on an ARM_MOVE. -/
def armToTarget (n : ArmId) (t : Target) (s : State) : State :=
  match t with
  | .work => armToWork n s
  | .stow => armToStow n s

/-- The value of an ARM_MOVE answer: the code of the named arm's state as it stands (R120). -/
def armStateValue (n : ArmId) (s : State) : Word := armValue (s.arm n).state

/-- An ARM_MOVE with its arm and target: already there, preconditions, claims, room, and the act (R122). A STOW
from REVERSE_LIFTED finishes at once (R75). -/
def claimArm (r : Request) (n : ArmId) (t : Target) (s : State) : Reply :=
  let c := armClaims n
  let atOnce := t = .stow ∧ (s.arm n).state = .reverseLifted
  if (s.arm n).state = targetState t then decided .done (armStateValue n s) s
  else if moveAllowed n t s = false then decided .refused (armStateValue n s) s
  else if conflicts r.src c s then decided .conflict (armStateValue n s) s
  else if ¬ atOnce ∧ tableFull s = true then decided .busy (armStateValue n s) s
  else
    let u := armToTarget n t (supersede r.src c s)
    if atOnce then decided .done (armStateValue n u) u
    else decided .pending (armStateValue n u) (makeEntry r (.armMove n t) c u)

/-- A REFUSED ARM_MOVE that names no arm: R120 gives the code of the named arm's state in bits 3 to 0, and none
is named, so these bits are free (log 7); the other bits are 0 (R178). -/
def refuseUnnamedArm (s : State) : Reply :=
  decided .refused (0#12 ++ Config.freeArmCode s.free) (s.withFree (s.free + 1))

/-- ARM_MOVE by the tests of R122. -/
def actArmMove (r : Request) (s : State) : Reply :=
  match armArg r.args with
  | none => refuseUnnamedArm s
  | some n =>
    if populated (armChannel n) s = false then decided .unknown 0 s
    else
      match targetArg r.args with
      | none => decided .refused (armStateValue n s) s
      | some t =>
        if s.start.station ≠ .running then decided .refused (armStateValue n s) s
        else claimArm r n t s

/-- ARM_MOVE (R74). -/
def execArmMove (s : State) : Host.Outcome State Fault Refusal :=
  .next (serve (fun k => k = kindArmMove) actArmMove s)

/-! ### Immediate requests (R128 to R131) -/

/-- A WATER_SET in SWEEP_WET writes the flag; clearing it stops active water (R94, R96). -/
def writeEnable (on : Bool) (s : State) : State :=
  let t := s.withWater { s.water with enable := on }
  if on then t else stopWater t

/-- WATER_SET by the tests of R122 (R94). -/
def actWaterSet (r : Request) (s : State) : Reply :=
  if populated .wtr s = false then decided .unknown (enableValue s) s
  else
    match onOffArg r.args with
    | none => decided .refused (enableValue s) s
    | some on =>
      if s.start.station ≠ .running ∨ s.start.mode ≠ .sweepWet then decided .refused (enableValue s) s
      else
        let t := writeEnable on s
        decided .done (enableValue t) t

/-- WATER_SET (R94). -/
def execWaterSet (s : State) : Host.Outcome State Fault Refusal :=
  .next (serve (fun k => k = kindWaterSet) actWaterSet s)

/-- TRIM_SET by the tests of R122: the trim is exchanged (R128). -/
def actTrimSet (r : Request) (s : State) : Reply :=
  match brushArg r.args with
  | none => decided .refused 0 s
  | some n =>
    if populated (brushChannel n) s = false then decided .unknown 0 s
    else
      match trimArg r.args with
      | none => decided .refused 0 s
      | some v =>
        if s.start.station ≠ .running then decided .refused 0 s
        else
          decided .done (BitVec.ofNat 16 (s.arm n).trim) (s.withArm n { s.arm n with trim := v })

/-- TRIM_SET (R128). -/
def execTrimSet (s : State) : Host.Outcome State Fault Refusal :=
  .next (serve (fun k => k = kindTrimSet) actTrimSet s)

/-- The water channel at a FAULT_CLEAR whose mask holds WATER_DRY and after which it is not sticky: the count is
0, and a DRY_LOCKED channel goes to OFF (R102, R167). -/
def releaseDry (mask : FaultSet) (s : State) : State :=
  if hasKind mask .waterDry ∧ sticky .waterDry s = false then
    let t := s.withWater { s.water with dryCount := 0 }
    if s.water.state = .dryLocked then waterOff t else t
  else s

/-- The fault sets and the water channel at a FAULT_CLEAR (R129, R159). -/
def clearFaults (mask : FaultSet) (s : State) : State :=
  releaseDry mask (s.withFaults { s.faults with sticky := clearedSticky mask s.faults })

/-- FAULT_CLEAR by the tests of R122; the value is the sticky set after the clearing (R120, R159). -/
def actFaultClear (r : Request) (s : State) : Reply :=
  match maskArg r.args with
  | none => decided .refused s.faults.sticky s
  | some mask =>
    if s.start.station ≠ .running then decided .refused s.faults.sticky s
    else
      let t := clearFaults mask s
      decided .done t.faults.sticky t

/-- FAULT_CLEAR (R159). -/
def execFaultClear (s : State) : Host.Outcome State Fault Refusal :=
  .next (serve (fun k => k = kindFaultClear) actFaultClear s)

/-! ### QUERY (R130, R178) -/

/-- A bitmap of the stations whose entries are in a state, bit n for station n (R22). -/
def bitmapOf (st : EntryState) (s : State) : Word :=
  (List.finRange 15).foldl
    (fun m n =>
      match s.peers[n] with
      | some e => if e.status = st then m ||| (1#16 <<< n.val) else m
      | none => m) 0

/-- The mode the station shows: SERVICE in FAILED_START (R106, R168). -/
def shownMode (s : State) : Mode :=
  if s.start.station = .failedStart then .service else s.start.mode

/-- A clamp pair as two bits, LOW in the lower one (R178). -/
def pairBits (p : ClampPair) : BitVec 2 := BitVec.ofBool p.high ++ BitVec.ofBool p.low

/-- QUERY 15 (R178). -/
def flagsWord (sp : Setpoint) : Word :=
  0#3 ++ BitVec.ofBool sp.wtr.sat ++ BitVec.ofBool sp.br2.sat ++ BitVec.ofBool sp.br1.sat
    ++ pairBits sp.wtr.clamp ++ pairBits sp.br2.clamp ++ pairBits sp.br1.clamp
    ++ pairBits sp.drv.feedClamp ++ pairBits sp.drv.pedalClamp

/-- QUERY 10 and 11 (R178). -/
def armWord (a : Arm) : Word := BitVec.ofNat 4 a.state.code ++ a.position

/-- QUERY 16 to 30 (R178): 0 for an ABSENT entry. -/
def entryWord : Option PeerEntry → Word
  | none => 0
  | some e =>
    BitVec.ofNat 2 e.status.code ++ BitVec.ofNat 2 e.vals.mode.code
      ++ BitVec.ofNat 4 e.vals.water.code ++ directionCode e.vals.direction ++ e.vals.mask

/-- QUERY 32 to 46 (R178): 0 for an ABSENT entry. -/
def summaryWord : Option PeerEntry → Word
  | none => 0
  | some e => e.vals.summary

/-- The entry of a station number, ABSENT above 14. -/
def entryAt (n : Nat) (s : State) : Option PeerEntry :=
  if h : n < 15 then s.peers[n] else none

/-- The value of an item (R130, R178). -/
def itemValue (item : Nat) (s : State) : Word :=
  match item with
  | 0 => s.faults.sticky
  | 1 => s.faults.active
  | 2 => BitVec.ofNat 16 s.line.counters.checkErrors
  | 3 => BitVec.ofNat 16 s.line.counters.missedFrames
  | 4 => BitVec.ofNat 16 s.line.counters.duplicateReports
  | 5 => BitVec.ofNat 16 s.line.counters.reportGaps
  | 6 => BitVec.ofNat 16 s.line.counters.orphanedOps
  | 7 => BitVec.ofNat 16 s.line.counters.unmatchedAnswers
  | 8 => BitVec.ofNat 8 s.start.station.code ++ BitVec.ofNat 8 (shownMode s).code
  | 9 => BitVec.ofNat 4 s.drive.state.code ++ BitVec.ofInt 12 s.sp.drv.ramp.out
  | 10 => armWord s.arm1
  | 11 => armWord s.arm2
  | 12 => BitVec.ofNat 8 s.water.state.code ++ BitVec.ofNat 8 s.water.dryCount
  | 13 => bitmapOf .fresh s
  | 14 => bitmapOf .lost s
  | 15 => flagsWord s.sp
  | n => if n ≤ 30 then entryWord (entryAt (n - 16) s) else summaryWord (entryAt (n - 32) s)

/-- QUERY changes nothing but the queues its answer passes through; taken in every state (R121, R130). -/
def actQuery (r : Request) (s : State) : Reply :=
  match itemArg r.args with
  | none => decided .refused 0 s
  | some item => decided .done (itemValue item s) s

/-- QUERY (R130). -/
def execQuery (s : State) : Host.Outcome State Fault Refusal :=
  .next (serve (fun k => k = kindQuery) actQuery s)

/-! ### RESTART (R131) and unnamed kinds (R119) -/

/-- A RESTART by the tests of R122: an argument is out of range, SERVICE answers DONE, and every other mode and
LISTENING refuse (R131). -/
def actRestart (r : Request) (s : State) : Reply :=
  if r.args ≠ [] then decided .refused 0 s
  else if s.start.station = .running ∧ s.start.mode = .service then ⟨s, .done, 0, true⟩
  else decided .refused 0 s

/-- The RESTART is taken without an answer: in SILENCED or FAILED_START, with no entry under its tag and a
fitting argument (R121, R131, R148, log 19). -/
def restartsSilently (r : Request) (s : State) : Bool :=
  (s.start.station = .silenced || s.start.station = .failedStart)
    && (findEntry r.src r.tag s).isNone && r.args.isEmpty

/-- A warm restart in SILENCED, a reload in FAILED_START (R131). -/
def restartNow (straps : Straps) (s : State) : State :=
  if s.start.station = .silenced then warmRestart s else reload straps s

/-- RESTART (R131). -/
def execRestart (straps : Straps) (s : State) : Host.Outcome State Fault Refusal :=
  match frontRequest (fun k => k = kindRestart) s with
  | none => .next s
  | some f =>
    let t := popRx s
    if discarded f then .next t
    else if restartsSilently (requestOf f) t then .next (restartNow straps t)
    else .next (answerRequest actRestart (requestOf f) t)

/-- UNKNOWN with value 0, whatever the length (R119, R120, R176). -/
def actUnknown (_r : Request) (s : State) : Reply := decided .unknown 0 s

/-- UNKNOWN_REQUEST_KIND (R119). -/
def execUnknownRequestKind (s : State) : Host.Outcome State Fault Refusal :=
  .next (serve kindUnnamed actUnknown s)

/-- The entry of this requester and tag has reached the discard time (R127). -/
def entryExpired (requester tag : Nibble) (s : State) : Bool :=
  match findEntry requester tag s with
  | some e => discardDue e s
  | none => false

/-- The entry of this requester and tag is RUNNING. -/
def entryRunning (requester tag : Nibble) (s : State) : Bool :=
  match findEntry requester tag s with
  | some e => e.state = .running
  | none => false

/-- ENTRY_DISCARD (R127): the entry is removed, and a RUNNING one is counted as orphaned. -/
def execEntryDiscard (requester tag : Nibble) (s : State) : Host.Outcome State Fault Refusal :=
  if entryExpired requester tag s then
    let t := freeEntry requester tag s
    .next (if entryRunning requester tag s then countOrphan t else t)
  else .next s

end Sys2Proof.Machine
end

