-- ==== Sys2Proof/Machine/Line.lean ====
section
/-! DEFINITION. The line port (chapter 8): receiving, guards, the arbiter, contention, report content, frame ends. -/

namespace Sys2Proof.Machine

/-! ### Receiving (R140, R141, R142) -/

/-- The receiver runs: every state but LOADING (R141). -/
def receiverOn (s : State) : Bool := s.start.station ≠ .loading

/-- This station is transmitting (R141). -/
def transmitting (s : State) : Bool := s.line.onLine.isSome

/-- A duplicate-station event: SILENCED from LISTENING and RUNNING, nothing elsewhere (R142). -/
def duplicateStation (s : State) : State :=
  if s.start.station = .listening ∨ s.start.station = .running then enterSilenced s else s

/-- A frame joins the receive queue, or is lost to a full one (R141). -/
def queueFrame (f : Frame) (s : State) : State :=
  if 4 ≤ s.line.rx.length then countMissed s
  else s.withLine { s.line with rx := s.line.rx ++ [f] }

/-- A valid frame is sorted by source and destination (R141, R142, log 13). -/
def sortFrame (f : Frame) (s : State) : State :=
  if f.src = s.start.number then duplicateStation s
  else if f.dst = s.start.number ∨ f.dst = 15 then queueFrame f s
  else s

/-- FRAME_ARRIVAL (R140, R141): with the receiver off nothing is checked or counted, and a frame heard while this
station transmits is its own (log 14). -/
def execFrameArrival (bits : List Bool) (s : State) : Host.Outcome State Fault Refusal :=
  if receiverOn s = false ∨ transmitting s = true then .next s
  else
    match parseFrame bits with
    | none => .next (countCheckError s)
    | some f => .next (sortFrame f s)

/-! ### The babble guard (R143) -/

/-- The marks after a report that is cut off: a mark of its number plus 1 goes back to its number (R146). -/
def markBack (seq : Byte) (a : Answer) : Answer :=
  if a.mark = some (seq + 1) then { a with mark := some seq } else a

/-- The frame on the line is lost from its slot or queue, and a report becomes due again (R143, R151), one that a
warm restart or a reload caught on the line too (log 34). -/
def loseSending (l : LinePort) : LinePort :=
  let m := { l with onLine := none, guardTime := 0 }
  match l.onLine with
  | none => l
  | some x =>
    match x.owner with
    | .alert k => if m.alertSlot = some k then { m with alertSlot := none } else m
    | .answer => { m with answers := m.answers.tail }
    | .report => { m with reportDue := true, answers := m.answers.map (markBack m.seq) }
    | .request tag => { m with requests := m.requests.filter (fun q => q.tag ≠ tag) }
    | .orphan => m

/-- The effect of a cut-off by the station state (R143, R174, log 16). In LOADING the guard stays armed, as R153
gives it on leaving LOADING. -/
def cutOff (s : State) : State :=
  let t := s.withLine { loseSending s.line with guardArmed := decide (s.start.station = .loading) }
  match t.start.station with
  | .listening => enterSilenced t
  | .running => enterSilenced t
  | .failedStart => raiseOnce .lineFault (t.withLine { t.line with heldOff := true })
  | .silenced => t
  | .loading => t

/-- BABBLE_GUARD_CUTOFF (R143). -/
def execBabbleGuardCutoff (s : State) : Host.Outcome State Fault Refusal :=
  if guardDue s then .next (cutOff s) else .next s

/-! ### The arbiter (R144, R145) -/

/-- The transmitter may send (R144). -/
def transmitterOn (s : State) : Bool :=
  match s.start.station with
  | .listening => true
  | .running => true
  | .failedStart => !s.line.heldOff
  | .loading => false
  | .silenced => false

/-- The states whose transmitter sends reports (R144). -/
def sendsReports (s : State) : Bool :=
  s.start.station = .running || s.start.station = .failedStart

/-- What the arbiter may offer. -/
inductive Offer where
  | alert (kind : FaultKind)
  | answer (a : Answer)
  | report
  | request (q : QueuedRequest)
  deriving DecidableEq, Repr

/-- The front answer, unless it is held behind the due report (R145, R146). -/
def freeAnswer (s : State) : Option Answer :=
  match s.line.answers with
  | a :: _ => if a.mark.isSome then none else some a
  | [] => none

/-- The front request of the request queue, in RUNNING (R149). -/
def freeRequest (s : State) : Option QueuedRequest :=
  if s.start.station = .running then s.line.requests.head? else none

/-- The arbiter's choice: ALERT slot, front answer, due report, front request (R145). -/
def chosenOffer (s : State) : Option Offer :=
  if transmitterOn s then
    match s.line.alertSlot, freeAnswer s with
    | some k, _ => some (.alert k)
    | none, some a => some (.answer a)
    | none, none =>
      if s.line.reportDue && sendsReports s then some .report
      else (freeRequest s).map Offer.request
  else none

/-! ### Report content (R151, R172, R67, R89, R105) -/

/-- The values of a station without a channel in view: role 0 with every drive quality BAD (R41, R68, R90). -/
def silentValues (period : Nat) (m : Mode) (summary : FaultSet) : ReportValues where
  period := period
  mask := 0
  mode := m
  travel := 0
  travelQ := .bad
  direction := none
  engine := 0
  engineQ := .bad
  pressure := 0
  pressureQ := .bad
  brush1 := 0
  brush2 := 0
  arm1 := .stowed
  arm2 := .stowed
  water := .off
  summary := summary

/-- The drive values of a report: the own measurements where DRV is populated (R67), the values of R41 where it is
not. -/
def driveValues (s : State) (v : ReportValues) : ReportValues :=
  if populated .drv s then
    { v with
      travel := s.drive.meas.v, travelQ := ownTravelQuality s, direction := shownDirection s.drive
      engine := s.drive.meas.nE, engineQ := ownEngineQuality s
      pressure := s.drive.pressure, pressureQ := ownPressureQuality s }
  else v

/-- The content of a report at the moment it wins the line (R151; FAILED_START: R172). -/
def reportValues (s : State) : ReportValues :=
  match s.start.image with
  | some b =>
    driveValues s
      { silentValues b.line.period s.start.mode s.faults.sticky with
        mask := roleMask s.start.role
        brush1 := BitVec.ofNat 8 (ownBrushByte .one s)
        brush2 := BitVec.ofNat 8 (ownBrushByte .two s)
        arm1 := s.arm1.state
        arm2 := s.arm2.state
        water := s.water.state }
  | none => silentValues 10 .service s.faults.sticky

/-! ### Frames (R138, R147, R176) -/

/-- The frame of an offer; `high` is the free part of a tag byte (log 8). -/
def frameOf (s : State) (high : BitVec 4) : Offer → Frame
  | .alert k => ⟨.alert, s.start.number, 15, BitVec.ofNat 4 k.num, []⟩
  | .answer a =>
    ⟨.answer, s.start.number, a.dest, a.kind,
      [tagByte high a.tag, BitVec.ofNat 8 a.result.code, hiByte a.value, loByte a.value]⟩
  | .report => ⟨.report, s.start.number, 15, 0, reportBytes s.line.seq (reportValues s)⟩
  | .request q => ⟨.request, s.start.number, q.dest, q.kind, tagByte high q.tag :: q.args⟩

/-- The owner of an offer. -/
def ownerOf : Offer → Owner
  | .alert k => .alert k
  | .answer _ => .answer
  | .report => .report
  | .request q => .request q.tag

/-- The frame goes on the line: the guard starts, and a winning report clears the flag (R139, R143, R150). -/
def putOnLine (o : Offer) (f : Frame) (s : State) : State :=
  s.withLine { s.line with
    onLine := some ⟨ownerOf o, f⟩
    guardTime := 0
    reportDue := if o = .report then false else s.line.reportDue }

/-- The contest of an offered frame with the strongest rival (R139). -/
def winsLine (f : Frame) : Option Frame → Bool
  | none => true
  | some g => winsContest (frameBits f) (frameBits g)

/-- LINE_IDLE (R139, R145): the chosen frame is offered and goes on the line where it wins; a losing frame keeps
its place, and a losing report stays due. -/
def execLineIdle (rival : Option Frame) (s : State) : Host.Outcome State Fault Refusal :=
  if transmitting s then .next s
  else
    match chosenOffer s with
    | none => .next s
    | some o =>
      let f := frameOf s (Config.freeTagHigh s.free) o
      let t := s.withFree (s.free + 1)
      if winsLine f rival then .next (putOnLine o f t) else .next t

/-! ### The end of a frame (R145) -/

/-- The ALERT slot at the end of an alert: emptied if it still holds the kind that was sent (R147). -/
def alertSent (k : FaultKind) (s : State) : State :=
  if s.line.alertSlot = some k then s.withLine { s.line with alertSlot := none } else s

/-- The end of an answer: it leaves its queue, and the DONE answer to a RESTART starts the warm restart in
RUNNING (R131, R145, R175). -/
def answerSent (s : State) : State :=
  let t := s.withLine { s.line with answers := s.line.answers.tail }
  match s.line.answers with
  | a :: _ => if a.restarts = true ∧ s.start.station = .running then warmRestart t else t
  | [] => t

/-- A mark removed at the end of its report (R146). -/
def markSent (seq : Byte) (a : Answer) : Answer :=
  if a.mark = some seq then { a with mark := none } else a

/-- The end of a report: the sequence counter steps and the marks of its number go (R146, R151). -/
def reportSent (s : State) : State :=
  s.withLine { s.line with
    seq := s.line.seq + 1, answers := s.line.answers.map (markSent s.line.seq) }

/-- The end of a request: it leaves its queue and its entry goes to AWAITING (R135, R149). -/
def requestSent (tag : Nibble) (s : State) : State :=
  mapOutgoing tag (fun e => { e with state := .awaiting, timer := some 0 })
    (s.withLine { s.line with requests := s.line.requests.filter (fun q => q.tag ≠ tag) })

/-- The end of a frame is told to what it came from (R145). A frame whose queue a warm restart or a reload has
emptied reaches no block (R153); every report steps the sequence counter, one caught by them too (R151, log 33). -/
def frameEnded (o : Owner) (s : State) : State :=
  match o with
  | .alert k => alertSent k s
  | .answer => answerSent s
  | .report => reportSent s
  | .request tag => requestSent tag s
  | .orphan => s

/-- FRAME_SENT (R145): the guard goes back to 0 (R143). -/
def execFrameSent (s : State) : Host.Outcome State Fault Refusal :=
  match s.line.onLine with
  | none => .next s
  | some x => .next (frameEnded x.owner (s.withLine { s.line with onLine := none, guardTime := 0 }))

/-- REPORT_TIMER_EXPIRY (R150): the report is due, and the timer runs on. -/
def execReportTimerExpiry (s : State) : Host.Outcome State Fault Refusal :=
  if reportTimerDue s then
    .next (makeDue
      (s.withLine { s.line with reportTimer := s.line.reportTimer.map (· - reportPeriod s) }))
  else .next s

end Sys2Proof.Machine
end

