-- ==== Sys2Proof/Machine/StartBlock.lean ====
section
/-! DEFINITION. The start block: the checks of R171 and the layout of R179. -/

namespace Sys2Proof.Machine

/-- The byte that the levels of SPI_MISO at eight rising edges of SPI_SCK spell, most significant bit first (R170,
R179); a level the memory does not give reads high, as an absent memory leaves the data line (R171, log 17). -/
def takeByte (miso : List Bool) : Byte :=
  BitVec.ofNat 8 (numOf ((List.range 8).map (fun k => miso.getD k true)))

/-- The first n bytes taken on SPI_MISO, eight rising edges each (R170). -/
def readBytes : Nat → List Bool → List Byte
  | 0, _ => []
  | n + 1, miso => takeByte miso :: readBytes n (miso.drop 8)

/-- The 16-bit words that bytes spell, most significant byte first (R179). -/
def wordsOf : List Byte → List Word
  | hi :: lo :: rest => wordOf hi lo :: wordsOf rest
  | [_] => []
  | [] => []

/-- The two words of the header, which is read first (R170): format code and block length (R179). -/
def headerWords (miso : List Bool) : List Word := wordsOf (readBytes 4 miso)

/-- The format code of R179. -/
def formatCode : Word := 0x0C61#16

/-- The bytes of the fixed part (R179). -/
def fixedPartBytes : Nat := 1076

/-- The block length the header gives, in bytes. -/
def blockLength (miso : List Bool) : Nat := ((headerWords miso).getD 1 0).toNat

/-- The header fails check 2, 3 or 4 of R171. -/
def headerFails (miso : List Bool) : Bool :=
  let code := (headerWords miso).getD 0 0
  let len := blockLength miso
  (code = 0xFFFF#16 && len = 0xFFFF) || code ≠ formatCode
    || 2048 < len || len % 2 = 1 || len < fixedPartBytes

/-- The words of the whole block. -/
def blockWords (miso : List Bool) : List Word := wordsOf (readBytes (blockLength miso) miso)

/-- The sum of all words modulo 65536 (R171, check 5). -/
def wordSum (ws : List Word) : Word := ws.foldl (· + ·) 0

/-- A check of R171 fails: strap number 15, header, or word sum. -/
def loadFails (number : Nibble) (miso : List Bool) : Bool :=
  number = 15 || headerFails miso || wordSum (blockWords miso) ≠ 0

/-- The bytes the read takes: it ends early at a header that fails (R170). -/
def bytesTaken (miso : List Bool) : Nat := if headerFails miso then 4 else blockLength miso

/-! ### Parameters (R171, R179) -/

/-- Word i of a list. -/
def wordAt (ws : List Word) (i : Nat) : Nat := (ws.getD i 0).toNat

/-- A value outside its range is taken at the nearer end (R171). -/
def within (lo hi n : Nat) : Nat := max lo (min hi n)

/-- A value between two steps is taken at the step below it (R171). -/
def onStep (step n : Nat) : Nat := n / step * step

/-- Bits lo to lo + w - 1 of a stored word. -/
def bitsAt (n lo w : Nat) : Nat := n / 2 ^ lo % 2 ^ w

/-- A curve of 19 words (R4, R179). -/
def curveOf (ws : List Word) : Curve where
  x0 := (ws.getD 0 0).toInt
  shift := min 11 (bitsAt (wordAt ws 1) 4 4)
  points := ((ws.drop 2).take (bitsAt (wordAt ws 1) 0 4 + 2)).map (fun w => bitsAt w.toNat 0 12)

def quantityOf : Nat → TestQuantity
  | 0 => .travelAbs
  | 1 => .engineDroop
  | 2 => .tankLevel
  | 3 => .loopPressure
  | 4 => .armPosition
  | _ => .brushSum

def conditionOf : Nat → Condition
  | 0 => .always
  | 1 => .gt
  | 2 => .eq
  | 3 => .lt
  | 4 => .never
  | 5 => .ge
  | 6 => .ne
  | _ => .le

def mixOf : Nat → Mix
  | 0 => .a
  | 1 => .b
  | 2 => .min
  | 3 => .max
  | 4 => .sum
  | 5 => .diff
  | 6 => .avg
  | _ => .zero

/-- A blend rule of two words (R8, R179): quantity codes 6 and 7 are taken as 5, mix codes above 7 as 7. -/
def ruleOf (ws : List Word) : BlendRule where
  quantity := quantityOf (bitsAt (wordAt ws 0) 12 3)
  compare := wordAt ws 1
  code := conditionOf (bitsAt (wordAt ws 0) 8 3)
  fg := mixOf (bitsAt (wordAt ws 0) 4 4)
  bg := mixOf (bitsAt (wordAt ws 0) 0 4)

/-- The four pattern slots of a word, slot 4j in bits 15-12 (R179). -/
def slotsOf (w : Word) : List (BitVec 4) :=
  [w.extractLsb' 12 4, w.extractLsb' 8 4, w.extractLsb' 4 4, w.extractLsb' 0 4]

/-- A bank of 100 words (R2, R179). DEDUCED (log 40): words 76 to 81 hold control periods, the unit of R2, where
R179 names none. -/
def bankOf (ws : List Word) : Bank where
  pedal := curveOf ws
  feed := curveOf (ws.drop 19)
  brush := curveOf (ws.drop 38)
  water := curveOf (ws.drop 57)
  drvTimes := ⟨within 0 6000 (wordAt ws 76), within 0 6000 (wordAt ws 77)⟩
  brTimes := ⟨within 0 6000 (wordAt ws 78), within 0 6000 (wordAt ws 79)⟩
  wtrTimes := ⟨within 0 6000 (wordAt ws 80), within 0 6000 (wordAt ws 81)⟩
  drvPair := ⟨within 0 4000 (wordAt ws 82), within 0 4000 (wordAt ws 83)⟩
  brPair := ⟨within 0 4000 (wordAt ws 84), within 0 4000 (wordAt ws 85)⟩
  wtrPair := ⟨within 0 4000 (wordAt ws 86), within 0 4000 (wordAt ws 87)⟩
  blindShare := within 0 256 (wordAt ws 88)
  brRule := ruleOf (ws.drop 89)
  wtrRule := ruleOf (ws.drop 91)
  waterTrim := within 0 4095 (wordAt ws 93)
  primeCommand := within 0 4095 (wordAt ws 94)
  pattern := ((ws.drop 95).take 4).flatMap slotsOf
  blindCommand := within 0 4095 (wordAt ws 99)

/-- A switch-map slot of three words (R179): empty where bit 15 is 0, or where the destination is 15 or
the station's own number (R133). -/
def slotOf (number : Nibble) (ws : List Word) : Option SwitchSlot :=
  let w0 := ws.getD 0 0
  let dest : Nibble := w0.extractLsb' 8 4
  if w0.getLsbD 15 = false ∨ dest = 15 ∨ dest = number then none
  else
    let w1 := ws.getD 1 0
    let w2 := ws.getD 2 0
    some ⟨dest, w0.extractLsb' 0 4, [hiByte w1, loByte w1, hiByte w2, loByte w2]⟩

def lineParamsOf (ws : List Word) : LineParams where
  period := within 2 20 (wordAt ws 2)
  discardTime := within 100 2000 (wordAt ws 3)
  repeatInterval := within 20 500 (wordAt ws 4)
  repeatLimit := within 1 15 (wordAt ws 5)
  setSpeed := within 1000 3500 (wordAt ws 6)
  fullScale := within 100 600 (wordAt ws 7)
  ppm := within 50 2000 (wordAt ws 8)
  ppr := within 1 255 (wordAt ws 9)

/-- The drive's settings (3.1, R179). DEDUCED (log 40): word 19, the fault ramp time, holds control periods, the unit
of the table of 3.1, where R179 names none. -/
def driveParamsOf (ws : List Word) : DriveParams where
  pedalDeadband := within 0 4095 (wordAt ws 10)
  transportCap := within 0 1500 (wordAt ws 11)
  sweepCap := within 0 1500 (wordAt ws 12)
  sweepCapMin := within 0 1500 (wordAt ws 13)
  capSlope := within 0 255 (wordAt ws 14)
  reverseCap := within 0 1500 (wordAt ws 15)
  stopSpeed := within 0 100 (wordAt ws 16)
  parkDelay := onStep 10 (within 0 5000 (wordAt ws 17))
  dwellTime := onStep 10 (within 100 2000 (wordAt ws 18))
  faultRamp := within 0 6000 (wordAt ws 19)
  trimDeadband := within 0 255 (wordAt ws 20)
  trimLimit := within 0 512 (wordAt ws 21)
  cutPressure := within 0 500 (wordAt ws 22)
  cutHysteresis := within 0 100 (wordAt ws 23)
  cutStep := within 0 4095 (wordAt ws 24)

def armParamsOf (ws : List Word) : ArmParams where
  stow1 := within 82 4013 (wordAt ws 25)
  work1 := within 82 4013 (wordAt ws 26)
  stow2 := within 82 4013 (wordAt ws 27)
  work2 := within 82 4013 (wordAt ws 28)
  moveTime := onStep 100 (within 1000 15000 (wordAt ws 29))
  blindTime := onStep 100 (within 0 10000 (wordAt ws 30))
  reverseLift := within 0 255 (wordAt ws 31)
  resume := within 0 255 (wordAt ws 32)
  lowerSpeed := within 0 1500 (wordAt ws 33)

/-- The dry wait time is stored in seconds (R179). -/
def waterParamsOf (ws : List Word) : WaterParams where
  empty := within 82 4013 (wordAt ws 34)
  primePressure := within 82 4013 (wordAt ws 35)
  lossThreshold := within 82 4013 (wordAt ws 36)
  primeTime := onStep 100 (within 1000 20000 (wordAt ws 37))
  lossTime := onStep 100 (within 500 5000 (wordAt ws 38))
  dryWaitTime := 1000 * within 5 120 (wordAt ws 39)
  sprayMin := within 0 1500 (wordAt ws 40)

/-- The accepted image (R171, R179). -/
def imageOf (number : Nibble) (miso : List Bool) : StartBlock :=
  let ws := blockWords miso
  { line := lineParamsOf ws
    drive := driveParamsOf ws
    arms := armParamsOf ws
    water := waterParamsOf ws
    bank0 := bankOf (ws.drop 41)
    bank1 := bankOf (ws.drop 141)
    bank2 := bankOf (ws.drop 241)
    bank3 := bankOf (ws.drop 341)
    switchMap := (List.range 32).map (fun k => slotOf number (ws.drop (441 + 3 * k))) }

end Sys2Proof.Machine
end

