-- ==== Sys2Proof/Machine/Start.lean ====
section
/-! DEFINITION. Start and reset (chapter 10): cold reset, its release, the completion of the load, entry to RUNNING. -/

namespace Sys2Proof.Machine

/-- COLD_RESET (R169): every block at its cold-reset value, any operation in flight abandoned. -/
def execColdReset (s : State) : Host.Outcome State Fault Refusal := .next (coldState s)

/-- RESET_RELEASE (R169): RESET_N goes high, which starts LOADING; a release with RESET_N already high does not
take place. -/
def execResetRelease (straps : Straps) (s : State) : Host.Outcome State Fault Refusal :=
  if s.pins.resetN then .next s else .next (beginLoading straps s)

/-- The load operation runs: LOADING with RESET_N released (R170). -/
def loadRuns (s : State) : Bool := s.start.station = .loading && s.pins.resetN

/-- The SPI port at the end of the read: SPI_CS_N is raised, after the bytes the read took (R170). -/
def endRead (miso : List Bool) (s : State) : State :=
  s.withStart { s.start with spi := ⟨false, s.start.spi.sent, bytesTaken miso⟩ }

/-- FAILED_START with CONFIG_BAD; the report timer starts, and the strap number 15 holds the transmitter off
(R171, R172, R153). The debouncers take no level: R132 says 'on leaving LOADING', and also that the switches are not
read in FAILED_START (log 37). -/
def failStart (s : State) : State :=
  let t := s.withStart { s.start with station := .failedStart, image := none }
  let t := t.withLine { t.line with
    reportTimer := some 0, heldOff := t.line.heldOff || decide (t.start.number = 15) }
  handOver .configBad true t

/-- The first position of an arm on leaving LOADING: STOWED from a GOOD count at or above P_stow, else it stays
HELD, and a BAD count hands the position cause over (R70, log 25). -/
def firstPosition (b : StartBlock) (n : ArmId) (raw : Raw) (s : State) : State :=
  let t := setPositionPin n raw s
  if populated (armChannel n) t then
    let t := t.withArm n { t.arm n with position := positionPin n t }
    if inSpan (positionPin n t) then
      if stowPosition b n ≤ (positionPin n t).toNat then enterArm n .stowed false t else t
    else handOver (armFault n) true t
  else t

/-- The debouncers on leaving LOADING for LISTENING: the raw level is the debounced level, without an edge (R132,
R171, log 37). -/
def firstLevels (levels : BitVec 8) : Vector Debouncer 8 :=
  Vector.ofFn (fun i => ⟨levels.getLsbD i.val, levels.getLsbD i.val, none⟩)

/-- The image is accepted and the station enters LISTENING (R171). The bucket timer starts where the measurements
are made (R21). ARM1 reads its first position before ARM2: R168 does not order the two, and where both are BAD the
ALERT slot keeps the later hand-over, ARM2_FAULT (R164, log 35). -/
def acceptStart (b : StartBlock) (arm1 arm2 : Raw) (levels : BitVec 8) (s : State) : State :=
  let t := s.withStart { s.start with station := .listening, image := some b, joinTimer := some 0 }
  let t := firstPosition b .two arm2 (firstPosition b .one arm1 t)
  let t := t.withReq { t.req with switches := firstLevels levels }
  t.withDrive { t.drive with meas := { t.drive.meas with bucketTimer := some 0 } }

/-- LOAD_COMPLETION (R171). -/
def execLoadCompletion (miso : List Bool) (arm1 arm2 : Raw) (levels : BitVec 8) (s : State) :
    Host.Outcome State Fault Refusal :=
  if loadRuns s then
    let t := endRead miso s
    if loadFails t.start.number miso then .next (failStart t)
    else .next (acceptStart (imageOf t.start.number miso) arm1 arm2 levels t)
  else .next s

/-- Entry to RUNNING (R173). -/
def enterRunning (s : State) : State :=
  let t := s.withStart { s.start with station := .running, joinTimer := none }
  testInherited (makeDue (t.withLine { t.line with reportTimer := some 0 }))

/-- JOIN_TIMER_EXPIRY (R173). -/
def execJoinTimerExpiry (s : State) : Host.Outcome State Fault Refusal :=
  if joinDue s then .next (enterRunning s) else .next s

end Sys2Proof.Machine
end

