-- ==== Sys2Proof/Machine/Dispatch.lean ====
section
/-! DEFINITION. The meaning of each command, one arm per constructor of Instr. -/

namespace Sys2Proof.Machine

def exec (i : Instr) (s : State) : Host.Outcome State Fault Refusal :=
  match i with
  | .coldReset => Sys2Proof.Machine.execColdReset s
  | .resetRelease straps => Sys2Proof.Machine.execResetRelease straps s
  | .loadCompletion miso arm1 arm2 switches => Sys2Proof.Machine.execLoadCompletion miso arm1 arm2 switches s
  | .joinTimerExpiry => Sys2Proof.Machine.execJoinTimerExpiry s
  | .drvControlPeriod inputs => Sys2Proof.Machine.execDrvControlPeriod inputs s
  | .armControlPeriod arm position => Sys2Proof.Machine.execArmControlPeriod arm position s
  | .wtrControlPeriod tank waterP => Sys2Proof.Machine.execWtrControlPeriod tank waterP s
  | .bucketClose => Sys2Proof.Machine.execBucketClose s
  | .speedEdge track levelA levelB => Sys2Proof.Machine.execSpeedEdge track levelA levelB s
  | .engineEdge => Sys2Proof.Machine.execEngineEdge s
  | .parkTimerExpiry => Sys2Proof.Machine.execParkTimerExpiry s
  | .dwellTimerExpiry => Sys2Proof.Machine.execDwellTimerExpiry s
  | .speedSilenceExpiry => Sys2Proof.Machine.execSpeedSilenceExpiry s
  | .engineSilenceExpiry => Sys2Proof.Machine.execEngineSilenceExpiry s
  | .moveTimerExpiry arm => Sys2Proof.Machine.execMoveTimerExpiry arm s
  | .blindTimerExpiry arm => Sys2Proof.Machine.execBlindTimerExpiry arm s
  | .primeTimerExpiry => Sys2Proof.Machine.execPrimeTimerExpiry s
  | .lossTimerExpiry => Sys2Proof.Machine.execLossTimerExpiry s
  | .dryWaitExpiry => Sys2Proof.Machine.execDryWaitExpiry s
  | .patternTimerExpiry => Sys2Proof.Machine.execPatternTimerExpiry s
  | .staleExpiry station => Sys2Proof.Machine.execStaleExpiry station s
  | .lostExpiry station => Sys2Proof.Machine.execLostExpiry station s
  | .entryDiscard requester tag => Sys2Proof.Machine.execEntryDiscard requester tag s
  | .repeatTimerExpiry tag => Sys2Proof.Machine.execRepeatTimerExpiry tag s
  | .switchLevelChange switch level => Sys2Proof.Machine.execSwitchLevelChange switch level s
  | .settlingTimerExpiry switch => Sys2Proof.Machine.execSettlingTimerExpiry switch s
  | .reportTimerExpiry => Sys2Proof.Machine.execReportTimerExpiry s
  | .frameArrival bits => Sys2Proof.Machine.execFrameArrival bits s
  | .babbleGuardCutoff => Sys2Proof.Machine.execBabbleGuardCutoff s
  | .reportArrival => Sys2Proof.Machine.execReportArrival s
  | .alertArrival => Sys2Proof.Machine.execAlertArrival s
  | .answerArrival => Sys2Proof.Machine.execAnswerArrival s
  | .setMode => Sys2Proof.Machine.execSetMode s
  | .armMove => Sys2Proof.Machine.execArmMove s
  | .waterSet => Sys2Proof.Machine.execWaterSet s
  | .trimSet => Sys2Proof.Machine.execTrimSet s
  | .faultClear => Sys2Proof.Machine.execFaultClear s
  | .query => Sys2Proof.Machine.execQuery s
  | .restart straps => Sys2Proof.Machine.execRestart straps s
  | .unknownRequestKind => Sys2Proof.Machine.execUnknownRequestKind s
  | .lineIdle rival => Sys2Proof.Machine.execLineIdle rival s
  | .frameSent => Sys2Proof.Machine.execFrameSent s

end Sys2Proof.Machine
end

