-- ==== Sys2Proof/Machine/Pins.lean ====
section
/-! DEFINITION. The output pins, each computed from the state that drives it (11.5, R53, R63, R71, R99, R162). -/

namespace Sys2Proof.Machine

/-- The outputs of one arm and brush. -/
structure ArmPins where
  up : Bool
  down : Bool
  float : Bool
  brushDuty : Nat
  deriving DecidableEq, Repr

/-- The levels of the clock and of the data line that the part drives on its SPI port; `none` where the spec states
no level of the data line (log 17). -/
structure SpiLevels where
  sck : Bool
  mosi : Option Bool
  deriving DecidableEq, Repr

/-- One bit in SPI mode 0: the clock idles low, rises where the data is taken, and falls again (R170). -/
def spiBit (mosi : Option Bool) : List SpiLevels := [⟨false, mosi⟩, ⟨true, mosi⟩, ⟨false, mosi⟩]

/-- The bits of a read in order: those of the bytes sent, each most significant bit first, then eight for each byte
taken, under which SPI_MISO is read (R170). -/
def spiBits (p : Spi) : List (Option Bool) :=
  (p.sent.flatMap bitsOf).map some ++ List.replicate (8 * p.taken) none

/-- The clock and data levels of a read (R170). -/
def spiWaveOf (p : Spi) : List SpiLevels := (spiBits p).flatMap spiBit

/-- The output pins of 11.5: coil currents and duties as counts of 4095, on/off outputs as driven or not. -/
structure OutputPins where
  pumpFwd : Nat
  pumpRev : Nat
  brakeRel : Bool
  arm1 : ArmPins
  arm2 : ArmPins
  waterPump : Nat
  spray : BitVec 4
  /-- FAULT_N is driven low (R162). -/
  faultLow : Bool
  /-- SPI_CS_N is driven low (R170). -/
  spiSelected : Bool
  /-- The levels of SPI_SCK and SPI_MOSI since SPI_CS_N last fell, under the bytes sent and the bytes taken; between
  steps SPI_SCK idles low (R170, log 29). -/
  spiWave : List SpiLevels
  deriving DecidableEq, Repr

/-- Outputs are driven in LISTENING, RUNNING and SILENCED only (R41, R71, R90, R172). -/
def outputsDriven (s : State) : Bool :=
  s.start.station ≠ .loading && s.start.station ≠ .failedStart

/-- The valves and brush of a driven arm (R71). -/
def armPins (driven : Bool) (a : Arm) : ArmPins where
  up := driven && a.state = .lifting
  down := driven && a.state = .lowering
  float := driven && a.state = .working
  brushDuty := if driven then a.command else 0

/-- The output pins (11.5). -/
def outputs (s : State) : OutputPins where
  pumpFwd := if outputsDriven s && populated .drv s then s.drive.command.toNat else 0
  pumpRev := if outputsDriven s && populated .drv s then (-s.drive.command).toNat else 0
  brakeRel := outputsDriven s && populated .drv s && !s.drive.brakeApplied
  arm1 := armPins (outputsDriven s && populated .arm1 s) s.arm1
  arm2 := armPins (outputsDriven s && populated .arm2 s) s.arm2
  waterPump := if outputsDriven s && populated .wtr s then s.water.pump else 0
  spray := if outputsDriven s && populated .wtr s then s.water.valves else 0
  faultLow := faultAsserted s
  spiSelected := s.start.spi.selected
  spiWave := spiWaveOf s.start.spi

end Sys2Proof.Machine
end

