-- ==== Sys2Proof/Safety.lean ====
section
/-! DEFINITION. The laws and the vocabulary that statements about the machine use. -/

namespace Sys2Proof.Machine

/-! ### Frames: the parts a command leaves alone -/

/-- The parts of State, one for each field. -/
inductive Part where
  | pending
  | free
  | pins
  | start
  | line
  | peers
  | req
  | sp
  | drive
  | arm1
  | arm2
  | water
  | faults
  deriving DecidableEq, Repr

/-- Two states agree on a part. -/
def Same (p : Part) (s t : State) : Prop :=
  match p with
  | .pending => t.pending = s.pending
  | .free => t.free = s.free
  | .pins => t.pins = s.pins
  | .start => t.start = s.start
  | .line => t.line = s.line
  | .peers => t.peers = s.peers
  | .req => t.req = s.req
  | .sp => t.sp = s.sp
  | .drive => t.drive = s.drive
  | .arm1 => t.arm1 = s.arm1
  | .arm2 => t.arm2 = s.arm2
  | .water => t.water = s.water
  | .faults => t.faults = s.faults

/-- Every part outside the list is unchanged. -/
def KeepsAllBut (changed : List Part) (s t : State) : Prop := ∀ p : Part, p ∉ changed → Same p s t

/-- The part that holds an arm. -/
def armPart : ArmId → Part
  | .one => .arm1
  | .two => .arm2

/-! ### Requests as they are taken -/

/-- The request frame `f` of a kind stands at the front of the receive queue, reaches a single requester and
station, and carries a tag. -/
abbrev Reaches (kind : Nibble) (f : Frame) (rest : List Frame) (s : State) : Prop :=
  s.line.rx = f :: rest ∧ f.cls = .request ∧ f.kind = kind ∧ f.dst ≠ 15 ∧ f.src ≠ 15 ∧ f.payload ≠ []

/-- The request frame `f` of a kind reaches the request unit, finds a place for its answer and matches no pending
entry. -/
abbrev Takes (kind : Nibble) (f : Frame) (rest : List Frame) (s : State) : Prop :=
  Reaches kind f rest s ∧ s.line.answers.length < 4 ∧ findEntry f.src (requestOf f).tag s = none

/-- The command takes requests of this kind code (R176). -/
def TakesKind (c : Instr) (kind : Nibble) : Prop :=
  match c with
  | .setMode => kind = 1
  | .armMove => kind = 2
  | .waterSet => kind = 3
  | .trimSet => kind = 4
  | .faultClear => kind = 5
  | .query => kind = 6
  | .restart _ => kind = 7
  | .unknownRequestKind => kind = 0 ∨ 8 ≤ kind.toNat
  | _ => False

/-- The hold mark of R146 by the due flag and the report on the line: the number of the report that a DONE or FAILED
answer waits for; a report that a restart caught on the line counts as any other (log 33). Every other result takes none. -/
def markOf (r : Result) (t : State) : Option Byte :=
  if r = .done ∨ r = .failed then
    match decide (t.line.onLine.map Sending.owner = some .report), t.line.reportDue with
    | false, false => none
    | false, true => some t.line.seq
    | true, false => some t.line.seq
    | true, true => some (t.line.seq + 1)
  else none

/-- The answer queue gained one answer to the request `f`, with the mark of R146 for the report that is due or on the
line when it is queued. -/
def Answers (f : Frame) (r : Result) (value : Word) (s t : State) : Prop :=
  t.line.answers
    = s.line.answers ++ [⟨f.src, (requestOf f).tag, f.kind, r, value, markOf r t, false⟩]

/-- The request `f` is answered without a hold mark and has no other effect. -/
def onlyAnswered (f : Frame) (rest : List Frame) (r : Result) (value : Word) (s : State) : State :=
  s.withLine { s.line with
    rx := rest
    answers := s.line.answers ++ [⟨f.src, (requestOf f).tag, f.kind, r, value, none, false⟩] }

/-! ### The ends of operations (R78, R111, R126) -/

/-- A pending entry after an event of an arm: where it is RUNNING and claims the arm, it takes the state and value that
the event gives its operation, if it gives one, and its claims are released. The value of a SET_MODE entry is never read
(log 36). -/
def PendingEntry.endedBy (e : PendingEntry) (n : ArmId)
    (work stow transport : Option (PendingState × Word)) : PendingEntry :=
  let out := match e.op with
    | .armMove _ .work => work
    | .armMove _ .stow => stow
    | .setTransport => transport
  match out with
  | some (st, value) =>
    if e.state = .running ∧ e.claims.hasArm n = true then
      { e with state := st, value := value, claims := ⟨false, false, false⟩ }
    else e
  | none => e

/-- A pending entry after a request of a requester with these claims acts in state s: where it is RUNNING under the same
requester and shares a resource, it is SUPERSEDED, with the state of its arm as its value and without claims (R124); the
value of a SET_MODE entry is never read (log 36). -/
def PendingEntry.supersededBy (e : PendingEntry) (src : Nibble) (claims : Claims) (s : State) : PendingEntry :=
  if e.state = .running ∧ e.requester = src ∧ e.claims.overlap claims = true then
    { e with
      state := .superseded
      value := match e.op with
        | .armMove n _ => BitVec.ofNat 16 (s.arm n).state.code
        | .setTransport => 0
      claims := ⟨false, false, false⟩ }
  else e

/-! ### Entry to SILENCED (R174) -/

/-- From s to t the station enters SILENCED: LINE_FAULT is sticky, and goes to the ALERT slot where it was not sticky
before (R163); the report timer stops, the arms go to HELD or STOWED with the resume flag clear, both timers stopped and
the brush at 0, the water channel is not active (R142, R174, R80, R87, R104), and the RUNNING operations end at the arm
changes: an ARM_MOVE by R78, a SET_MODE TRANSPORT by R111, whose recorded value 0 is never read (log 36). An ARM_MOVE
STOW never runs on a REVERSE_LIFTED arm (R75), and nothing is said of one. -/
def EntersSilenced (s t : State) : Prop :=
  let has := fun n : ArmId => populated (armChannel n) s = true
  let moving := fun n : ArmId =>
    (s.arm n).state = .lowering ∨ (s.arm n).state = .working ∨ (s.arm n).state = .lifting
  let ended := fun (n : ArmId) (e : PendingEntry) =>
    if populated (armChannel n) s then
      match (s.arm n).state with
      | .stowed => e
      | .lowering => e.endedBy n (some (.failed, 5)) (some (.failed, 5)) none
      | .working => e.endedBy n (some (.failed, 5)) (some (.failed, 5)) none
      | .lifting => e.endedBy n (some (.failed, 5)) (some (.failed, 5)) none
      | .reverseLifted => e.endedBy n (some (.failed, 0)) none none
      | .held => e
    else e
  let finished := fun (e : PendingEntry) (st : PendingState) =>
    { e with state := st, value := 0, claims := ⟨false, false, false⟩ }
  t.start = { s.start with station := .silenced, joinTimer := none }
  ∧ t.line.reportTimer = none ∧ sticky .lineFault t = true ∧ t.faults.cause = s.faults.cause
  ∧ (sticky .lineFault s = false → t.line.alertSlot = some .lineFault)
  ∧ t.water.state.active = false
  ∧ (∀ n, has n → (t.arm n).state = (match (s.arm n).state with
    | .stowed => .stowed
    | .lowering => .held
    | .working => .held
    | .lifting => .held
    | .reverseLifted => .stowed
    | .held => .held)
    ∧ ((s.arm n).state = .stowed ∨ (s.arm n).state = .held → t.arm n = s.arm n)
    ∧ ((s.arm n).state ≠ .stowed → (s.arm n).state ≠ .held →
        (t.arm n).resume = false ∧ (t.arm n).moveTimer = none ∧ (t.arm n).blindTimer = none
          ∧ (t.arm n).position = (s.arm n).position ∧ (t.arm n).trim = (s.arm n).trim)
    ∧ ((s.arm n).state = .working → (t.arm n).command = 0 ∧ (t.sp.brush n).ramp.out = 0))
  ∧ (∀ n, ¬ has n → t.arm n = s.arm n)
  ∧ { t.req with table := s.req.table } = s.req
  ∧ t.req.table.length = s.req.table.length
  ∧ ∀ (i : Nat) (e : PendingEntry), s.req.table[i]? = some e →
    (e.op ≠ .setTransport →
      (∀ n, (s.arm n).state = .reverseLifted → e.claims.hasArm n = true → ∀ m, e.op ≠ .armMove m .stow) →
      t.req.table[i]? = some (ended .two (ended .one e)))
    ∧ (e.op = .setTransport → e.state ≠ .running → t.req.table[i]? = some e)
    ∧ (e.op = .setTransport → e.state = .running →
        e.claims = ⟨true, populated .arm1 s, populated .arm2 s⟩ →
        ((∃ n, has n ∧ moving n) → t.req.table[i]? = some (finished e .failed))
        ∧ ((∀ n, has n → ¬ moving n) → (∃ n, has n ∧ (s.arm n).state = .reverseLifted) →
            (∀ n, has n → (t.arm n).state = .stowed) → t.req.table[i]? = some (finished e .done))
        ∧ ((∀ n, has n → (s.arm n).state = .stowed ∨ (s.arm n).state = .held) →
            t.req.table[i]? = some e))

/-! ### Warm restart and reload (R172, R175) -/

/-- From s to t the station restarts warm (R175): the start unit; the line port, but for the frame on the line and its guard
time (R153); the peer table (R22); the request unit, each settling timer stopped, and started at once where the raw level
differs (R125, R132, R134, R135); the setpoint engine (R7, R10, R11, R15, R18); the drive (R46); the arms and brushes (R70);
the water channel (R92); and the fault unit (R33, R157, R158). What the DRV ramp keeps beside its output is not said
(log 24). -/
def WarmRestarted (s t : State) : Prop :=
  KeepsAllBut [.start, .line, .peers, .req, .sp, .drive, .arm1, .arm2, .water, .faults] s t
  ∧ t.start = { s.start with station := .listening, mode := .transport, joinTimer := some 0 }
  ∧ t.line = { s.line with
      rx := [], alertSlot := none, answers := [], requests := [], reportDue := false, reportTimer := none
      guardArmed := true, heldOff := false, onLine := t.line.onLine, guardTime := t.line.guardTime }
  ∧ (∀ n : Fin 15, t.peers[n] = none)
  ∧ t.req = { s.req with table := [], outgoing := [], switches := t.req.switches }
  ∧ (∀ i : Fin 8, (t.req.switches[i]).raw = (s.req.switches[i]).raw
      ∧ (t.req.switches[i]).level = (s.req.switches[i]).level
      ∧ (t.req.switches[i]).settle
        = (if (s.req.switches[i]).raw = (s.req.switches[i]).level then none else some 0))
  ∧ (t.sp.drv.ramp.out = s.sp.drv.ramp.out ∧ t.sp.drv.ramp.phase = .atTarget ∧ t.sp.drv.ramp.setUp = false
      ∧ t.sp.drv.pedalClamp = ⟨false, false⟩ ∧ t.sp.drv.feedClamp = ⟨false, false⟩ ∧ t.sp.drv.k = 256)
  ∧ (∀ x ∈ [t.sp.br1, t.sp.br2, t.sp.wtr], x.ramp.out = 0 ∧ x.ramp.err = 0 ∧ x.ramp.phase = .atTarget
      ∧ x.ramp.setUp = false ∧ x.clamp = ⟨false, false⟩ ∧ x.sat = false ∧ x.k = 256)
  ∧ t.drive = (if populated .drv s then
      { s.drive with state := .neutral, pendDir := none, parkTimer := none, dwellTimer := none } else s.drive)
  ∧ (∀ n, t.arm n =
      (let still := { s.arm n with blindTimer := none, command := 0 }
       if populated (armChannel n) s = false ∨ (s.arm n).state = .stowed
          ∨ ((s.arm n).state = .held ∧ sticky (armFault n) s = true) then still
       else { still with state := .lifting, resume := false, moveTimer := some 0 }))
  ∧ t.water = (if populated .wtr s then { s.water with
      state := .off, enable := false, slot := 0, primeTimer := none, lossTimer := none, dryWaitTimer := none
      patternTimer := none, pump := 0, valves := 0 } else s.water)
  ∧ (∀ k ∈ [FaultKind.lineFault, .travelLost, .engineLost, .driveConflict], active k t = false)
  ∧ (∀ k, k ∉ [FaultKind.lineFault, .travelLost, .engineLost, .driveConflict] → active k t = active k s)
  ∧ sticky .lineFault t = false ∧ ∀ k, k ≠ .lineFault → sticky k t = sticky k s

/-- From s to t the station reloads (R172): every block takes its cold-reset value but the six counters and the report
sequence counter, the frame on the line goes on and reaches no block (R153) unless it is a report, whose end steps the
sequence counter (R151, log 33), and LOADING begins with the straps and the
read of the start memory (R169, R170), the arms as the new role populates them (R68, R70). The debounced levels before the
load are not said (log 6). -/
def Reloaded (straps : Straps) (s t : State) : Prop :=
  t.pending = s.pending ∧ t.free = s.free ∧ t.pins = { s.pins with resetN := true }
  ∧ t.start = { State.reset.start with
      station := .loading, number := straps.stn, role := straps.role, spi := ⟨true, [0x03#8, 0x00#8, 0x00#8], 0⟩ }
  ∧ t.line = { State.reset.line with
      counters := s.line.counters, seq := s.line.seq, guardTime := s.line.guardTime
      onLine := s.line.onLine.map (fun x => if x.owner = .report then x else { x with owner := .orphan }) }
  ∧ t.peers = State.reset.peers
  ∧ t.req = { State.reset.req with switches := t.req.switches }
  ∧ (∀ i : Fin 8, (t.req.switches[i]).raw = (s.req.switches[i]).raw ∧ (t.req.switches[i]).settle = none)
  ∧ t.sp = State.reset.sp ∧ t.drive = State.reset.drive ∧ t.water = State.reset.water
  ∧ t.faults = State.reset.faults
  ∧ ∀ n, t.arm n = ⟨if populated (armChannel n) t then .held else .stowed, false, none, none, 0, 0, 0⟩

/-! ### Fresh tags (R134) -/

/-- The tag is the first one from the counter on, modulo 16, that is not held (R134). -/
def IsFreshTag (held : List Nibble) (counter tag : Nibble) : Prop :=
  tag ∉ held ∧ ∀ i : Nat, i < (tag - counter).toNat → counter + BitVec.ofNat 4 i ∈ held

/-! ### The inherited causes (R33) -/

/-- The kinds of the inherited causes. -/
def inheritedKinds : List FaultKind := [.travelLost, .engineLost, .driveConflict]

/-- From s to t the peer table has tested its three causes on the table of t, in RUNNING and SILENCED, and handed them
over; no other kind changes (R33, R157, R158). -/
def InheritedTested (s t : State) : Prop :=
  (s.start.station = .running ∨ s.start.station = .silenced →
    (active .travelLost t = true ↔ travelSource t ≠ .own ∧ (viewTravel t).quality = .bad)
    ∧ (active .engineLost t = true ↔ travelSource t ≠ .own ∧ (viewEngine t).quality = .bad)
    ∧ active .driveConflict t = driveConflict t
    ∧ ∀ k ∈ inheritedKinds, sticky k t = (sticky k s || active k t))
  ∧ (s.start.station ≠ .running → s.start.station ≠ .silenced → t.faults = s.faults)
  ∧ ∀ k, k ∉ inheritedKinds → active k t = active k s ∧ sticky k t = sticky k s

/-! ### The law of the arms (R80, R85, R87, R77, R84) -/

/-- The mode is SWEEP_DRY or SWEEP_WET. -/
def sweeping (s : State) : Prop := s.start.mode = .sweepDry ∨ s.start.mode = .sweepWet

/-- One arm keeps the law: no lowering or working outside RUNNING and the sweep modes (R80); brush command and
ramp output 0 outside WORKING (R87); HELD while its fault is sticky (R85); timers only where R77 and R84 run
them; an unpopulated arm stands still (R68). -/
def armLaw (n : ArmId) (s : State) : Prop :=
  ((s.arm n).state = .lowering ∨ (s.arm n).state = .working → s.start.station = .running ∧ sweeping s)
  ∧ ((s.arm n).state ≠ .working → (s.arm n).command = 0 ∧ (s.sp.brush n).ramp.out = 0)
  ∧ (sticky (armFault n) s = true → (s.arm n).state = .held)
  ∧ ((s.arm n).moveTimer.isSome = true → (s.arm n).state = .lowering ∨ (s.arm n).state = .lifting)
  ∧ ((s.arm n).blindTimer.isSome = true → (s.arm n).state = .working)
  ∧ (populated (armChannel n) s = false → (s.arm n).state = .stowed ∨ (s.arm n).state = .held)
  ∧ (s.start.station = .loading →
      sticky (armFault n) s = false ∧ (populated (armChannel n) s = true → (s.arm n).state = .held))

/-- RESET_N is low in LOADING only. -/
def resetLaw (s : State) : Prop := s.pins.resetN = false → s.start.station = .loading

/-- The law of the arms. -/
def ArmsLaw (s : State) : Prop := resetLaw s ∧ ∀ n, armLaw n s

/-! ### The law of the water channel (R104) -/

/-- No pump and no valve outside PRIMING and SPRAYING; an active channel is populated and enabled, in RUNNING and
SWEEP_WET (R90, R94, R96, R104). -/
def WaterLaw (s : State) : Prop :=
  resetLaw s
  ∧ (s.water.state ≠ .priming → s.water.state ≠ .spraying → s.water.pump = 0 ∧ s.water.valves = 0)
  ∧ (s.water.state.active = true →
      populated .wtr s = true ∧ s.start.station = .running ∧ s.start.mode = .sweepWet
        ∧ s.water.enable = true)
  ∧ (s.water.state ≠ .priming → s.water.state ≠ .spraying → s.sp.wtr.ramp.out = 0)
  ∧ s.water.dryCount ≤ 2

/-! ### The law of the drive (R63) -/

/-- The pump command and the ramp output have the sign of the direction last entered; both are 0 while the brake
is applied, and the park and dwell timers run only at ramp output 0 and never in FORWARD or REVERSE (R50, R51, R52,
R53, R55, R63). -/
def DriveLaw (s : State) : Prop :=
  (0 < s.drive.command → 0 < s.sp.drv.ramp.out)
  ∧ (s.drive.command < 0 → s.sp.drv.ramp.out < 0)
  ∧ (0 < s.sp.drv.ramp.out → s.drive.lastDir = some .forward)
  ∧ (s.sp.drv.ramp.out < 0 → s.drive.lastDir = some .reverse)
  ∧ (s.drive.brakeApplied = true → s.sp.drv.ramp.out = 0)
  ∧ (s.drive.parkTimer.isSome = true → s.sp.drv.ramp.out = 0)
  ∧ (s.drive.dwellTimer.isSome = true → s.sp.drv.ramp.out = 0)
  ∧ (s.drive.state = .forward → s.drive.lastDir = some .forward ∧ s.drive.brakeApplied = false
      ∧ s.drive.parkTimer = none ∧ s.drive.dwellTimer = none)
  ∧ (s.drive.state = .reverse → s.drive.lastDir = some .reverse ∧ s.drive.brakeApplied = false
      ∧ s.drive.parkTimer = none ∧ s.drive.dwellTimer = none)
  ∧ (s.drive.state = .parked → s.drive.brakeApplied = true)

/-! ### The law of the pending table (R124) -/

/-- Two entries under one requester and tag. -/
def PendingEntry.sameKey (a b : PendingEntry) : Prop := a.requester = b.requester ∧ a.tag = b.tag

/-- At most 4 entries, no two under one requester and tag, no resource claimed twice, and no claim outside RUNNING
(R124). -/
def PendingLaw (s : State) : Prop :=
  s.req.table.length ≤ 4
  ∧ s.req.table.Pairwise (fun a b => ¬ a.sameKey b)
  ∧ s.req.table.Pairwise (fun a b => a.claims.overlap b.claims = false)
  ∧ ∀ e ∈ s.req.table, e.state ≠ .running → e.claims = ⟨false, false, false⟩

/-! ### The law of the outgoing table (R134, R135, R149) -/

/-- The tags of the entries whose frame waits. -/
def queuedTags (s : State) : List Nibble :=
  (s.req.outgoing.filter (fun e => e.state = .queued)).map OutgoingEntry.tag

/-- At most 4 entries with distinct tags; each queued frame belongs to a QUEUED entry, at most one frame to each
(R134, R135). -/
def OutgoingLaw (s : State) : Prop :=
  s.req.outgoing.length ≤ 4
  ∧ (s.req.outgoing.map OutgoingEntry.tag).Nodup
  ∧ (s.line.requests.map QueuedRequest.tag).Nodup
  ∧ ∀ q ∈ s.line.requests, q.tag ∈ queuedTags s

/-! ### The law of the line port and the peer table (R23, R141, R148, R152) -/

/-- Every counter is within 0 to 255. -/
def countersHeld (c : Counters) : Prop :=
  c.checkErrors ≤ 255 ∧ c.missedFrames ≤ 255 ∧ c.duplicateReports ≤ 255 ∧ c.reportGaps ≤ 255
    ∧ c.orphanedOps ≤ 255 ∧ c.unmatchedAnswers ≤ 255

/-- The receive and answer queues hold at most 4, the counters stay within 255, and no frame or entry stands under
the station's own number; in LOADING both are empty (R22, R23, R141, R148, R152). -/
def LineLaw (s : State) : Prop :=
  resetLaw s
  ∧ s.line.rx.length ≤ 4 ∧ s.line.answers.length ≤ 4 ∧ countersHeld s.line.counters
  ∧ (∀ f ∈ s.line.rx, f.src ≠ s.start.number)
  ∧ (∀ n : Fin 15, n.val = s.start.number.toNat → s.peers[n] = none)
  ∧ (s.start.station = .loading → s.line.rx = [] ∧ s.peers = peersAbsent)

/-! ### Ranges of an accepted image (R171) -/

/-- A curve within the ranges of R4. -/
def curveInRange (c : Curve) : Prop :=
  -32768 ≤ c.x0 ∧ c.x0 ≤ 32767 ∧ c.shift ≤ 11 ∧ 2 ≤ c.points.length ∧ c.points.length ≤ 17
    ∧ ∀ y ∈ c.points, y ≤ 4095

/-- A pair of times within 0 to 6000 periods (R2). -/
def timesInRange (t : RampTimes) : Prop := t.rise ≤ 6000 ∧ t.fall ≤ 6000

/-- A derating pair within 0 to 4000 rpm (R2). -/
def pairInRange (p : DeratePair) : Prop := p.d0 ≤ 4000 ∧ p.d1 ≤ 4000

/-- A bank within the ranges of R2. -/
def bankInRange (k : Bank) : Prop :=
  curveInRange k.pedal ∧ curveInRange k.feed ∧ curveInRange k.brush ∧ curveInRange k.water
    ∧ timesInRange k.drvTimes ∧ timesInRange k.brTimes ∧ timesInRange k.wtrTimes
    ∧ pairInRange k.drvPair ∧ pairInRange k.brPair ∧ pairInRange k.wtrPair
    ∧ k.blindShare ≤ 256 ∧ k.brRule.compare ≤ 65535 ∧ k.wtrRule.compare ≤ 65535
    ∧ k.waterTrim ≤ 4095 ∧ k.primeCommand ≤ 4095 ∧ k.pattern.length = 16 ∧ k.blindCommand ≤ 4095

/-- A number within two ends. -/
def between (lo hi n : Nat) : Prop := lo ≤ n ∧ n ≤ hi

/-- The line times and scales within their ranges (R19, R20, R44, R127, R133, R135, R150; 00_scope.md). -/
def lineInRange (p : LineParams) : Prop :=
  between 2 20 p.period ∧ between 100 2000 p.discardTime ∧ between 20 500 p.repeatInterval
    ∧ between 1 15 p.repeatLimit ∧ between 1000 3500 p.setSpeed ∧ between 100 600 p.fullScale
    ∧ between 50 2000 p.ppm ∧ between 1 255 p.ppr

/-- The drive settings within the table of 3.1. -/
def driveInRange (p : DriveParams) : Prop :=
  p.pedalDeadband ≤ 4095 ∧ p.transportCap ≤ 1500 ∧ p.sweepCap ≤ 1500 ∧ p.sweepCapMin ≤ 1500
    ∧ p.capSlope ≤ 255 ∧ p.reverseCap ≤ 1500 ∧ p.stopSpeed ≤ 100
    ∧ p.parkDelay ≤ 5000 ∧ p.parkDelay % 10 = 0 ∧ between 100 2000 p.dwellTime ∧ p.dwellTime % 10 = 0
    ∧ p.faultRamp ≤ 6000 ∧ p.trimDeadband ≤ 255 ∧ p.trimLimit ≤ 512 ∧ p.cutPressure ≤ 500
    ∧ p.cutHysteresis ≤ 100 ∧ p.cutStep ≤ 4095

/-- The arm settings within the table of 4.1. -/
def armsInRange (p : ArmParams) : Prop :=
  between 82 4013 p.stow1 ∧ between 82 4013 p.work1 ∧ between 82 4013 p.stow2 ∧ between 82 4013 p.work2
    ∧ between 1000 15000 p.moveTime ∧ p.moveTime % 100 = 0 ∧ p.blindTime ≤ 10000
    ∧ p.blindTime % 100 = 0 ∧ p.reverseLift ≤ 255 ∧ p.resume ≤ 255 ∧ p.lowerSpeed ≤ 1500

/-- The water settings within the table of 5.1. -/
def waterInRange (p : WaterParams) : Prop :=
  between 82 4013 p.empty ∧ between 82 4013 p.primePressure ∧ between 82 4013 p.lossThreshold
    ∧ between 1000 20000 p.primeTime ∧ p.primeTime % 100 = 0 ∧ between 500 5000 p.lossTime
    ∧ p.lossTime % 100 = 0 ∧ between 5000 120000 p.dryWaitTime ∧ p.dryWaitTime % 1000 = 0
    ∧ p.sprayMin ≤ 1500

/-- No used switch-map slot names station 15 or the station itself (R133). -/
def slotsInRange (number : Nibble) (slots : List (Option SwitchSlot)) : Prop :=
  slots.length = 32 ∧ ∀ x, some x ∈ slots → x.dest ≠ 15 ∧ x.dest ≠ number

/-- Every parameter of an image is within the range its chapter gives (R171). -/
def imageInRange (number : Nibble) (b : StartBlock) : Prop :=
  lineInRange b.line ∧ driveInRange b.drive ∧ armsInRange b.arms ∧ waterInRange b.water
    ∧ bankInRange b.bank0 ∧ bankInRange b.bank1 ∧ bankInRange b.bank2 ∧ bankInRange b.bank3
    ∧ slotsInRange number b.switchMap

/-! ### The ramp over many periods (R14) -/

/-- The sum of the advances of n uninterrupted moving periods (R14). -/
def advanceSum : Nat → Ramp → Nat
  | 0, _ => 0
  | n + 1, r => r.advance.1 + advanceSum n { r with err := r.advance.2 }

/-- How many of n uninterrupted moving periods advance by q + 1 (R14). -/
def longAdvances : Nat → Ramp → Nat
  | 0, _ => 0
  | n + 1, r => (if r.advance.1 = r.q + 1 then 1 else 0) + longAdvances n { r with err := r.advance.2 }

/-! ### Reports that can be sent -/

/-- The values a report of this part can carry within its fields (R22, R177). -/
def reportFits (v : ReportValues) : Prop :=
  between 2 20 v.period ∧ -1500 ≤ v.travel ∧ v.travel ≤ 1500 ∧ v.engine ≤ 4000 ∧ v.pressure ≤ 500

end Sys2Proof.Machine
end

