-- ==== Sys2Proof/Certificates/Slice0/Obligations.lean ====
section
/-! DEFINITION. The statements for the provers. -/

open Sys2Proof Sys2Proof.Machine

/-! ### The queue of commands -/

/-- The step of a block: the command at the front is run on the queue's rest. -/
def Obligations.StepRunsTheFrontCommand : Prop :=
  ∀ (c : Instr) (rest : List Instr) (s : State), s.pending = c :: rest →
    step s = exec c (s.withPending rest)

/-- The step on an empty queue is the model's choice (log 1): one millisecond on every running timer and every age, the
expiries now due join the queue, and nothing else changes. An expiry joins where its timer runs and stands at its time or
above (log 2), and no other one does. -/
def Obligations.EmptyQueuePassesOneMillisecond : Prop :=
  ∀ s : State, s.pending = [] →
    ∃ t, step s = .next t
      ∧ KeepsAllBut [.pending, .start, .line, .peers, .req, .drive, .arm1, .arm2, .water] s t
      ∧ t.pending = dueExpiries t
      ∧ t.start = { s.start with joinTimer := s.start.joinTimer.map (· + 1) }
      ∧ (∀ n, t.arm n = { s.arm n with
          moveTimer := (s.arm n).moveTimer.map (· + 1), blindTimer := (s.arm n).blindTimer.map (· + 1) })
      ∧ (∀ n : Fin 15, t.peers[n] = s.peers[n].map (fun e => { e with age := min 65535 (e.age + 1) }))
      ∧ t.drive = { s.drive with
          parkTimer := s.drive.parkTimer.map (· + 1)
          dwellTimer := s.drive.dwellTimer.map (· + 1)
          speedSilence := if driveMeasures s then s.drive.speedSilence + 1 else s.drive.speedSilence
          engineSilence := if driveMeasures s = true ∧ s.drive.state ≠ .parked then
            s.drive.engineSilence + 1 else s.drive.engineSilence
          meas := { s.drive.meas with bucketTimer := s.drive.meas.bucketTimer.map (· + 1) } }
      ∧ t.water = { s.water with
          primeTimer := s.water.primeTimer.map (· + 1), lossTimer := s.water.lossTimer.map (· + 1)
          dryWaitTimer := s.water.dryWaitTimer.map (· + 1)
          patternTimer := s.water.patternTimer.map (· + 1) }
      ∧ t.req = { s.req with
          table := s.req.table.map (fun e => { e with time := e.time + 1 })
          outgoing := s.req.outgoing.map (fun e => { e with timer := e.timer.map (· + 1) })
          switches := s.req.switches.map (fun d => { d with settle := d.settle.map (· + 1) }) }
      ∧ t.line = { s.line with
          reportTimer := s.line.reportTimer.map (· + 1)
          guardTime := if s.line.onLine.isSome then s.line.guardTime + 1 else s.line.guardTime }
      ∧ (let gone := fun (timer : Timer) (limit : Nat) => ∃ ms, timer = some ms ∧ limit ≤ ms
         let within := fun (timer : Timer) (limit : StartBlock → Nat) =>
           ∃ b, s.start.image = some b ∧ gone timer (limit b)
         let joins := fun c : Instr => c ∈ t.pending
         (joins .joinTimerExpiry ↔ s.start.station = .listening
            ∧ within t.start.joinTimer (fun b => 5 * b.line.period * 10))
         ∧ (joins .parkTimerExpiry ↔ within t.drive.parkTimer (fun b => b.drive.parkDelay))
         ∧ (joins .dwellTimerExpiry ↔ within t.drive.dwellTimer (fun b => b.drive.dwellTime))
         ∧ (joins .speedSilenceExpiry ↔ driveMeasures s = true ∧ 500 ≤ t.drive.speedSilence
            ∧ active .speedSensor s = false)
         ∧ (joins .engineSilenceExpiry ↔ driveMeasures s = true ∧ 500 ≤ t.drive.engineSilence
            ∧ active .engineSensor s = false)
         ∧ (joins .bucketClose ↔ driveMeasures s = true ∧ gone t.drive.meas.bucketTimer 20)
         ∧ (∀ n, (joins (.moveTimerExpiry n) ↔ within (t.arm n).moveTimer (fun b => b.arms.moveTime))
            ∧ (joins (.blindTimerExpiry n) ↔ within (t.arm n).blindTimer (fun b => b.arms.blindTime)))
         ∧ (joins .primeTimerExpiry ↔ within t.water.primeTimer (fun b => b.water.primeTime))
         ∧ (joins .lossTimerExpiry ↔ within t.water.lossTimer (fun b => b.water.lossTime))
         ∧ (joins .dryWaitExpiry ↔ within t.water.dryWaitTimer (fun b => b.water.dryWaitTime))
         ∧ (joins .patternTimerExpiry ↔ gone t.water.patternTimer 100)
         ∧ (∀ n : Fin 15, (joins (.lostExpiry n) ↔ ∃ e, t.peers[n] = some e ∧ e.status ≠ .lost
              ∧ 50 * e.vals.period ≤ e.age)
            ∧ (joins (.staleExpiry n) ↔ ∃ e, t.peers[n] = some e ∧ e.status = .fresh
              ∧ 20 * e.vals.period ≤ e.age ∧ e.age < 50 * e.vals.period))
         ∧ (∀ requester tag, joins (.entryDiscard requester tag) ↔ ∃ b e, s.start.image = some b
            ∧ e ∈ t.req.table ∧ e.requester = requester ∧ e.tag = tag ∧ b.line.discardTime ≤ e.time)
         ∧ (∀ tag, joins (.repeatTimerExpiry tag) ↔ ∃ e ∈ t.req.outgoing, e.tag = tag
            ∧ within e.timer (fun b => b.line.repeatInterval))
         ∧ (∀ i : Fin 8, joins (.settlingTimerExpiry i) ↔ gone (t.req.switches[i]).settle 20)
         ∧ (joins .reportTimerExpiry ↔ within t.line.reportTimer (fun b => 10 * b.line.period)
            ∨ (s.start.image = none ∧ gone t.line.reportTimer 100))
         ∧ (joins .babbleGuardCutoff ↔ t.line.onLine.isSome = true ∧ t.line.guardArmed = true
            ∧ 2 ≤ t.line.guardTime))

/-- No command ends the machine: every failure of the manual is a fault kind the part goes on with. -/
def Obligations.EveryCommandCompletes : Prop :=
  ∀ (c : Instr) (s : State), ∃ t, exec c s = .next t ∧ t.pending = s.pending

/-! ### Reset, start and the join check -/

/-- The gathered cold-reset values of 10.5. That both arms read HELD before the release has sampled the role is the model's
choice (log 27). -/
def Obligations.ResetHoldsTheColdValues : Prop :=
  State.reset.pending = [] ∧ State.reset.start.station = .loading ∧ State.reset.start.mode = .transport
    ∧ State.reset.start.image = none
    ∧ State.reset.line.rx = [] ∧ State.reset.line.alertSlot = none ∧ State.reset.line.answers = []
    ∧ State.reset.line.requests = [] ∧ State.reset.line.reportDue = false
    ∧ State.reset.line.reportTimer = none ∧ State.reset.line.seq = 0
    ∧ State.reset.line.counters = ⟨0, 0, 0, 0, 0, 0⟩ ∧ State.reset.line.guardArmed = true
    ∧ (∀ n : Fin 15, State.reset.peers[n] = none)
    ∧ State.reset.req.table = [] ∧ State.reset.req.outgoing = [] ∧ State.reset.req.nextTag = 0
    ∧ (∀ r ∈ [State.reset.sp.drv.ramp, State.reset.sp.br1.ramp, State.reset.sp.br2.ramp,
        State.reset.sp.wtr.ramp], r.out = 0 ∧ r.err = 0 ∧ r.phase = .atTarget ∧ r.setUp = false)
    ∧ State.reset.sp.drv.k = 256 ∧ State.reset.sp.br1.k = 256 ∧ State.reset.sp.br2.k = 256
    ∧ State.reset.sp.wtr.k = 256
    ∧ (∀ p ∈ [State.reset.sp.drv.pedalClamp, State.reset.sp.drv.feedClamp, State.reset.sp.br1.clamp,
        State.reset.sp.br2.clamp, State.reset.sp.wtr.clamp], p = ⟨false, false⟩)
    ∧ State.reset.sp.br1.sat = false ∧ State.reset.sp.br2.sat = false ∧ State.reset.sp.wtr.sat = false
    ∧ State.reset.drive.state = .parked ∧ State.reset.drive.lastDir = none
    ∧ State.reset.drive.brakeApplied = true ∧ State.reset.drive.trim = 0
    ∧ State.reset.drive.cut = .none ∧ State.reset.drive.command = 0
    ∧ State.reset.drive.parkTimer = none ∧ State.reset.drive.dwellTimer = none
    ∧ State.reset.drive.speedSilence = 0 ∧ State.reset.drive.engineSilence = 0
    ∧ State.reset.drive.pressure = 0 ∧ State.reset.drive.meas.v = 0 ∧ State.reset.drive.meas.nE = 0
    ∧ State.reset.drive.meas.travel = ⟨0, 0, 0, 0, 0⟩ ∧ State.reset.drive.meas.engine = ⟨0, 0, 0, 0, 0⟩
    ∧ State.reset.drive.meas.closes = 0
    ∧ (∀ n, (State.reset.arm n).state = .held ∧ (State.reset.arm n).resume = false
        ∧ (State.reset.arm n).moveTimer = none ∧ (State.reset.arm n).blindTimer = none
        ∧ (State.reset.arm n).position = 0 ∧ (State.reset.arm n).trim = 0)
    ∧ State.reset.water.state = .off ∧ State.reset.water.enable = false
    ∧ State.reset.water.dryCount = 0 ∧ State.reset.water.slot = 0
    ∧ State.reset.faults.active = 0 ∧ State.reset.faults.sticky = 0
    ∧ faultAsserted State.reset = false

/-- COLD_RESET puts every block at its cold-reset value and every output off, arm valves and brush duties included;
RESET_RELEASE with RESET_N low samples the straps and starts the read of the start block: chip select, and the command 03
with the address 0000 on SPI_MOSI, most significant bit first, one clock pulse for each bit (R170). The model's choices here
are: what a release does while RESET_N is high (log 5), the pin levels and the start unit's values before the straps are
sampled (log 6), and the SPI port at reset (log 17). -/
def Obligations.ColdResetAndItsRelease : Prop :=
  (∀ s : State, ∃ t, exec .coldReset s = .next t
    ∧ t.start = State.reset.start ∧ t.line = State.reset.line ∧ t.peers = State.reset.peers
    ∧ t.req.table = [] ∧ t.req.outgoing = [] ∧ t.req.nextTag = 0
    ∧ (∀ i : Fin 8, (t.req.switches[i]).settle = none)
    ∧ t.sp = State.reset.sp ∧ t.drive = State.reset.drive ∧ t.arm1 = State.reset.arm1
    ∧ t.arm2 = State.reset.arm2 ∧ t.water = State.reset.water ∧ t.faults = State.reset.faults
    ∧ t.pins = { s.pins with resetN := false } ∧ t.pending = s.pending ∧ t.free = s.free
    ∧ (outputs t).pumpFwd = 0 ∧ (outputs t).pumpRev = 0 ∧ (outputs t).brakeRel = false
    ∧ (outputs t).arm1 = ⟨false, false, false, 0⟩ ∧ (outputs t).arm2 = ⟨false, false, false, 0⟩
    ∧ (outputs t).waterPump = 0 ∧ (outputs t).spray = 0 ∧ (outputs t).faultLow = false
    ∧ (outputs t).spiSelected = false ∧ (outputs t).spiWave = [])
  ∧ (∀ (straps : Straps) (s : State), s.pins.resetN = false →
      ∃ t, exec (.resetRelease straps) s = .next t
        ∧ KeepsAllBut [.pins, .start, .arm1, .arm2] s t
        ∧ t.pins = { s.pins with resetN := true }
        ∧ t.start = { s.start with
            station := .loading, number := straps.stn, role := straps.role
            spi := ⟨true, [0x03#8, 0x00#8, 0x00#8], 0⟩ }
        ∧ (outputs t).spiSelected = true
        ∧ (outputs t).spiWave = ([false, false, false, false, false, false, true, true]
            ++ List.replicate 16 false).flatMap (fun b => [⟨false, some b⟩, ⟨true, some b⟩, ⟨false, some b⟩])
        ∧ ∀ n, (t.arm n).state = (if populated (armChannel n) t then .held else .stowed)
            ∧ (t.arm n).resume = false ∧ (t.arm n).moveTimer = none ∧ (t.arm n).command = 0)
  ∧ (∀ (straps : Straps) (s : State), s.pins.resetN = true →
      exec (.resetRelease straps) s = .next s)

/-- The load takes bytes on SPI_MISO, one level at each rising edge of SPI_SCK, most significant bit first: the header's
four, and the whole block where the header passes; then SPI_CS_N rises (R170). The checks of R171 on the words that they
spell, high byte first (R179), decide the load: the image is accepted and the station listens, with the first arm positions
taken (R70), or the start fails with CONFIG_BAD. The model's choices: a level the memory does not give reads high, and no
level of SPI_MOSI is stated under the bytes taken (log 17), the first position is recorded and a BAD one handed over (log
25), ARM1 hands over before ARM2 (log 35), and a failed start takes no level of a switch (log 37). -/
def Obligations.LoadCompletionChecksTheBlock : Prop :=
  ∀ (miso : List Bool) (arm1 arm2 : Raw) (levels : BitVec 8) (s : State),
    s.start.station = .loading → s.pins.resetN = true →
    let word := fun i : Nat => numOf ((List.range 16).map (fun k => miso.getD (16 * i + k) true))
    let header := word 0 = 0x0C61 ∧ 1076 ≤ word 1 ∧ word 1 ≤ 2048 ∧ word 1 % 2 = 0
    let good := s.start.number ≠ 15 ∧ header
      ∧ ((List.range (word 1 / 2)).map word).sum % 65536 = 0
    ∃ t, exec (.loadCompletion miso arm1 arm2 levels) s = .next t
      ∧ t.start.spi.selected = false ∧ t.start.spi.taken = (if header then word 1 else 4)
      ∧ (s.start.spi.taken = 0 → (outputs t).spiWave = (outputs s).spiWave
          ++ (List.replicate (8 * t.start.spi.taken) [⟨false, none⟩, ⟨true, none⟩, ⟨false, none⟩]).flatten)
      ∧ (outputs t).spiSelected = false ∧ t.start.number = s.start.number ∧ t.start.role = s.start.role
      ∧ t.start.mode = s.start.mode
      ∧ (good → t.start.station = .listening ∧ t.start.joinTimer = some 0
          ∧ t.start.image = some (imageOf s.start.number miso)
          ∧ t.drive.meas.bucketTimer = some 0
          ∧ (∀ i : Fin 8, t.req.switches[i] = ⟨levels.getLsbD i.val, levels.getLsbD i.val, none⟩)
          ∧ ∀ n : ArmId,
            let raw := match n with
              | .one => arm1
              | .two => arm2
            (populated (armChannel n) s = false → t.arm n = s.arm n)
            ∧ (populated (armChannel n) s = true → (t.arm n).position = raw
              ∧ (inSpan raw = true → stowPosition (imageOf s.start.number miso) n ≤ raw.toNat →
                  (t.arm n).state = .stowed)
              ∧ (inSpan raw = true → raw.toNat < stowPosition (imageOf s.start.number miso) n →
                  (t.arm n).state = (s.arm n).state)
              ∧ (inSpan raw = false → (t.arm n).state = (s.arm n).state
                  ∧ active (armFault n) t = true ∧ sticky (armFault n) t = true
                  ∧ (sticky (armFault n) s = false → (n = .two ∨ inSpan arm2 = true) →
                      t.line.alertSlot = some (armFault n)))))
      ∧ (¬ good → t.start.station = .failedStart ∧ t.start.image = none
          ∧ t.line.reportTimer = some 0 ∧ active .configBad t = true ∧ sticky .configBad t = true
          ∧ faultAsserted t = true
          ∧ (sticky .configBad s = false → t.line.alertSlot = some .configBad)
          ∧ (s.start.number = 15 → t.line.heldOff = true)
          ∧ KeepsAllBut [.start, .line, .faults] s t)

/-- Every parameter of an accepted block lies within the range its chapter gives (R171) and stands where the layout of R179
puts it: the words 2 to 40, the four banks of 100 words from word 41 on, and the switch map from word 441 on.
That the fault ramp time (word 19) and the rise and fall times of a bank (its words 76 to 81) stand there in control periods,
the unit in which the machine takes these fields, is the model's choice (log 40). -/
def Obligations.AcceptedParametersAreInRange : Prop :=
  ∀ (number : Nibble) (miso : List Bool), loadFails number miso = false →
    let image := imageOf number miso
    let spelled := fun start width : Nat => numOf ((List.range width).map (fun k => miso.getD (start + k) true))
    let word : Nat → Word := fun i => BitVec.ofNat 16 (spelled (16 * i) 16)
    let byte : Nat → Byte := fun i => BitVec.ofNat 8 (spelled (8 * i) 8)
    let w := fun i : Nat => (word i).toNat
    let held := fun lo hi i : Nat => max lo (min hi (w i))
    let stepped := fun step lo hi i : Nat => held lo hi i / step * step
    imageInRange number image
    ∧ image.line = ⟨held 2 20 2, held 100 2000 3, held 20 500 4, held 1 15 5, held 1000 3500 6,
        held 100 600 7, held 50 2000 8, held 1 255 9⟩
    ∧ image.drive = ⟨held 0 4095 10, held 0 1500 11, held 0 1500 12, held 0 1500 13, held 0 255 14,
        held 0 1500 15, held 0 100 16, stepped 10 0 5000 17, stepped 10 100 2000 18, held 0 6000 19,
        held 0 255 20, held 0 512 21, held 0 500 22, held 0 100 23, held 0 4095 24⟩
    ∧ image.arms = ⟨held 82 4013 25, held 82 4013 26, held 82 4013 27, held 82 4013 28,
        stepped 100 1000 15000 29, stepped 100 0 10000 30, held 0 255 31, held 0 255 32, held 0 1500 33⟩
    ∧ image.water = ⟨held 82 4013 34, held 82 4013 35, held 82 4013 36, stepped 100 1000 20000 37,
        stepped 100 500 5000 38, 1000 * held 5 120 39, held 0 1500 40⟩
    ∧ (∀ (m : Mode) (c : Nat), (m, c) ∈ [(Mode.transport, 41), (.sweepDry, 141), (.sweepWet, 241),
          (.service, 341)] →
        let k := bankOfMode image m
        let times := fun i : Nat => (⟨held 0 6000 i, held 0 6000 (i + 1)⟩ : RampTimes)
        let pair := fun i : Nat => (⟨held 0 4000 i, held 0 4000 (i + 1)⟩ : DeratePair)
        (∀ x ∈ [(k.pedal, c), (k.feed, c + 19), (k.brush, c + 38), (k.water, c + 57)],
          x.1.x0 = (word x.2).toInt ∧ x.1.shift = min 11 (w (x.2 + 1) / 16 % 16)
            ∧ x.1.points = (List.range (w (x.2 + 1) % 16 + 2)).map (fun i => w (x.2 + 2 + i) % 4096))
        ∧ k.drvTimes = times (c + 76) ∧ k.brTimes = times (c + 78) ∧ k.wtrTimes = times (c + 80)
        ∧ k.drvPair = pair (c + 82) ∧ k.brPair = pair (c + 84) ∧ k.wtrPair = pair (c + 86)
        ∧ k.blindShare = held 0 256 (c + 88)
        ∧ (∀ x ∈ [(k.brRule, c + 89), (k.wtrRule, c + 91)],
          x.1.quantity = [TestQuantity.travelAbs, .engineDroop, .tankLevel, .loopPressure, .armPosition,
              .brushSum].getD (w x.2 / 4096 % 8) .brushSum
            ∧ x.1.code = [Condition.always, .gt, .eq, .lt, .never, .ge, .ne, .le].getD
                (w x.2 / 256 % 8) .always
            ∧ x.1.fg = [Mix.a, .b, .min, .max, .sum, .diff, .avg].getD (w x.2 / 16 % 16) .zero
            ∧ x.1.bg = [Mix.a, .b, .min, .max, .sum, .diff, .avg].getD (w x.2 % 16) .zero
            ∧ x.1.compare = w (x.2 + 1))
        ∧ k.waterTrim = held 0 4095 (c + 93) ∧ k.primeCommand = held 0 4095 (c + 94)
        ∧ (∀ i : Fin 16, (k.pattern.getD i.val 0).toNat
            = w (c + 95 + i.val / 4) / 16 ^ (3 - i.val % 4) % 16)
        ∧ k.blindCommand = held 0 4095 (c + 99))
    ∧ ∀ k : Fin 32,
        let dest := BitVec.ofNat 4 (w (441 + 3 * k.val) / 256)
        let used := 32768 ≤ w (441 + 3 * k.val) ∧ dest ≠ 15 ∧ dest ≠ number
        (used → image.switchMap.getD k.val none = some ⟨dest, BitVec.ofNat 4 (w (441 + 3 * k.val)),
          [byte (884 + 6 * k.val), byte (885 + 6 * k.val), byte (886 + 6 * k.val), byte (887 + 6 * k.val)]⟩)
        ∧ (¬ used → image.switchMap.getD k.val none = none)

/-- The join timer's expiry enters RUNNING with a report due and the report timer started (R173); the report timer's expiry
makes a report due in RUNNING and FAILED_START and runs on, with the period P × 10 ms, and 100 ms without an image (R150). -/
def Obligations.JoinAndReportTimersExpire : Prop :=
  (∀ (s : State) (b : StartBlock) (n : Nat), s.start.station = .listening → s.start.image = some b →
      s.start.joinTimer = some n → 5 * b.line.period * 10 ≤ n →
      ∃ t, exec .joinTimerExpiry s = .next t
        ∧ KeepsAllBut [.start, .line, .faults] s t
        ∧ t.start = { s.start with station := .running, joinTimer := none }
        ∧ t.line = { s.line with reportTimer := some 0, reportDue := true }
        ∧ active .driveConflict t = driveConflict t
        ∧ (active .travelLost t = true ↔ travelSource t ≠ .own ∧ (viewTravel t).quality = .bad)
        ∧ (active .engineLost t = true ↔ travelSource t ≠ .own ∧ (viewEngine t).quality = .bad))
  ∧ (∀ (s : State) (ms period : Nat), s.line.reportTimer = some ms → period ≤ ms →
      ((∃ b, s.start.image = some b ∧ period = 10 * b.line.period)
        ∨ (s.start.image = none ∧ period = 100)) →
      (s.start.station = .running ∨ s.start.station = .failedStart →
        exec .reportTimerExpiry s = .next (s.withLine { s.line with
          reportTimer := some (ms - period), reportDue := true }))
      ∧ (s.start.station ≠ .running → s.start.station ≠ .failedStart →
        exec .reportTimerExpiry s = .next (s.withLine { s.line with
          reportTimer := some (ms - period) })))

/-! ### Setpoint arithmetic -/

/-- R5: the three cases of a lookup, the side of the straight line it falls on, and the bounds inside the span. -/
def Obligations.CurveLookupCases : Prop :=
  ∀ (c : Curve) (m x : Nat), curveInRange c → c.points.length = m + 1 →
    let y := fun i => c.points.getD i 0
    let i := ((x : Int) - c.x0).toNat / 2 ^ c.shift
    let f := ((x : Int) - c.x0).toNat % 2 ^ c.shift
    ((x : Int) < c.x0 → curveLookup c x = (y 0, .low))
    ∧ (c.x0 ≤ (x : Int) → m ≤ i → curveLookup c x = (y m, .high))
    ∧ (c.x0 ≤ (x : Int) → i < m →
        (curveLookup c x).2 = .inside
        ∧ ((curveLookup c x).1 : Int)
            = y i + Int.tdiv (((y (i + 1) : Int) - y i) * f) (2 ^ c.shift)
        ∧ f < 2 ^ c.shift
        ∧ (y i ≤ y (i + 1) → ((curveLookup c x).1 : Int) * 2 ^ c.shift
            ≤ y i * 2 ^ c.shift + ((y (i + 1) : Int) - y i) * f)
        ∧ (y (i + 1) ≤ y i → y i * 2 ^ c.shift + ((y (i + 1) : Int) - y i) * f
            ≤ ((curveLookup c x).1 : Int) * 2 ^ c.shift)
        ∧ min (y i) (y (i + 1)) ≤ (curveLookup c x).1
        ∧ (curveLookup c x).1 ≤ max (y i) (y (i + 1)))
    ∧ (curveLookup c x).1 ≤ 4095
    ∧ ((x : Int) = c.x0 + m * 2 ^ c.shift → curveLookup c x = (y m, .high))
    ∧ (c.x0 ≤ (x : Int) → i < m → y i = y (i + 1) → (curveLookup c x).1 = y i)

/-- R9: the condition code chooses the mix; a BAD test quantity gives the background mix whatever the code, a HELD one is
compared as it stands, and equal mixes make the blend independent of it. Beside it, what each mix gives: a result
within 0 to 4095, and only SUM saturates (R10); and the six test quantities with their qualities, where `none` stands for
BAD (R8). -/
def Obligations.BlendChoosesAndMixes : Prop :=
  ((∀ q c : Nat,
      (conditionHolds .always q c = true) ∧ (conditionHolds .never q c = false)
      ∧ (conditionHolds .gt q c = true ↔ q > c) ∧ (conditionHolds .ge q c = true ↔ q ≥ c)
      ∧ (conditionHolds .eq q c = true ↔ q = c) ∧ (conditionHolds .ne q c = true ↔ q ≠ c)
      ∧ (conditionHolds .lt q c = true ↔ q < c) ∧ (conditionHolds .le q c = true ↔ q ≤ c))
    ∧ (∀ n : Nat, n < 8 → conditionOf n
        = [.always, .gt, .eq, .lt, .never, .ge, .ne, .le].getD n .always)
    ∧ (∀ (r : BlendRule) (a b q : Nat),
        (conditionHolds r.code q r.compare = true → blend r (some q) a b = applyMix r.fg a b)
        ∧ (conditionHolds r.code q r.compare = false → blend r (some q) a b = applyMix r.bg a b))
    ∧ (∀ (r : BlendRule) (a b : Nat), blend r none a b = applyMix r.bg a b)
    ∧ (∀ (r : BlendRule) (a b : Nat) (q q' : Option Nat), r.fg = r.bg → blend r q a b = blend r q' a b)
    ∧ (∀ v : Nat, readingQuantity ⟨v, .bad⟩ = none ∧ readingQuantity ⟨v, .held⟩ = some v
        ∧ readingQuantity ⟨v, .good⟩ = some v))
  ∧ (∀ a b : Nat, a ≤ 4095 → b ≤ 4095 →
      applyMix .a a b = (a, false) ∧ applyMix .b a b = (b, false)
      ∧ applyMix .min a b = (min a b, false) ∧ applyMix .max a b = (max a b, false)
      ∧ applyMix .sum a b = (if 4095 < a + b then (4095, true) else (a + b, false))
      ∧ applyMix .diff a b = (if b ≤ a then (a - b, false) else (0, false))
      ∧ applyMix .avg a b = ((a + b) / 2, false) ∧ applyMix .zero a b = (0, false)
      ∧ ∀ m : Mix, (applyMix m a b).1 ≤ 4095)
  ∧ (∀ (b : StartBlock) (s : State) (arm : Option Nat),
      let unlessBad := fun (q : Quality) (n : Nat) => if q = .bad then none else some n
      let raw := fun r : Raw => if 82 ≤ r.toNat ∧ r.toNat ≤ 4013 then some r.toNat else none
      testQuantity b s arm .travelAbs = unlessBad (viewTravel s).quality (viewTravel s).value.natAbs
      ∧ testQuantity b s arm .engineDroop
          = unlessBad (viewEngine s).quality (b.line.setSpeed - (viewEngine s).value)
      ∧ testQuantity b s arm .tankLevel = (if populated .wtr s then raw s.water.tank else none)
      ∧ testQuantity b s arm .loopPressure = unlessBad (viewPressure s).quality (viewPressure s).value
      ∧ testQuantity b s arm .armPosition = arm
      ∧ testQuantity b s arm .brushSum = unlessBad (brushSum s).quality (brushSum s).value
      ∧ waterArmPosition s = (if populated .arm1 s then raw s.arm1.position else none))

/-- A ramp period moves the output toward its effective target, never past it and never across zero, by the advance of
R14; it sets up where it is not set up, or its phase or its time is another one (R13), and a set of the output from outside
leaves it at rest and not set up (R15). -/
def Obligations.RampStepStopsAtTargetAndZero : Prop :=
  ∀ (r : Ramp) (full : Nat) (times : RampTimes) (t : Int),
    let o := r.out
    let target := effectiveTarget o t
    let o' := (r.step full times t).out
    (o ≤ target → o ≤ o' ∧ o' ≤ target) ∧ (target ≤ o → target ≤ o' ∧ o' ≤ o)
    ∧ (0 < o → 0 ≤ o') ∧ (o < 0 → o' ≤ 0)
    ∧ ((0 < o ∧ t < 0) ∨ (o < 0 ∧ 0 < t) → target = 0)
    ∧ (¬ ((0 < o ∧ t < 0) ∨ (o < 0 ∧ 0 < t)) → target = t)
    ∧ (o' = target → (r.step full times t).phase = .atTarget ∧ (r.step full times t).err = 0
        ∧ (r.step full times t).setUp = false)
    ∧ (o.natAbs < target.natAbs → times.rise = 0 → o' = target)
    ∧ (o.natAbs ≥ target.natAbs → times.fall = 0 → o' = target)
    ∧ (∀ (ph : Phase) (time : Nat), 0 < time →
        (ph = .rising ∧ o.natAbs < target.natAbs ∧ time = times.rise)
          ∨ (ph = .falling ∧ target.natAbs ≤ o.natAbs ∧ target ≠ o ∧ time = times.fall) →
        let rem : Int := full % time
        let fresh : Ramp := { r with
          err := 2 * rem - time, phase := ph, time := time, q := full / time, k1 := 2 * rem
          k2 := 2 * (rem - time), setUp := true }
        let p := if r.setUp = true ∧ r.phase = ph ∧ r.time = time then r else fresh
        let advance : Int := if 0 ≤ p.err then p.q + 1 else p.q
        o' = (if o ≤ target then min (o + advance) target else max (o - advance) target)
        ∧ (o' ≠ target → r.step full times t
            = { p with out := o', err := if 0 ≤ p.err then p.err + p.k2 else p.err + p.k1 }))
    ∧ (∀ x : Int, r.setOut x = { r with out := x, err := 0, phase := .atTarget, setUp := false })

/-- Over T uninterrupted periods of one phase under one time the advances add up to exactly F, and exactly F mod T of
them advance by q + 1. -/
def Obligations.RampCoversFullScaleInItsTime : Prop :=
  ∀ (r : Ramp) (full : Nat) (ph : Phase) (t : Nat), 0 < t →
    advanceSum t (r.setup full ph t) = full ∧ longAdvances t (r.setup full ph t) = full % t

/-- R17: the factor k by pair and droop, the pair each channel takes, and the derated command of each channel, with the
channel's state as it was. Beside it, the droop D = nS − nE, floored at 0 and BAD (`none`) with nE (R16), and the active
bank, that of the mode (R2). -/
def Obligations.DeratingFactorAndCommand : Prop :=
  (∀ (p : DeratePair) (share d : Nat),
    (p.d0 < p.d1 → d ≤ p.d0 → factor p share (some d) = 256)
    ∧ (p.d0 < p.d1 → p.d0 < d → d < p.d1 →
        factor p share (some d) = 256 - (d - p.d0) * 256 / (p.d1 - p.d0)
        ∧ (d - p.d0) * 256 / (p.d1 - p.d0) ≤ 255 ∧ 1 ≤ factor p share (some d))
    ∧ (p.d0 < p.d1 → p.d1 ≤ d → factor p share (some d) = 0)
    ∧ (p.d1 ≤ p.d0 → d ≤ p.d0 → factor p share (some d) = 256)
    ∧ (p.d1 ≤ p.d0 → p.d0 < d → factor p share (some d) = 0)
    ∧ factor p share none = share
    ∧ ∀ q : Option Nat, share ≤ 256 → factor p share q ≤ 256)
  ∧ (∀ (x : Int) (k : Nat),
    derateInt x k = Int.tdiv (x * k) 256
    ∧ (k ≤ 256 → (derateInt x k).natAbs ≤ x.natAbs)
    ∧ (0 ≤ x → 0 ≤ derateInt x k) ∧ (x ≤ 0 → derateInt x k ≤ 0)
    ∧ derateInt x 256 = x ∧ derateInt x 0 = 0
    ∧ (0 ≤ x → (derateNat x k : Int) = derateInt x k))
  ∧ (∀ (b : StartBlock) (s : State),
    brushFactor b s = factor (activeBank b s).brPair (activeBank b s).blindShare (droop b s)
    ∧ waterFactor b s = factor (activeBank b s).wtrPair (activeBank b s).blindShare (droop b s)
    ∧ (driveChain b s).sp.drv.k
        = factor (activeBank b s).drvPair (activeBank b s).blindShare (droop b s)
    ∧ (∀ n, (s.arm n).state = .working →
        ((brushPeriod b n s).arm n).command
            = derateNat ((brushPeriod b n s).sp.brush n).ramp.out (brushFactor b s)
          ∧ ((brushPeriod b n s).arm n).state = .working)
    ∧ (s.water.state = .spraying →
        (waterOutputs b s).water.pump = derateNat (waterOutputs b s).sp.wtr.ramp.out (waterFactor b s)
          ∧ (waterOutputs b s).water.state = .spraying)
    ∧ (let o := (driveChain b s).sp.drv.ramp.out
       let feed := curveLookup (activeBank b s).feed o.natAbs
       let derated := derateInt (pumpCommand o feed.1 s.drive.trim) (driveChain b s).sp.drv.k
       (driveChain b s).drive.command = withSign derated
            (pressureCut b.drive (cutPressureRead s) derated.natAbs s.drive.command.natAbs).2
          ∧ (driveChain b s).drive.state = s.drive.state))
  ∧ (∀ (b : StartBlock) (s : State),
    ((viewEngine s).quality = .bad → droop b s = none)
    ∧ ((viewEngine s).quality ≠ .bad → (viewEngine s).value ≤ b.line.setSpeed →
        ∃ d : Nat, droop b s = some d ∧ (d : Int) = b.line.setSpeed - (viewEngine s).value)
    ∧ ((viewEngine s).quality ≠ .bad → b.line.setSpeed < (viewEngine s).value → droop b s = some 0)
    ∧ activeBank b s = (match s.start.mode with
      | .transport => b.bank0
      | .sweepDry => b.bank1
      | .sweepWet => b.bank2
      | .service => b.bank3))

/-! ### The drive channel -/

/-- A drive period reads its inputs and hands the causes of DIR_INPUT, PEDAL_INPUT and PRESSURE_INPUT over; the loop
pressure is the larger converted value of two valid inputs and is kept otherwise; the drive takes ENGINE_SENSOR from the
active set, so that the effect of one that is clear ends, and nE is BAD after it exactly while the kind is active (R45, R161,
R167, log 23). Periods run in LISTENING, RUNNING and SILENCED on a populated channel; elsewhere only the pins change (R2,
R41). -/
def Obligations.DrivePeriodReadsItsInputs : Prop :=
  (∀ s : State, (driveMeasures s = true ↔ populated .drv s = true ∧ periodsRun s = true)
    ∧ (periodsRun s = true ↔ s.start.station = .listening ∨ s.start.station = .running
        ∨ s.start.station = .silenced))
  ∧ (∀ (i : DriveInputs) (s : State), driveMeasures s = false →
    exec (.drvControlPeriod i) s = .next (s.withPins { s.pins with drive := i }))
  ∧ ∀ (i : DriveInputs) (s : State) (b : StartBlock), s.start.image = some b → driveMeasures s = true →
    let valid := fun raw : Raw => 82 ≤ raw.toNat ∧ raw.toNat ≤ 4013
    let bar := fun raw : Raw => min 500 ((raw.toNat - 82) * b.line.fullScale / 3931)
    ∃ t, exec (.drvControlPeriod i) s = .next t
      ∧ KeepsAllBut [.pins, .line, .sp, .drive, .faults] s t
      ∧ t.pins = { s.pins with drive := i }
      ∧ t.sp.br1 = s.sp.br1 ∧ t.sp.br2 = s.sp.br2 ∧ t.sp.wtr = s.sp.wtr
      ∧ (active .pedalInput t = true ↔ ¬ valid i.pedal)
      ∧ (¬ valid i.pedal → sticky .pedalInput t = true)
      ∧ (active .dirInput t = true ↔ s.start.station = .running ∧ i.dirF = true ∧ i.dirR = true)
      ∧ (active .pressureInput t = true ↔ ¬ (valid i.loopA ∧ valid i.loopB))
      ∧ (valid i.loopA → valid i.loopB → t.drive.pressure = max (bar i.loopA) (bar i.loopB))
      ∧ (¬ (valid i.loopA ∧ valid i.loopB) → t.drive.pressure = s.drive.pressure)
      ∧ t.drive.engineBad = active .engineSensor s ∧ active .engineSensor t = active .engineSensor s
      ∧ ((viewEngine t).quality = .bad ↔ active .engineSensor s = true)

/-- The trip test: a BAD pedal, a sticky drive trip or a SILENCED station takes the drive to TRIPPED in that period,
with trim 0, no pending direction and no target, and the ramp falls from a fresh setup under the fault ramp time (R54, R55,
R59). -/
def Obligations.DrivePeriodTrips : Prop :=
  ∀ (i : DriveInputs) (s : State) (b : StartBlock), s.start.image = some b → driveMeasures s = true →
    s.drive.state ≠ .tripped →
    (inSpan i.pedal = false ∨ sticky .pedalInput s = true ∨ sticky .speedSensor s = true
      ∨ s.start.station = .silenced) →
    ∃ t, exec (.drvControlPeriod i) s = .next t
      ∧ t.drive.state = .tripped ∧ t.drive.trim = 0 ∧ t.drive.dwellTimer = none
      ∧ t.drive.pendDir = none ∧ t.drive.lastDir = s.drive.lastDir
      ∧ t.sp.drv.ramp.out.natAbs ≤ s.sp.drv.ramp.out.natAbs
      ∧ (b.drive.faultRamp = 0 → t.sp.drv.ramp.out = 0)
      ∧ (0 < b.drive.faultRamp →
        let fresh := s.sp.drv.ramp.setup 1500 .falling b.drive.faultRamp
        t.sp.drv.ramp.out = toward s.sp.drv.ramp.out 0 fresh.advance.1
          ∧ (t.sp.drv.ramp.out ≠ 0 → t.sp.drv.ramp.err = fresh.advance.2))

/-- The transitions of R48, R49, R50, R51 and R55 in RUNNING where no trip stands. Outside RUNNING the selector reads
NEUTRAL whatever the inputs show: the drive takes no direction, releases no brake and keeps its last direction, a drive in
LISTENING rolls down by NEUTRAL, and one in SILENCED is TRIPPED (R42, R54, R56). A TRIPPED drive stays TRIPPED while one of
the four conditions of its release fails, a RELEASED brake under NEUTRAL among them (R55). -/
def Obligations.DrivePeriodTakesTheSelector : Prop :=
  (∀ s : State,
    let f := s.pins.drive.dirF
    let r := s.pins.drive.dirR
    (s.start.station ≠ .running → selector s = none)
    ∧ (s.start.station = .running → f = true → r = false → selector s = some .forward)
    ∧ (s.start.station = .running → f = false → r = true → selector s = some .reverse)
    ∧ (f = r → selector s = none))
  ∧ (∀ (i : DriveInputs) (s : State) (b : StartBlock), s.start.image = some b → populated .drv s = true →
    s.start.station = .listening ∨ s.start.station = .silenced →
    ∃ t, exec (.drvControlPeriod i) s = .next t
      ∧ t.drive.state ≠ .forward ∧ t.drive.state ≠ .reverse ∧ t.drive.state ≠ .changing
      ∧ t.drive.lastDir = s.drive.lastDir
      ∧ (s.drive.brakeApplied = true → t.drive.brakeApplied = true)
      ∧ active .dirInput t = false
      ∧ (s.start.station = .silenced → t.drive.state = .tripped)
      ∧ (s.start.station = .listening → inSpan i.pedal = true → sticky .pedalInput s = false →
          sticky .speedSensor s = false →
          (s.drive.state = .parked → t.drive.state = .parked)
          ∧ (s.drive.state = .neutral → t.drive.state = .neutral ∨ t.drive.state = .parked)
          ∧ (s.drive.state = .forward ∨ s.drive.state = .reverse ∨ s.drive.state = .changing →
              t.drive.state = .neutral)))
  ∧ (∀ (i : DriveInputs) (s : State) (b : StartBlock), s.start.image = some b → driveMeasures s = true →
    s.drive.state = .tripped →
    (inSpan i.pedal = false ∨ sticky .pedalInput s = true ∨ sticky .speedSensor s = true
      ∨ s.start.station ≠ .running ∨ i.dirF ≠ i.dirR ∨ s.drive.brakeApplied = false) →
    ∃ t, exec (.drvControlPeriod i) s = .next t
      ∧ t.drive.state = .tripped ∧ t.drive.lastDir = s.drive.lastDir ∧ t.drive.trim = s.drive.trim)
  ∧ ∀ (i : DriveInputs) (s : State) (b : StartBlock), s.start.image = some b →
    populated .drv s = true → s.start.station = .running → inSpan i.pedal = true →
    sticky .pedalInput s = false → sticky .speedSensor s = false →
    ∃ t, exec (.drvControlPeriod i) s = .next t
      ∧ ∀ (d : Direction) (own : DriveState),
        own = (match d with
          | .forward => .forward
          | .reverse => .reverse) →
        let picks := i.dirF = (match d with
            | .forward => true
            | .reverse => false) ∧ i.dirR = (match d with
            | .forward => false
            | .reverse => true)
        let idle := i.dirF = i.dirR
        let rest := s.sp.drv.ramp.out = 0
          ∧ (ownTravelQuality s = .bad ∨ s.drive.meas.v.natAbs ≤ b.drive.stopSpeed)
        (s.drive.state = .parked → picks → s.start.mode ≠ .service →
          b.drive.pedalDeadband < i.pedal.toNat →
          t.drive.state = own ∧ t.drive.lastDir = some d ∧ t.drive.brakeApplied = false)
        ∧ (s.drive.state = .parked →
          (idle ∨ s.start.mode = .service ∨ i.pedal.toNat ≤ b.drive.pedalDeadband) →
          t.drive.state = .parked ∧ t.drive.brakeApplied = s.drive.brakeApplied)
        ∧ (s.drive.state = own → picks → t.drive.state = own ∧ t.drive.lastDir = s.drive.lastDir)
        ∧ (s.drive.state = own → idle →
          t.drive.state = .neutral ∧ t.drive.trim = 0 ∧ t.drive.lastDir = s.drive.lastDir
            ∧ t.drive.brakeApplied = s.drive.brakeApplied)
        ∧ ((s.drive.state = .forward ∨ s.drive.state = .reverse) → s.drive.state ≠ own → picks →
          t.drive.state = .changing ∧ t.drive.pendDir = some d ∧ t.drive.trim = 0
            ∧ t.drive.lastDir = s.drive.lastDir)
        ∧ (s.drive.state = .neutral → picks → s.drive.lastDir = some d →
          t.drive.state = own ∧ t.drive.parkTimer = none ∧ t.drive.brakeApplied = false)
        ∧ (s.drive.state = .neutral → picks → s.drive.lastDir ≠ some d → rest →
          t.drive.state = own ∧ t.drive.lastDir = some d ∧ t.drive.parkTimer = none)
        ∧ (s.drive.state = .neutral → picks → s.drive.lastDir ≠ some d → ¬ rest →
          t.drive.state = .changing ∧ t.drive.pendDir = some d ∧ t.drive.parkTimer = none)
        ∧ (s.drive.state = .changing → picks → s.drive.pendDir = some d →
          t.drive.state = .changing ∧ t.drive.pendDir = some d)
        ∧ (s.drive.state = .changing → picks → s.drive.pendDir ≠ some d → s.drive.lastDir = some d →
          t.drive.state = own ∧ t.drive.pendDir = none ∧ t.drive.dwellTimer = none)
        ∧ (s.drive.state = .changing → idle →
          t.drive.state = .neutral ∧ t.drive.dwellTimer = none ∧ t.drive.pendDir = none)
        ∧ (s.drive.state = .tripped → picks → t.drive.state = .tripped)
        ∧ (s.drive.state = .tripped → idle → s.drive.brakeApplied = true → t.drive.state = .parked)

/-- The target of R57 under the caps of R58: in FORWARD and REVERSE with a GOOD pedal above the deadband the PEDAL curve
output held at 1500, else 0, under the smallest cap that applies and with the sign of the state; the clamp pair of PEDAL is
taken at a lookup and holds otherwise. -/
def Obligations.DriveTargetStaysWithinItsCaps : Prop :=
  ∀ (b : StartBlock) (s : State),
    let m := (driveTarget b s).natAbs
    let pedal := s.pins.drive.pedal
    let pressed := (s.drive.state = .forward ∨ s.drive.state = .reverse)
      ∧ inSpan pedal = true ∧ b.drive.pedalDeadband < pedal.toNat
    let look := curveLookup (activeBank b s).pedal pedal.toNat
    let sweep := max b.drive.sweepCapMin
      (b.drive.sweepCap - (brushSum s).value * b.drive.capSlope / 4096)
    let caps := (if s.start.mode = .transport then [b.drive.transportCap] else [])
      ++ (if armsDown s then [sweep] else [])
      ++ (if s.drive.state = .reverse then [b.drive.reverseCap] else [])
      ++ (if active .pressureInput s then [b.drive.sweepCapMin] else [])
    (pressed → m = caps.foldl min (min 1500 look.1))
    ∧ (¬ pressed → driveTarget b s = 0)
    ∧ (s.drive.state = .forward → 0 ≤ driveTarget b s)
    ∧ (s.drive.state = .reverse → driveTarget b s ≤ 0)
    ∧ m ≤ 1500 ∧ (∀ cap ∈ caps, m ≤ cap)
    ∧ (pressed → (driveChain b s).sp.drv.pedalClamp = look.2.pair)
    ∧ (¬ pressed → (driveChain b s).sp.drv.pedalClamp = s.sp.drv.pedalClamp)

/-- The arithmetic after the ramp: the pump command before derating (R60), the pressure cut (R62) and the trim step (R64),
and the pins that the command and the brake drive (R41, R53, R63). A drive period runs the chain in this order on the state
that its transition leaves (R47, R59 to R63), then updates the trim (R64; that the freeze reads this period's cut state
alone is the model's choice, log 32), and a command of magnitude 400 or less sets the speed silence timer to 0 and ends its
cause (R65). -/
def Obligations.PumpCommandCutAndTrim : Prop :=
  (∀ (o trim : Int) (feed : Nat),
    (o = 0 → pumpCommand o feed trim = 0)
    ∧ (0 < o → pumpCommand o feed trim = max 0 (min 4095 ((feed : Int) + trim)))
    ∧ (o < 0 → pumpCommand o feed trim = - max 0 (min 4095 ((feed : Int) + trim))))
  ∧ (∀ (p : DriveParams) (bar d last : Nat),
    (p.cutPressure < bar → pressureCut p (some bar) d last = (.reduce, min d (last - p.cutStep)))
    ∧ (bar ≤ p.cutPressure → (p.cutPressure : Int) - p.cutHysteresis < bar →
        pressureCut p (some bar) d last = (.hold, min d last))
    ∧ ((bar : Int) ≤ p.cutPressure - p.cutHysteresis → pressureCut p (some bar) d last = (.none, d))
    ∧ pressureCut p none d last = (.none, d)
    ∧ (pressureCut p (some bar) d last).2 ≤ d)
  ∧ (∀ (p : DriveParams) (e trim : Int), -(p.trimLimit : Int) ≤ trim → trim ≤ p.trimLimit →
    ((p.trimDeadband : Int) < e → trimmed p false e trim = min (p.trimLimit : Int) (trim + 1))
    ∧ ((p.trimDeadband : Int) < e → trimmed p true e trim = trim)
    ∧ (∀ frozen, -(p.trimDeadband : Int) ≤ e → e ≤ p.trimDeadband → trimmed p frozen e trim = trim)
    ∧ (∀ frozen, e < -(p.trimDeadband : Int) →
        trimmed p frozen e trim = max (-(p.trimLimit : Int)) (trim - 1))
    ∧ ∀ frozen, -(p.trimLimit : Int) ≤ trimmed p frozen e trim ∧ trimmed p frozen e trim ≤ p.trimLimit)
  ∧ (∀ s : State,
    let driven := (s.start.station = .listening ∨ s.start.station = .running
      ∨ s.start.station = .silenced) ∧ populated .drv s = true
    (driven → 0 ≤ s.drive.command →
        ((outputs s).pumpFwd : Int) = s.drive.command ∧ (outputs s).pumpRev = 0)
    ∧ (driven → s.drive.command ≤ 0 →
        ((outputs s).pumpRev : Int) = -s.drive.command ∧ (outputs s).pumpFwd = 0)
    ∧ (driven → ((outputs s).brakeRel = true ↔ s.drive.brakeApplied = false))
    ∧ (¬ driven → (outputs s).pumpFwd = 0 ∧ (outputs s).pumpRev = 0 ∧ (outputs s).brakeRel = false))
  ∧ (∀ (i : DriveInputs) (s : State) (b : StartBlock), s.start.image = some b → driveMeasures s = true →
    let u := driveTransition b (driveBegin b (s.withPins { s.pins with drive := i }))
    let bank := bankOfMode b s.start.mode
    let fault : RampTimes := ⟨b.drive.faultRamp, b.drive.faultRamp⟩
    let times := if u.drive.state = .tripped then fault else bank.drvTimes
    let ramp := u.sp.drv.ramp.step 1500 times (driveTarget b u)
    let feed := curveLookup bank.feed ramp.out.natAbs
    let k := factor bank.drvPair bank.blindShare (droop b u)
    let derated := derateInt (pumpCommand ramp.out feed.1 u.drive.trim) k
    let bar := if active .pressureInput u then none else some u.drive.pressure
    let cut := pressureCut b.drive bar derated.natAbs s.drive.command.natAbs
    let frozen := decide (k < 256 ∨ cut.1 ≠ .none ∨ feed.2.pair.high = true)
    let error : Int := (ramp.out.natAbs : Int) - (s.drive.meas.v.natAbs : Int)
    ∃ t, exec (.drvControlPeriod i) s = .next t
      ∧ t.sp.drv = ⟨ramp, (pedalSpeed b u).2, feed.2.pair, k⟩
      ∧ t.drive.cut = cut.1
      ∧ t.drive.command = (if derated < 0 then -(cut.2 : Int) else cut.2)
      ∧ (let driving := t.drive.state = .forward ∨ t.drive.state = .reverse
         (driving → t.drive.trim = (if ownTravelQuality s = .good
            then trimmed b.drive frozen error s.drive.trim else s.drive.trim))
         ∧ (¬ driving → t.drive.state = s.drive.state → t.drive.trim = s.drive.trim)
         ∧ (t.drive.state ≠ s.drive.state →
            t.drive.state = .parked ∨ t.drive.state = .changing ∨ t.drive.state = .tripped
              ∨ (t.drive.state = .neutral ∧ s.drive.state ≠ .changing) → t.drive.trim = 0))
      ∧ (t.drive.command.natAbs ≤ 400 →
          t.drive.speedSilence = 0 ∧ active .speedSensor t = false)
      ∧ (400 < t.drive.command.natAbs →
          t.drive.speedSilence = s.drive.speedSilence ∧ active .speedSensor t = active .speedSensor s)
      ∧ sticky .speedSensor t = sticky .speedSensor s)

/-- Every step keeps DriveLaw: the pump command and the ramp output have the sign of the direction last entered, and both
are 0 while the brake is applied. -/
def Obligations.EveryStepKeepsTheDriveLaw : Prop :=
  ∀ s t : State, DriveLaw s → step s = .next t → DriveLaw t

/-- A bucket close computes both speeds from the five buckets and opens an empty one (R19, R20); each pickup edge counts
into its open bucket, sets its silence timer to 0 and ends its cause (R65, R66). The edge that ends ENGINE_SENSOR leaves
nE BAD, and a bucket close that finds the kind clear ends that effect (R161, R167, log 23). The pickups of a station that
makes no measurement only change the pins (R21). -/
def Obligations.MeasurementsCountAndClose : Prop :=
  (∀ (s : State) (b : StartBlock) (ms : Nat), s.start.image = some b → driveMeasures s = true →
      s.drive.meas.bucketTimer = some ms → 20 ≤ ms →
      let m := s.drive.meas
      let n := m.travel.opened + m.travel.b1 + m.travel.b2 + m.travel.b3 + m.travel.b4
      let e := m.engine.opened + m.engine.b1 + m.engine.b2 + m.engine.b3 + m.engine.b4
      exec .bucketClose s = .next (s.withDrive { s.drive with engineBad := active .engineSensor s, meas :=
        { travel := ⟨0, m.travel.opened, m.travel.b1, m.travel.b2, m.travel.b3⟩
          engine := ⟨0, m.engine.opened, m.engine.b1, m.engine.b2, m.engine.b3⟩
          v := max (-1500) (min 1500 (Int.tdiv (1000 * n) b.line.ppm))
          nE := min 4000 (e.toNat * 600 / b.line.ppr)
          closes := min 5 (m.closes + 1)
          bucketTimer := some (ms - 20) } }))
  ∧ ((∀ (s : State) (track : Track) (a b : Bool), driveMeasures s = true →
      let sign : Int := match track with
        | .a => if a ≠ b then 1 else -1
        | .b => if a = b then 1 else -1
      ∃ t, exec (.speedEdge track a b) s = .next t
        ∧ KeepsAllBut [.pins, .drive, .faults] s t
        ∧ t.pins = { s.pins with speedA := a, speedB := b }
        ∧ t.drive = { s.drive with
            speedSilence := 0
            meas := { s.drive.meas with travel := { s.drive.meas.travel with
              opened := max (-32768) (min 32767 (s.drive.meas.travel.opened + sign)) } } }
        ∧ active .speedSensor t = false ∧ t.faults.sticky = s.faults.sticky)
    ∧ (∀ s : State, driveMeasures s = true →
      ∃ t, exec .engineEdge s = .next t
        ∧ KeepsAllBut [.drive, .faults] s t
        ∧ t.drive = { s.drive with
            engineSilence := 0
            engineBad := s.drive.engineBad || active .engineSensor s
            meas := { s.drive.meas with engine := { s.drive.meas.engine with
              opened := min 65535 (s.drive.meas.engine.opened + 1) } } }
        ∧ active .engineSensor t = false ∧ t.faults.sticky = s.faults.sticky
        ∧ viewEngine t = viewEngine s)
    ∧ (∀ (s : State) (track : Track) (a b : Bool), driveMeasures s = false →
      exec (.speedEdge track a b) s = .next (s.withPins { s.pins with speedA := a, speedB := b })
      ∧ exec .engineEdge s = .next s))

/-- The expiries of the drive's timers: the park timer parks a NEUTRAL drive and brakes a TRIPPED one, the dwell timer takes
the pending direction, and a silence timer makes its cause present and sticky (R50, R52, R55, R65, R66), and v or nE of the
machine view BAD at that event (R45). Where a period
starts, keeps and stops the park and dwell timers, on the ramp output it leaves: that order, and that a period which enters
NEUTRAL or CHANGING from another state leaves its timer as it stands, is the model's choice (log 10); so is that a park
delay of 0 applies the brake of a TRIPPED drive in the same period, which R50 says of NEUTRAL only (log 11). -/
def Obligations.DriveTimersExpire : Prop :=
  (∀ (s : State) (b : StartBlock) (ms : Nat), s.start.image = some b →
      (s.drive.parkTimer = some ms → b.drive.parkDelay ≤ ms → s.drive.state = .neutral →
        exec .parkTimerExpiry s = .next (s.withDrive { s.drive with
          state := .parked, brakeApplied := true, trim := 0, parkTimer := none }))
      ∧ (s.drive.parkTimer = some ms → b.drive.parkDelay ≤ ms → s.drive.state = .tripped →
        exec .parkTimerExpiry s = .next (s.withDrive { s.drive with
          brakeApplied := true, parkTimer := none }))
      ∧ (∀ d, s.drive.dwellTimer = some ms → b.drive.dwellTime ≤ ms → s.drive.state = .changing →
        s.drive.pendDir = some d →
        ∃ t, exec .dwellTimerExpiry s = .next t
          ∧ KeepsAllBut [.drive] s t
          ∧ t.drive.state = (match d with
            | .forward => .forward
            | .reverse => .reverse)
          ∧ t.drive.lastDir = some d ∧ t.drive.pendDir = none ∧ t.drive.dwellTimer = none)
      ∧ (driveMeasures s = true → 500 ≤ s.drive.speedSilence → active .speedSensor s = false →
        ∃ t, exec .speedSilenceExpiry s = .next t
          ∧ KeepsAllBut [.line, .faults] s t
          ∧ active .speedSensor t = true ∧ sticky .speedSensor t = true
          ∧ viewTravel t = ⟨s.drive.meas.v, .bad⟩
          ∧ (sticky .speedSensor s = false → t.line.alertSlot = some .speedSensor))
      ∧ (driveMeasures s = true → 500 ≤ s.drive.engineSilence → active .engineSensor s = false →
        ∃ t, exec .engineSilenceExpiry s = .next t
          ∧ KeepsAllBut [.faults] s t
          ∧ active .engineSensor t = true ∧ sticky .engineSensor t = true
          ∧ viewEngine t = ⟨s.drive.meas.nE, .bad⟩))
  ∧ (∀ (i : DriveInputs) (s : State) (b : StartBlock), s.start.image = some b → driveMeasures s = true →
      ∃ t, exec (.drvControlPeriod i) s = .next t
        ∧ (let slow := ownTravelQuality s = .bad ∨ s.drive.meas.v.natAbs ≤ b.drive.stopSpeed
           let rest := t.sp.drv.ramp.out = 0 ∧ slow
           let started := fun timer : Timer => if timer.isSome then timer else some 0
           let before := if s.drive.state = .tripped then s.drive.parkTimer else none
           (s.drive.state = .neutral → t.drive.state = .neutral →
              t.drive.parkTimer = (if rest then started s.drive.parkTimer else none))
           ∧ (s.drive.state = .neutral → b.drive.parkDelay = 0 → s.drive.parkTimer = none → rest →
              t.drive.state ≠ .neutral)
           ∧ (s.drive.state = .neutral → t.drive.state = .parked →
              b.drive.parkDelay = 0 ∧ rest ∧ t.drive.brakeApplied = true ∧ t.drive.parkTimer = none)
           ∧ (s.drive.state ≠ .neutral → t.drive.state = .neutral →
              t.drive.parkTimer = s.drive.parkTimer)
           ∧ (s.drive.state = .changing → t.drive.state = .changing →
              t.drive.dwellTimer = (if rest then started s.drive.dwellTimer
                else if slow then s.drive.dwellTimer else none))
           ∧ (s.drive.state ≠ .changing → t.drive.state = .changing →
              t.drive.dwellTimer = s.drive.dwellTimer)
           ∧ (t.drive.state = .tripped → s.drive.brakeApplied = true → t.drive.parkTimer = before)
           ∧ (t.drive.state = .tripped → s.drive.brakeApplied = false → rest →
              (b.drive.parkDelay = 0 → before = none →
                t.drive.brakeApplied = true ∧ t.drive.parkTimer = none)
              ∧ (0 < b.drive.parkDelay ∨ before.isSome = true →
                t.drive.brakeApplied = false ∧ t.drive.parkTimer = started before))
           ∧ (t.drive.state = .tripped → s.drive.brakeApplied = false → ¬ rest →
              t.drive.brakeApplied = false
                ∧ t.drive.parkTimer = (if slow then before else none))))

/-! ### The arm and brush channels -/

/-- A position is GOOD where its count lies within 82 to 4013 (R69). A BAD one takes a populated arm to HELD, valves off
and brush 0, with ARMn_FAULT active and sticky (R69, R85, R87), and the running operation on the arm fails (R78, R85,
R111; the value of a SET_MODE entry is never read, log 36). Outside LISTENING, RUNNING and SILENCED, and on an arm that
the role does not populate, no period runs (R2, R68). -/
def Obligations.BadPositionHoldsTheArm : Prop :=
  (∀ raw : Raw, inSpan raw = true ↔ 82 ≤ raw.toNat ∧ raw.toNat ≤ 4013)
  ∧ (∀ (n : ArmId) (raw : Raw) (s : State), populated (armChannel n) s = false ∨ periodsRun s = false →
    exec (.armControlPeriod n raw) s = .next (s.withPins (match n with
      | .one => { s.pins with arm1 := raw }
      | .two => { s.pins with arm2 := raw })))
  ∧ ∀ (n : ArmId) (raw : Raw) (s : State) (b : StartBlock), s.start.image = some b →
    populated (armChannel n) s = true → periodsRun s = true → inSpan raw = false →
    ∃ t, exec (.armControlPeriod n raw) s = .next t
      ∧ (t.arm n).state = .held ∧ (t.arm n).position = raw ∧ (t.arm n).command = 0
      ∧ (match n with
        | .one => (outputs t).arm1
        | .two => (outputs t).arm2) = ⟨false, false, false, 0⟩
      ∧ ((s.arm n).state ≠ .held → (t.arm n).resume = false ∧ (t.arm n).moveTimer = none
          ∧ (t.arm n).blindTimer = none)
      ∧ ((s.arm n).state = .working → (t.sp.brush n).ramp.out = 0)
      ∧ active (armFault n) t = true ∧ sticky (armFault n) t = true
      ∧ ((s.arm n).state ≠ .held → t.req = { s.req with table := s.req.table.map (fun e =>
          e.endedBy n (some (.failed, 5)) (some (.failed, 5)) (some (.failed, 0))) })
      ∧ ((s.arm n).state = .held → t.req = s.req)
      ∧ (∀ m, m ≠ n → t.arm m = s.arm m)
      ∧ t.drive = s.drive ∧ t.water = s.water ∧ t.start = s.start ∧ t.peers = s.peers
      ∧ t.pending = s.pending ∧ t.free = s.free

/-- The moves of a control period on a GOOD position: the thresholds (R76), the reverse lift (R81), the resume (R82),
and a state that no test moves; the six lower preconditions (R73); the entries that reaching WORKING or STOWED ends
(R78, R111); and the valves and duty that an arm drives (R71). The value 0 that a SET_MODE TRANSPORT entry records when
the period ends it is never read (log 36). The order of the tests is the model's choice (log 12): an arm that meets its
threshold while rolling back lifts in that period, and one that reaches REVERSE_LIFTED resumes in a later one. -/
def Obligations.ArmPeriodMoves : Prop :=
  ∀ (n : ArmId) (raw : Raw) (s : State) (b : StartBlock), s.start.image = some b →
    populated (armChannel n) s = true → periodsRun s = true → inSpan raw = true →
    let v := viewTravel s
    let back := v.quality ≠ .bad ∧ v.value < -(b.arms.reverseLift : Int)
    let allStowedAfter := fun t : State => ∀ m, populated (armChannel m) s = true → (t.arm m).state = .stowed
    (stowPosition b n, workPosition b n) = (match n with
      | .one => (b.arms.stow1, b.arms.work1)
      | .two => (b.arms.stow2, b.arms.work2))
    ∧ (lowerAllowed b n s = true ↔ (s.start.mode = .sweepDry ∨ s.start.mode = .sweepWet)
      ∧ s.start.station = .running ∧ v.quality ≠ .bad ∧ -(b.arms.reverseLift : Int) ≤ v.value
      ∧ v.value.natAbs ≤ b.arms.lowerSpeed
      ∧ ¬ ((s.arm n).state = .held ∧ sticky (armFault n) s = true))
    ∧ ∃ t, exec (.armControlPeriod n raw) s = .next t
      ∧ (match n with
        | .one => (outputs t).arm1
        | .two => (outputs t).arm2)
          = ⟨decide ((t.arm n).state = .lifting), decide ((t.arm n).state = .lowering),
              decide ((t.arm n).state = .working), (t.arm n).command⟩
      ∧ (t.arm n).position = raw
      ∧ ((s.arm n).state = .lowering → raw.toNat ≤ workPosition b n → ¬ back →
          (v.quality = .bad → 0 < b.arms.blindTime) →
          t.req = { s.req with table := s.req.table.map (fun e => e.endedBy n (some (.done, 2)) none none) })
      ∧ ((s.arm n).state = .lifting → (s.arm n).resume = false → stowPosition b n ≤ raw.toNat →
          (allStowedAfter t → t.req = { s.req with table := s.req.table.map (fun e =>
            e.endedBy n (some (.failed, 0)) (some (.done, 0)) (some (.done, 0))) })
          ∧ (¬ allStowedAfter t → t.req = { s.req with table := s.req.table.map (fun e =>
            e.endedBy n (some (.failed, 0)) (some (.done, 0)) none) }))
      ∧ ((s.arm n).state = .lifting → (s.arm n).resume = true → stowPosition b n ≤ raw.toNat →
          t.req = s.req)
      ∧ (∀ m, m ≠ n → t.arm m = s.arm m)
      ∧ ((s.arm n).state = .lowering → raw.toNat ≤ workPosition b n → ¬ back →
          (v.quality = .bad → 0 < b.arms.blindTime) → (t.arm n).state = .working)
      ∧ ((s.arm n).state = .lowering → workPosition b n < raw.toNat → ¬ back →
          (t.arm n).state = .lowering ∧ (t.arm n).moveTimer = (s.arm n).moveTimer)
      ∧ (((s.arm n).state = .lowering ∨ (s.arm n).state = .working) → back →
          (t.arm n).state = .lifting ∧ (t.arm n).resume = true ∧ (t.arm n).moveTimer = some 0
            ∧ (t.arm n).command = 0)
      ∧ ((s.arm n).state = .lifting → stowPosition b n ≤ raw.toNat →
          (t.arm n).state = (if (s.arm n).resume then .reverseLifted else .stowed)
            ∧ (t.arm n).moveTimer = none)
      ∧ ((s.arm n).state = .lifting → raw.toNat < stowPosition b n →
          (t.arm n).state = .lifting ∧ (t.arm n).resume = (s.arm n).resume
            ∧ (t.arm n).moveTimer = (s.arm n).moveTimer)
      ∧ ((s.arm n).state = .reverseLifted → v.quality ≠ .bad → (b.arms.resume : Int) ≤ v.value →
          lowerAllowed b n s = true →
          (t.arm n).state = .lowering ∧ (t.arm n).resume = false ∧ (t.arm n).moveTimer = some 0)
      ∧ ((s.arm n).state = .reverseLifted →
          (v.quality = .bad ∨ v.value < b.arms.resume ∨ lowerAllowed b n s = false) →
          (t.arm n).state = .reverseLifted)
      ∧ ((s.arm n).state = .stowed → (t.arm n).state = .stowed)
      ∧ ((s.arm n).state = .held → (t.arm n).state = .held)
      ∧ ((s.arm n).state = .working → v.quality ≠ .bad → ¬ back →
          (t.arm n).state = .working ∧ (t.arm n).blindTimer = none)

/-- A WORKING arm whose travel speed is BAD runs blind: the ramp stands at the blind command, the flags of the brush
hold, and the blind timer runs (R83, R84). One whose travel speed is GOOD or HELD and does not roll back runs the chain of
R1: BRUSH curve on |v|, blend with the trim, ramp and derating (R86). Both hold in the period in which a LOWERING arm
reaches its threshold and enters WORKING too (R72, R76, R83). A blind time of 0 lifts the arm for good in the period that
starts it: the brush stops, an ARM_MOVE WORK on the arm ends, and TRAVEL_LOST is recorded where the travel source is another
station (R78, R84, R87). -/
def Obligations.WorkingArmRunsBlind : Prop :=
  ∀ (n : ArmId) (raw : Raw) (s : State) (b : StartBlock), s.start.image = some b →
    populated (armChannel n) s = true → periodsRun s = true → inSpan raw = true →
    let arrives := (s.arm n).state = .lowering ∧ raw.toNat ≤ workPosition b n
    (s.arm n).state = .working ∨ arrives →
    ((viewTravel s).quality ≠ .bad → -(b.arms.reverseLift : Int) ≤ (viewTravel s).value →
      ∃ t, exec (.armControlPeriod n raw) s = .next t
        ∧ (t.arm n).state = .working ∧ (t.arm n).blindTimer = none
        ∧ (let bank := activeBank b s
           let look := curveLookup bank.brush (viewTravel s).value.natAbs
           let q := testQuantity b s (if inSpan raw then some raw.toNat else none) bank.brRule.quantity
           let mixed := blend bank.brRule q look.1 (s.arm n).trim
           t.sp.brush n = ⟨(s.sp.brush n).ramp.step 4095 bank.brTimes (mixed.1 : Int), look.2.pair,
              mixed.2, brushFactor b s⟩
           ∧ (t.arm n).command
              = (Int.tdiv ((t.sp.brush n).ramp.out * (brushFactor b s : Int)) 256).toNat))
    ∧ ((viewTravel s).quality = .bad → 0 < b.arms.blindTime →
      ∃ t, exec (.armControlPeriod n raw) s = .next t
        ∧ (t.arm n).state = .working
        ∧ (t.sp.brush n).ramp.out = (activeBank b s).blindCommand
        ∧ (t.sp.brush n).clamp = (s.sp.brush n).clamp ∧ (t.sp.brush n).sat = (s.sp.brush n).sat
        ∧ (t.sp.brush n).k = brushFactor b s
        ∧ ((t.arm n).command : Int)
            = Int.tdiv (((activeBank b s).blindCommand : Int) * (brushFactor b s : Int)) 256
        ∧ ((s.arm n).blindTimer = none → (t.arm n).blindTimer = some 0)
        ∧ (∀ ms, (s.arm n).blindTimer = some ms → (t.arm n).blindTimer = some ms))
    ∧ ((viewTravel s).quality = .bad → b.arms.blindTime = 0 → (s.arm n).blindTimer = none →
      ∃ t, exec (.armControlPeriod n raw) s = .next t
        ∧ (t.arm n).state = .lifting ∧ (t.arm n).resume = false ∧ (t.arm n).moveTimer = some 0
        ∧ (t.arm n).blindTimer = none ∧ (t.arm n).command = 0 ∧ (t.sp.brush n).ramp.out = 0
        ∧ (t.sp.brush n).clamp = (s.sp.brush n).clamp ∧ (t.sp.brush n).sat = (s.sp.brush n).sat
        ∧ t.req = { s.req with table := s.req.table.map (fun e =>
            e.endedBy n (some (if arrives then (.done, 2) else (.failed, 3))) none none) }
        ∧ (travelSource s ≠ .own → sticky .travelLost t = true)
        ∧ (travelSource s = .own → sticky .travelLost t = sticky .travelLost s))

/-- Every step keeps ArmsLaw: no arm is LOWERING or WORKING outside RUNNING and the sweep modes, no brush is commanded
outside WORKING, and an arm whose fault is sticky is HELD. -/
def Obligations.EveryStepKeepsTheArmsLaw : Prop :=
  ∀ s t : State, ArmsLaw s → step s = .next t → ArmsLaw t

/-- The move timer's expiry is a stall, and the blind timer's expiry lifts a WORKING arm for good (R77, R84). Both end
the operations on the arm as R78 and R111 give it: a stall fails every one, a lift for good fails an ARM_MOVE WORK. The
value of a SET_MODE entry is never read (log 36). -/
def Obligations.ArmTimersExpire : Prop :=
  ∀ (n : ArmId) (s : State) (b : StartBlock) (ms : Nat), s.start.image = some b →
    ((s.arm n).moveTimer = some ms → b.arms.moveTime ≤ ms →
      ∃ t, exec (.moveTimerExpiry n) s = .next t
        ∧ (t.arm n).state = .held ∧ (t.arm n).resume = false ∧ (t.arm n).moveTimer = none
        ∧ (t.arm n).blindTimer = none
        ∧ active (armFault n) t = true ∧ sticky (armFault n) t = true
        ∧ (sticky (armFault n) s = false → t.line.alertSlot = some (armFault n))
        ∧ ((s.arm n).state ≠ .held → t.req = { s.req with table := s.req.table.map (fun e =>
            e.endedBy n (some (.failed, 5)) (some (.failed, 5)) (some (.failed, 0))) }))
    ∧ ((s.arm n).blindTimer = some ms → b.arms.blindTime ≤ ms → (s.arm n).state = .working →
      ∃ t, exec (.blindTimerExpiry n) s = .next t
        ∧ (t.arm n).state = .lifting ∧ (t.arm n).resume = false ∧ (t.arm n).moveTimer = some 0
        ∧ (t.arm n).blindTimer = none ∧ (t.arm n).command = 0 ∧ (t.sp.brush n).ramp.out = 0
        ∧ (populated (armChannel n) s = true → t.req = { s.req with
            table := s.req.table.map (fun e => e.endedBy n (some (.failed, 3)) none none) })
        ∧ (travelSource s ≠ .own → sticky .travelLost t = true)
        ∧ (travelSource s = .own → t.faults = s.faults))

/-! ### The water channel -/

/-- A water period hands over WATER_INPUT and TANK_LOW, ends the WATER_DRY cause, and on a BAD input takes an active
channel to OFF with its timers stopped and its dry count kept, while OFF and DRY_LOCKED stay (R91, R101, R103). Outside
LISTENING, RUNNING and SILENCED, and on a channel that the role does not populate, no period runs (R2, R90). -/
def Obligations.WaterPeriodReadsItsInputs : Prop :=
  (∀ (tank waterP : Raw) (s : State), populated .wtr s = false ∨ periodsRun s = false →
    exec (.wtrControlPeriod tank waterP) s
      = .next (s.withPins { s.pins with tank := tank, waterP := waterP }))
  ∧ ∀ (tank waterP : Raw) (s : State) (b : StartBlock), s.start.image = some b →
    populated .wtr s = true → periodsRun s = true →
    let good := inSpan tank = true ∧ inSpan waterP = true
    ∃ t, exec (.wtrControlPeriod tank waterP) s = .next t
      ∧ KeepsAllBut [.pins, .line, .sp, .water, .faults] s t
      ∧ t.sp.drv = s.sp.drv ∧ t.sp.br1 = s.sp.br1 ∧ t.sp.br2 = s.sp.br2
      ∧ t.water.tank = tank ∧ t.water.waterP = waterP
      ∧ t.sp.wtr.k = waterFactor b s
      ∧ (active .waterInput t = true ↔ ¬ good)
      ∧ (¬ good → sticky .waterInput t = true
          ∧ t.water.pump = 0 ∧ t.water.valves = 0
          ∧ t.water.dryCount = s.water.dryCount ∧ t.water.enable = s.water.enable
          ∧ (s.water.state.active = true → t.water.state = .off ∧ t.water.slot = 0
              ∧ t.water.primeTimer = none ∧ t.water.lossTimer = none
              ∧ t.water.dryWaitTimer = none ∧ t.water.patternTimer = none
              ∧ t.sp.wtr.ramp.out = 0)
          ∧ (s.water.state = .off → t.water.state = .off)
          ∧ (s.water.state = .dryLocked → t.water.state = .dryLocked))
      ∧ active .waterDry t = false
      ∧ (active .tankLow t = true ↔
          s.start.station = .running ∧ inSpan tank = true ∧ tank.toNat ≤ b.water.empty)
      ∧ sticky .tankLow t = active .tankLow t

/-- The tests of a period with GOOD inputs: a start from OFF, a good prime, and the loss of a condition (R95, R96, R97);
in SPRAYING the chain of R1: WATER curve on |v|, blend with the water trim, ramp and derating (R98); and the pump and valves
on the pins (R97, R99). The conditions and the chain are read with the period's TANK count. -/
def Obligations.WaterPeriodMoves : Prop :=
  ∀ (tank waterP : Raw) (s : State) (b : StartBlock), s.start.image = some b →
    populated .wtr s = true → periodsRun s = true → inSpan tank = true → inSpan waterP = true →
    let conditions := s.start.station = .running ∧ s.start.mode = .sweepWet ∧ s.water.enable = true
      ∧ brushWorking s = true ∧ (viewTravel s).quality ≠ .bad
      ∧ (b.water.sprayMin : Int) ≤ (viewTravel s).value ∧ b.water.empty < tank.toNat
    let bank := activeBank b s
    let read := s.withWater { s.water with tank := tank, waterP := waterP }
    let look := curveLookup bank.water (viewTravel s).value.natAbs
    let q := testQuantity b read (waterArmPosition s) bank.wtrRule.quantity
    let mixed := blend bank.wtrRule q look.1 bank.waterTrim
    let site := fun ramp : Ramp => (⟨ramp.step 4095 bank.wtrTimes (mixed.1 : Int), look.2.pair, mixed.2,
      waterFactor b s⟩ : BlendSite)
    ∃ t, exec (.wtrControlPeriod tank waterP) s = .next t
      ∧ (outputs t).waterPump = t.water.pump ∧ (outputs t).spray = t.water.valves
      ∧ (s.water.state = .spraying → conditions → t.sp.wtr = site s.sp.wtr.ramp)
      ∧ (s.water.state = .priming → conditions → b.water.primePressure ≤ waterP.toNat →
          t.sp.wtr = site (s.sp.wtr.ramp.setOut (bank.primeCommand : Int)))
      ∧ (s.water.state = .off → conditions → sticky .waterDry s = false → sticky .waterInput s = false →
          t.water.state = .priming ∧ t.water.primeTimer = some 0 ∧ t.water.slot = 0
            ∧ t.water.pump = bank.primeCommand ∧ t.water.valves = bank.pattern.getD 0 0
            ∧ t.water.dryCount = s.water.dryCount)
      ∧ (s.water.state = .off →
          (¬ conditions ∨ sticky .waterDry s = true ∨ sticky .waterInput s = true) →
          t.water.state = .off ∧ t.water.pump = 0 ∧ t.water.valves = 0)
      ∧ (s.water.state = .priming → conditions → b.water.primePressure ≤ waterP.toNat →
          t.water.state = .spraying ∧ t.water.dryCount = 0 ∧ t.water.primeTimer = none
            ∧ t.water.patternTimer = some 0 ∧ t.water.slot = 0
            ∧ t.water.valves = bank.pattern.getD 0 0)
      ∧ (s.water.state = .priming → conditions → waterP.toNat < b.water.primePressure →
          t.water.state = .priming ∧ t.water.pump = bank.primeCommand
            ∧ t.water.primeTimer = s.water.primeTimer)
      ∧ (s.water.state = .spraying → conditions →
          t.water.state = .spraying ∧ t.water.valves = bank.pattern.getD s.water.slot.toNat 0
            ∧ (b.water.lossThreshold ≤ waterP.toNat → t.water.lossTimer = none)
            ∧ (waterP.toNat < b.water.lossThreshold → s.water.lossTimer = none →
                t.water.lossTimer = some 0)
            ∧ (t.water.pump : Int)
                = max 0 (Int.tdiv (t.sp.wtr.ramp.out * (t.sp.wtr.k : Int)) 256))
      ∧ (s.water.state.active = true → ¬ conditions →
          t.water.state = .off ∧ t.water.pump = 0 ∧ t.water.valves = 0 ∧ t.water.primeTimer = none
            ∧ t.water.lossTimer = none ∧ t.water.dryWaitTimer = none ∧ t.water.patternTimer = none
            ∧ t.sp.wtr.ramp.out = 0 ∧ t.water.dryCount = s.water.dryCount)
      ∧ (s.water.state = .dryWait → conditions → t.water.state = .dryWait ∧ t.water.pump = 0)
      ∧ (s.water.state = .dryLocked → t.water.state = .dryLocked ∧ t.water.pump = 0)

/-- A failed prime waits at count 1 and locks at count 2, with the pump at 0 and the valves closed (R100, R101); the end of the
dry wait primes again or goes to OFF (R101); a pattern expiry opens the next slot (R99). -/
def Obligations.WaterTimersExpire : Prop :=
  (∀ (s : State) (b : StartBlock) (ms : Nat) (c : Instr), s.start.image = some b →
      ((c = .primeTimerExpiry ∧ s.water.state = .priming ∧ s.water.primeTimer = some ms
          ∧ b.water.primeTime ≤ ms)
        ∨ (c = .lossTimerExpiry ∧ s.water.state = .spraying ∧ s.water.lossTimer = some ms
          ∧ b.water.lossTime ≤ ms)) →
      ∃ t, exec c s = .next t
        ∧ KeepsAllBut [.line, .sp, .water, .faults] s t
        ∧ t.water.pump = 0 ∧ t.water.valves = 0 ∧ t.water.slot = 0 ∧ t.sp.wtr.ramp.out = 0
        ∧ t.water.primeTimer = none ∧ t.water.lossTimer = none ∧ t.water.patternTimer = none
        ∧ (s.water.dryCount = 0 →
            t.water.state = .dryWait ∧ t.water.dryCount = 1 ∧ t.water.dryWaitTimer = some 0
              ∧ t.faults = s.faults)
        ∧ (s.water.dryCount = 1 →
            t.water.state = .dryLocked ∧ t.water.dryCount = 2 ∧ t.water.dryWaitTimer = none
              ∧ active .waterDry t = true ∧ sticky .waterDry t = true
              ∧ (sticky .waterDry s = false → t.line.alertSlot = some .waterDry)))
  ∧ (∀ (s : State) (b : StartBlock) (ms : Nat), s.start.image = some b →
      let conditions := s.start.station = .running ∧ s.start.mode = .sweepWet ∧ s.water.enable = true
        ∧ brushWorking s = true ∧ (viewTravel s).quality ≠ .bad
        ∧ (b.water.sprayMin : Int) ≤ (viewTravel s).value ∧ inSpan s.water.tank = true
        ∧ b.water.empty < s.water.tank.toNat
      (s.water.state = .dryWait → s.water.dryWaitTimer = some ms → b.water.dryWaitTime ≤ ms →
        ∃ t, exec .dryWaitExpiry s = .next t
          ∧ KeepsAllBut [.line, .sp, .water] s t
          ∧ t.water.dryCount = s.water.dryCount ∧ t.water.dryWaitTimer = none
          ∧ (conditions →
              t.water.state = .priming ∧ t.water.primeTimer = some 0 ∧ t.water.slot = 0
                ∧ t.water.pump = (activeBank b s).primeCommand
                ∧ t.water.valves = (activeBank b s).pattern.getD 0 0)
          ∧ (¬ conditions →
              t.water.state = .off ∧ t.water.pump = 0 ∧ t.water.valves = 0))
      ∧ (s.water.state = .spraying → s.water.patternTimer = some ms → 100 ≤ ms →
        exec .patternTimerExpiry s = .next (s.withWater { s.water with
          slot := s.water.slot + 1
          valves := (activeBank b s).pattern.getD (s.water.slot + 1).toNat 0
          patternTimer := some (ms - 100) })))

/-- Every step keeps WaterLaw: no pump and no valve outside PRIMING and SPRAYING, and no active channel outside RUNNING and
SWEEP_WET. -/
def Obligations.EveryStepKeepsTheWaterLaw : Prop :=
  ∀ s t : State, WaterLaw s → step s = .next t → WaterLaw t

/-! ### The peer table -/

/-- A report of an entry (that it removes a last alert kind SPEED_SENSOR at any entry, travel source or not, is the model's
choice where R35 speaks of the travel source, log 21): accepted without a sequence check from ABSENT and LOST (R24), classed
by its step d from FRESH and STALE (R25); a payload of another length, or source 15, changes no entry (R23, R26). An
accepted report tests the inherited causes on the table it leaves (R33). -/
def Obligations.ReportArrivalClasses : Prop :=
  ∀ (s : State) (f : Frame) (rest : List Frame), s.line.rx = f :: rest → f.cls = .report →
    ∃ t, exec .reportArrival s = .next t
      ∧ KeepsAllBut [.line, .peers, .faults] s t
      ∧ t.line.rx = rest
      ∧ (∀ m : Fin 15, m.val ≠ f.src.toNat → t.peers[m] = s.peers[m])
      ∧ ((f.src = 15 ∨ f.payload.length ≠ 15) →
          t = s.withLine { s.line with rx := rest })
      ∧ ∀ (n : Fin 15) (seq : Byte) (v : ReportValues), n.val = f.src.toNat →
        parseReport f.payload = some (seq, v) →
        let removed := fun last : Option FaultKind =>
          if last = some .speedSensor ∧ v.travelQ ≠ .bad then none else last
        let loaded := fun last : Option FaultKind =>
          t.peers[n] = some ⟨.fresh, seq, v, removed last, 0⟩ ∧ InheritedTested s t
        let counts := t.line.counters
        (s.peers[n] = none → loaded none ∧ counts = s.line.counters)
        ∧ ∀ e : PeerEntry, s.peers[n] = some e →
          (e.status = .lost → loaded e.lastAlert ∧ counts = s.line.counters)
          ∧ (e.status ≠ .lost → seq = e.lastSeq →
              t.peers[n] = some e ∧ t.faults = s.faults ∧ counts = { s.line.counters with
                duplicateReports := min 255 (s.line.counters.duplicateReports + 1) })
          ∧ (e.status ≠ .lost → seq = e.lastSeq + 1 →
              loaded e.lastAlert ∧ counts = s.line.counters)
          ∧ (e.status ≠ .lost → seq ≠ e.lastSeq → seq ≠ e.lastSeq + 1 →
              loaded e.lastAlert ∧ counts = { s.line.counters with
                reportGaps := min 255 (s.line.counters.reportGaps + 1) })

/-- An alert adds its kind to the summary and becomes the last alert kind; an ABSENT entry stays ABSENT (R27), and no inherited
cause is tested there, the model's choice (log 38). Ageing takes an entry to STALE and LOST and keeps its fields (R28, R29).
Ageing, and an alert at a held entry, test the inherited causes on the table they leave (R33). -/
def Obligations.AlertsAndAgeingOfAnEntry : Prop :=
  (∀ (s : State) (f : Frame) (rest : List Frame), s.line.rx = f :: rest → f.cls = .alert →
    ∃ t, exec .alertArrival s = .next t
      ∧ KeepsAllBut [.line, .peers, .faults] s t
      ∧ t.line = { s.line with rx := rest }
      ∧ ∀ m : Fin 15,
        (m.val ≠ f.src.toNat → t.peers[m] = s.peers[m])
        ∧ (s.peers[m] = none → t.peers[m] = none ∧ (m.val = f.src.toNat → t.faults = s.faults))
        ∧ ∀ e : PeerEntry, m.val = f.src.toNat → s.peers[m] = some e →
          InheritedTested s t
          ∧ ∃ e', t.peers[m] = some e' ∧ e'.status = e.status ∧ e'.age = e.age ∧ e'.lastSeq = e.lastSeq
            ∧ e'.lastAlert = some (FaultKind.ofNum f.kind)
            ∧ (∀ k : FaultKind, e'.vals.summary.getLsbD k.num
                = (e.vals.summary.getLsbD k.num || decide (k.num = f.kind.toNat)))
            ∧ { e'.vals with summary := e.vals.summary } = e.vals)
  ∧ (∀ (s : State) (n : Fin 15) (e : PeerEntry), s.peers[n] = some e →
    (e.status = .fresh → 20 * e.vals.period ≤ e.age →
      ∃ t, exec (.staleExpiry n) s = .next t ∧ KeepsAllBut [.peers, .faults] s t
        ∧ t.peers = s.peers.set n (some { e with status := .stale }) ∧ InheritedTested s t)
    ∧ (e.status ≠ .lost → 50 * e.vals.period ≤ e.age →
      ∃ t, exec (.lostExpiry n) s = .next t ∧ KeepsAllBut [.peers, .faults] s t
        ∧ t.peers = s.peers.set n (some { e with status := .lost }) ∧ InheritedTested s t))

/-- The machine view: the travel source and the DRIVE_CONFLICT cause (R31), the values and qualities of the own and of a
peer source (R32, R35, R45), BAD without a source (R31; for direction and pressure log 22), arms-down, brush-working and the
brush sum (R36 to R39). The own engine speed is BAD while ENGINE_SENSOR is active (R45), and on while the effect that outlasts
the cause stands (R161, log 23). The role-mask bits are those of R177. -/
def Obligations.ViewTakesTheSourceQuality : Prop :=
  ∀ s : State,
    let drives := fun n : Fin 15 => ∃ e, s.peers[n] = some e ∧ e.vals.mask.getLsbD 0 = true
    let own := populated .drv s = true
    let closing := s.drive.meas.closes < 5
    let shows := fun e : PeerEntry => (List.zip [1, 3] [e.vals.arm1, e.vals.arm2]).filterMap
      (fun x => if e.vals.mask.getLsbD x.1 then some x.2 else none)
    let turns := fun e : PeerEntry => (List.zip [2, 4] [e.vals.brush1, e.vals.brush2]).filterMap
      (fun x => if e.vals.mask.getLsbD x.1 then some x.2.toNat else none)
    (own → travelSource s = .own ∧ (driveConflict s = true ↔ ∃ n, drives n))
    ∧ (¬ own → (∀ n, travelSource s = .peer n ↔ drives n ∧ ∀ m, drives m → n ≤ m)
        ∧ (travelSource s = .none ↔ ∀ n, ¬ drives n)
        ∧ (driveConflict s = true ↔ ∃ m n, m ≠ n ∧ drives m ∧ drives n))
    ∧ (own →
        let q : Quality := if sticky .speedSensor s then .bad else if closing then .held else .good
        viewTravel s = ⟨s.drive.meas.v, q⟩
        ∧ viewDirection s = ⟨match s.drive.state with
            | .forward => some .forward
            | .reverse => some .reverse
            | _ => none, q⟩
        ∧ viewEngine s = ⟨s.drive.meas.nE,
            if active .engineSensor s = true ∨ s.drive.engineBad = true then .bad
            else if closing then .held else .good⟩
        ∧ viewPressure s = ⟨s.drive.pressure, if active .pressureInput s then .bad else .good⟩
        ∧ ownTravelQuality s = (viewTravel s).quality ∧ ownEngineQuality s = (viewEngine s).quality
        ∧ ownPressureQuality s = (viewPressure s).quality)
    ∧ (∀ (n : Fin 15) (e : PeerEntry), travelSource s = .peer n → s.peers[n] = some e →
        let q : Quality → Quality := fun r => match e.status with
          | .fresh => r
          | .stale => if r = .bad then .bad else .held
          | .lost => .bad
        let speedQ := if e.lastAlert = some .speedSensor then .bad else q e.vals.travelQ
        viewTravel s = ⟨e.vals.travel, speedQ⟩ ∧ viewDirection s = ⟨e.vals.direction, speedQ⟩
        ∧ viewEngine s = ⟨e.vals.engine, q e.vals.engineQ⟩
        ∧ viewPressure s = ⟨e.vals.pressure, q e.vals.pressureQ⟩)
    ∧ (travelSource s = .none → viewTravel s = ⟨0, .bad⟩ ∧ viewEngine s = ⟨0, .bad⟩
        ∧ (viewDirection s).quality = .bad ∧ (viewPressure s).quality = .bad)
    ∧ (armsDown s = true ↔
        (∃ n, populated (armChannel n) s = true ∧ (s.arm n).state ≠ .stowed)
        ∨ ∃ (n : Fin 15) (e : PeerEntry), s.peers[n] = some e ∧ ∃ a ∈ shows e, a ≠ .stowed)
    ∧ (brushWorking s = true ↔
        (∃ n, populated (armChannel n) s = true ∧ (s.arm n).state = .working)
        ∨ ∃ (n : Fin 15) (e : PeerEntry), s.peers[n] = some e ∧ e.status ≠ .lost ∧ .working ∈ shows e)
    ∧ (let mine := fun n : ArmId => if populated (brushChannel n) s then (s.arm n).command / 16 else 0
       let theirs := fun n : Fin 15 => match s.peers[n] with
         | some e => if e.status = .lost then 0 else (turns e).sum
         | none => 0
       (brushSum s).value
          = min 65535 (16 * (mine .one + mine .two + ((List.finRange 15).map theirs).sum))
       ∧ (brushSum s).quality ≠ .bad
       ∧ ((brushSum s).quality = .held ↔ ∃ (n : Fin 15) (e : PeerEntry),
            s.peers[n] = some e ∧ e.status = .stale ∧ turns e ≠ []))

/-! ### Requests -/

/-- SET_MODE SWEEP_DRY, SWEEP_WET or SERVICE in RUNNING: DONE with the mode in force, a mode change where the mode is
another one (R107, R108, R112, R113), REFUSED where SERVICE's preconditions fail, CONFLICT where another requester holds
STATION_MODE. A SERVICE's stow demand fails the RUNNING ARM_MOVE WORK of another requester, on an arm that lifts to resume
too (R78, R109); an argument that names no mode is REFUSED (R119, R122; that one of another length names none is read from the
rules, log 20). A request that acts supersedes the RUNNING entries
of its requester that hold STATION_MODE (R124), and a change to SERVICE ends the operations on the arms that its stow demand
moves (R78); every other entry stays (the value of a SET_MODE entry is never read, log 36). -/
def Obligations.SetModeToSweepOrService : Prop :=
  (∀ (s : State) (f : Frame) (rest : List Frame), Takes kindSetMode f rest s →
    s.start.station = .running → (∀ m : Mode, (requestOf f).args ≠ [BitVec.ofNat 8 m.code]) →
    exec .setMode s = .next (onlyAnswered f rest .refused (BitVec.ofNat 16 s.start.mode.code) s))
  ∧
  ∀ (s : State) (f : Frame) (rest : List Frame) (m : Mode) (b : StartBlock), Takes kindSetMode f rest s →
    modeArg (requestOf f).args = some m → m ≠ .transport → s.start.station = .running →
    s.start.image = some b →
    let held := s.req.table.any (fun e => e.state = .running && e.requester ≠ f.src && e.claims.stationMode)
    let allowed := m = .service → (populated .drv s = true → s.drive.state = .parked)
      ∧ (viewTravel s).quality ≠ .bad ∧ (viewTravel s).value.natAbs ≤ b.drive.stopSpeed
    (¬ allowed → exec .setMode s
        = .next (onlyAnswered f rest .refused (BitVec.ofNat 16 s.start.mode.code) s))
    ∧ (allowed → held = true → exec .setMode s
        = .next (onlyAnswered f rest .conflict (BitVec.ofNat 16 s.start.mode.code) s))
    ∧ (allowed → held = false →
      ∃ t, exec .setMode s = .next t
        ∧ KeepsAllBut [.start, .line, .req, .sp, .arm1, .arm2, .water] s t
        ∧ t.start = { s.start with mode := m } ∧ t.line.rx = rest
        ∧ Answers f .done (BitVec.ofNat 16 m.code) s t
        ∧ (∀ r ∈ [(s.sp.drv.ramp, t.sp.drv.ramp), (s.sp.wtr.ramp, t.sp.wtr.ramp),
              (s.sp.br1.ramp, t.sp.br1.ramp), (s.sp.br2.ramp, t.sp.br2.ramp)],
            s.start.mode ≠ m → r.2.setUp = false)
        ∧ (s.start.mode ≠ m → t.line.reportDue = true)
        ∧ t.sp.drv.ramp.out = s.sp.drv.ramp.out
        ∧ (m ≠ .service → t.arm1 = s.arm1 ∧ t.arm2 = s.arm2)
        ∧ (m ≠ .service ∨ s.start.mode = .service → t.req = { s.req with
            table := s.req.table.map (fun e => e.supersededBy f.src ⟨true, false, false⟩ s) })
        ∧ (m = .service → s.start.mode ≠ .service →
            let moved := fun (n : ArmId) (e : PendingEntry) =>
              if populated (armChannel n) s then
                match (s.arm n).state with
                | .stowed => e
                | .reverseLifted => e.endedBy n (some (.failed, 0)) (some (.done, 0)) none
                | .held => if sticky (armFault n) s then e else e.endedBy n (some (.failed, 3)) none none
                | _ => e.endedBy n (some (.failed, 3)) none none
              else e
            t.req.table.length = s.req.table.length ∧ t.req.outgoing = s.req.outgoing
            ∧ ∀ (i : Nat) (e : PendingEntry), s.req.table[i]? = some e →
              e.op ≠ .setTransport ∨ e.claims.stationMode = true →
              t.req.table[i]? = some (moved .two (moved .one (e.supersededBy f.src ⟨true, false, false⟩ s))))
        ∧ (m = .service → s.start.mode ≠ .service → ∀ n, populated (armChannel n) s = true →
            (t.arm n).state ≠ .lowering ∧ (t.arm n).state ≠ .working
              ∧ (t.arm n).state ≠ .reverseLifted)
        ∧ (m = .service → s.start.mode ≠ .service → ∀ (n : ArmId) (e : PendingEntry),
            populated (armChannel n) s = true → e ∈ s.req.table → e.state = .running →
            e.requester ≠ f.src → e.op = .armMove n .work →
            (e.claims = match n with
              | .one => ⟨false, true, false⟩
              | .two => ⟨false, false, true⟩) →
            ((s.arm n).state = .lowering ∨ (s.arm n).state = .working ∨ (s.arm n).state = .lifting) →
            { e with state := .failed, value := 3, claims := ⟨false, false, false⟩ } ∈ t.req.table)
        ∧ (m = .sweepWet → s.start.mode ≠ .sweepWet → populated .wtr s = true → t.water.enable = true)
        ∧ (m ≠ .sweepWet → s.start.mode ≠ m → populated .wtr s = true →
            t.water.enable = false ∧ t.water.state.active = false)
        ∧ (s.start.mode = m → t.water = s.water ∧ t.arm1 = s.arm1 ∧ t.arm2 = s.arm2 ∧ t.sp = s.sp))

/-- SET_MODE TRANSPORT in RUNNING: CONFLICT where its claims overlap a RUNNING entry of another requester, BUSY where it
needs an entry and none is free, both with no effect (R109, R110, R122); else every populated arm is demanded up, and the
answer is DONE, FAILED or PENDING on the arms as the demand left them (R79, R110). The RUNNING entries of its requester
whose claims overlap are superseded, and every other entry stays (R124). Where the mode was another one, it changes: every
ramp is not set up, the enable flag is clear, the water channel is not active and a report is due (R107, R110). The value
of the RUNNING entry it makes is the model's choice and never read (log 36). -/
def Obligations.SetModeTransportStowsTheArms : Prop :=
  ∀ (s : State) (f : Frame) (rest : List Frame), Takes kindSetMode f rest s →
    modeArg (requestOf f).args = some .transport → s.start.station = .running →
    let claims : Claims := ⟨true, populated .arm1 s, populated .arm2 s⟩
    let conflict := ∃ e ∈ s.req.table, e.state = .running ∧ e.requester ≠ f.src
      ∧ e.claims.overlap claims = true
    let needsEntry := (∃ n, populated (armChannel n) s = true ∧ (s.arm n).state ≠ .stowed
        ∧ (s.arm n).state ≠ .reverseLifted)
      ∧ ∀ n, populated (armChannel n) s = true →
        ¬ ((s.arm n).state = .held ∧ sticky (armFault n) s = true)
    let superseded := fun made : List PendingEntry => { s.req with
      table := s.req.table.map (fun e => e.supersededBy f.src claims s) ++ made }
    (conflict → exec .setMode s
      = .next (onlyAnswered f rest .conflict (BitVec.ofNat 16 s.start.mode.code) s))
    ∧ (¬ conflict → needsEntry → 4 ≤ s.req.table.length → exec .setMode s
      = .next (onlyAnswered f rest .busy (BitVec.ofNat 16 s.start.mode.code) s))
    ∧ (¬ conflict → (needsEntry → s.req.table.length < 4) →
    ∃ t, exec .setMode s = .next t
      ∧ KeepsAllBut [.start, .line, .req, .sp, .arm1, .arm2, .water] s t
      ∧ t.start = { s.start with mode := .transport } ∧ t.line.rx = rest
      ∧ (∀ n, populated (armChannel n) s = true →
        (t.arm n).state = (match (s.arm n).state with
          | .stowed => .stowed
          | .lowering => .lifting
          | .working => .lifting
          | .lifting => .lifting
          | .reverseLifted => .stowed
          | .held => if sticky (armFault n) s then .held else .lifting)
        ∧ ((t.arm n).state = .lifting → (t.arm n).resume = false)
        ∧ ((s.arm n).state = .lifting → (t.arm n).moveTimer = (s.arm n).moveTimer)
        ∧ ((s.arm n).state = .working → (t.arm n).command = 0))
      ∧ (∀ n, populated (armChannel n) s = false → t.arm n = s.arm n)
      ∧ ((∀ n, populated (armChannel n) s = true → (t.arm n).state = .stowed) →
          Answers f .done 0 s t ∧ t.req = superseded [])
      ∧ ((∃ n, populated (armChannel n) s = true ∧ (t.arm n).state = .held) →
          Answers f .failed 0 s t ∧ t.req = superseded [])
      ∧ ((∃ n, populated (armChannel n) s = true ∧ (t.arm n).state = .lifting) →
          (∀ n, populated (armChannel n) s = true → (t.arm n).state ≠ .held) →
          Answers f .pending 0 s t
          ∧ t.req = superseded [⟨f.src, (requestOf f).tag, .setTransport, claims, .running, 0, 0⟩])
      ∧ (s.start.mode ≠ .transport →
          (∀ r ∈ [t.sp.drv.ramp, t.sp.br1.ramp, t.sp.br2.ramp, t.sp.wtr.ramp], r.setUp = false)
          ∧ t.sp.drv.ramp.out = s.sp.drv.ramp.out ∧ t.line.reportDue = true
          ∧ (populated .wtr s = true → t.water.enable = false ∧ t.water.state.active = false))
      ∧ (s.start.mode = .transport → t.water = s.water ∧ t.sp.drv = s.sp.drv ∧ t.sp.wtr = s.sp.wtr))

/-- ARM_MOVE of a populated arm in RUNNING, by target and arm state: the already held target, the preconditions, the
conflict, the room, and the move (R73, R74, R75, R122). A request that acts supersedes the RUNNING entries of its requester
that claim the arm, each with the value of its arm and without claims, and every other entry stays (R124). One that names no
arm is REFUSED; the state code in bits 3 to 0 of its value is free (log 7) and the other bits are 0 (R178). The value of the
RUNNING entry it makes is the model's choice and never read (log 36). -/
def Obligations.ArmMoveMovesTheArm : Prop :=
  (∀ (s : State) (f : Frame) (rest : List Frame), Takes kindArmMove f rest s →
    s.start.station = .running → armArg (requestOf f).args = none →
    ∃ code : Nibble, exec .armMove s
      = .next ((onlyAnswered f rest .refused (0#12 ++ code) s).withFree (s.free + 1)))
  ∧ ∀ (s : State) (f : Frame) (rest : List Frame) (n : ArmId) (b : StartBlock), Takes kindArmMove f rest s →
    armArg (requestOf f).args = some n → populated (armChannel n) s = true →
    s.start.station = .running → s.start.image = some b →
    let code := fun t : State => BitVec.ofNat 16 (t.arm n).state.code
    let claims : Claims := match n with
      | .one => ⟨false, true, false⟩
      | .two => ⟨false, false, true⟩
    let taken := s.req.table.any
      (fun e => e.state = .running && e.requester ≠ f.src && e.claims.overlap claims)
    let superseded := s.req.table.map (fun e => e.supersededBy f.src claims s)
    let entry := fun (t : State) (target : Target) => t.req = { s.req with
      table := superseded ++ [⟨f.src, (requestOf f).tag, .armMove n target, claims, .running, 0, 0⟩] }
    (targetArg (requestOf f).args = none →
      exec .armMove s = .next (onlyAnswered f rest .refused (code s) s))
    ∧ ∀ target, targetArg (requestOf f).args = some target →
      let there := (target = .work ∧ (s.arm n).state = .working)
        ∨ (target = .stow ∧ (s.arm n).state = .stowed)
      let tripped := (s.arm n).state = .held ∧ sticky (armFault n) s = true
      let allowed := (target = .work → lowerAllowed b n s = true) ∧ ¬ tripped
      let atOnce := target = .stow ∧ (s.arm n).state = .reverseLifted
      (there → ∃ t, exec .armMove s = .next t ∧ KeepsAllBut [.line] s t ∧ Answers f .done (code s) s t)
      ∧ (¬ there → ¬ allowed →
          exec .armMove s = .next (onlyAnswered f rest .refused (code s) s))
      ∧ (¬ there → allowed → taken = true →
          exec .armMove s = .next (onlyAnswered f rest .conflict (code s) s))
      ∧ (¬ there → allowed → taken = false → ¬ atOnce → s.req.table.length ≥ 4 →
          exec .armMove s = .next (onlyAnswered f rest .busy (code s) s))
      ∧ (¬ there → allowed → taken = false → (atOnce ∨ s.req.table.length < 4) →
        ∃ t, exec .armMove s = .next t
          ∧ KeepsAllBut [.line, .req, .sp, armPart n] s t
          ∧ t.line.rx = rest
          ∧ (target = .stow ∨ (s.arm n).state ≠ .lowering → (t.arm n).resume = false)
          ∧ (target = .work → (t.arm n).state = .lowering ∧ Answers f .pending 1 s t ∧ entry t .work
              ∧ (t.arm n).moveTimer
                = (if (s.arm n).state = .lowering then (s.arm n).moveTimer else some 0))
          ∧ (target = .stow → ¬ atOnce → (t.arm n).state = .lifting ∧ Answers f .pending 3 s t
              ∧ entry t .stow ∧ (t.arm n).command = (if (s.arm n).state = .working then 0
                else (s.arm n).command)
              ∧ (t.arm n).moveTimer
                = (if (s.arm n).state = .lifting then (s.arm n).moveTimer else some 0))
          ∧ (atOnce → (t.arm n).state = .stowed ∧ Answers f .done 0 s t
              ∧ t.req = { s.req with table := superseded }))

/-- WATER_SET writes the enable flag in SWEEP_WET; clearing it takes an active channel to OFF (R94, R96, R128). An argument
that is neither on nor off is REFUSED (R94, R122; that one of another length is, as out of range, is read from the rules,
log 20). -/
def Obligations.WaterSetWritesTheFlag : Prop :=
  (∀ (s : State) (f : Frame) (rest : List Frame), Takes kindWaterSet f rest s → populated .wtr s = true →
    (requestOf f).args ≠ [0] → (requestOf f).args ≠ [1] →
    exec .waterSet s = .next (onlyAnswered f rest .refused (if s.water.enable then 1 else 0) s))
  ∧ ∀ (s : State) (f : Frame) (rest : List Frame) (on : Bool), Takes kindWaterSet f rest s →
    (requestOf f).args = [if on then 1 else 0] → populated .wtr s = true → s.start.station = .running →
    (s.start.mode ≠ .sweepWet → exec .waterSet s
      = .next (onlyAnswered f rest .refused (if s.water.enable then 1 else 0) s))
    ∧ (s.start.mode = .sweepWet →
      ∃ t, exec .waterSet s = .next t
        ∧ KeepsAllBut [.line, .sp, .water] s t
        ∧ t.line.rx = rest ∧ t.water.enable = on
        ∧ Answers f .done (if on then 1 else 0) s t
        ∧ (on = true → t.water = { s.water with enable := true } ∧ t.sp = s.sp)
        ∧ (on = false → s.water.state.active = true →
            t.water.state = .off ∧ t.water.pump = 0 ∧ t.water.valves = 0 ∧ t.sp.wtr.ramp.out = 0
              ∧ t.water.dryCount = s.water.dryCount)
        ∧ (on = false → s.water.state.active = false →
            t.water = { s.water with enable := false } ∧ t.sp = s.sp))

/-- TRIM_SET exchanges the trim of the named brush and answers with the trim held before (R88, R128). One that names no
brush, or a value above 4095 at a populated brush, is REFUSED with the value 0 (R119, R120, R122; that an argument of
another length names none is read from the rules, log 20). -/
def Obligations.TrimSetExchangesTheTrim : Prop :=
  (∀ (s : State) (f : Frame) (rest : List Frame), Takes kindTrimSet f rest s →
    ((∀ c hi lo : Byte, (requestOf f).args = [c, hi, lo] → c ≠ 1 ∧ c ≠ 2) →
      exec .trimSet s = .next (onlyAnswered f rest .refused 0 s))
    ∧ (∀ hi lo : Byte, populated .br1 s = true → (requestOf f).args = [1, hi, lo] →
        4095 < 256 * hi.toNat + lo.toNat → exec .trimSet s = .next (onlyAnswered f rest .refused 0 s))
    ∧ (∀ hi lo : Byte, populated .br2 s = true → (requestOf f).args = [2, hi, lo] →
        4095 < 256 * hi.toNat + lo.toNat → exec .trimSet s = .next (onlyAnswered f rest .refused 0 s)))
  ∧ ∀ (s : State) (f : Frame) (rest : List Frame) (n : ArmId) (v : Nat) (hi lo : Byte),
    Takes kindTrimSet f rest s →
    (requestOf f).args = [match n with
      | .one => 1
      | .two => 2, hi, lo] →
    v = 256 * hi.toNat + lo.toNat → v ≤ 4095 →
    populated (brushChannel n) s = true → s.start.station = .running →
    ∃ t, exec .trimSet s = .next t
      ∧ KeepsAllBut [.line, armPart n] s t
      ∧ t.arm n = { s.arm n with trim := v }
      ∧ t.line.rx = rest ∧ t.line.requests = s.line.requests ∧ t.line.alertSlot = s.line.alertSlot
      ∧ Answers f .done (BitVec.ofNat 16 (s.arm n).trim) s t

/-- FAULT_CLEAR removes the masked kinds that are not active, answers with the sticky set after it, and resets the dry
count where WATER_DRY is masked and gone (R102, R129, R159). An argument that is not two bytes long is REFUSED (R119,
R122; read from the rules, log 20). -/
def Obligations.FaultClearRemovesPassedCauses : Prop :=
  (∀ (s : State) (f : Frame) (rest : List Frame), Takes kindFaultClear f rest s →
    (requestOf f).args.length ≠ 2 →
    exec .faultClear s = .next (onlyAnswered f rest .refused s.faults.sticky s))
  ∧ ∀ (s : State) (f : Frame) (rest : List Frame) (mask : FaultSet) (hi lo : Byte),
    Takes kindFaultClear f rest s → (requestOf f).args = [hi, lo] →
    mask.toNat = 256 * hi.toNat + lo.toNat → s.start.station = .running →
    ∃ t, exec .faultClear s = .next t
      ∧ KeepsAllBut [.line, .sp, .water, .faults] s t
      ∧ t.line.rx = rest ∧ t.line.alertSlot = s.line.alertSlot
      ∧ (∀ k : FaultKind, sticky k t = (sticky k s && !(mask.getLsbD k.num && !active k s)))
      ∧ (∀ k : FaultKind, active k t = active k s)
      ∧ Answers f .done t.faults.sticky s t
      ∧ (mask.getLsbD 7 = true → sticky .waterDry t = false →
          t.water.dryCount = 0 ∧ (s.water.state = .dryLocked → t.water.state = .off)
            ∧ (s.water.state ≠ .dryLocked → t.water = { s.water with dryCount := 0 }))
      ∧ (mask.getLsbD 7 = false ∨ sticky .waterDry t = true → t.water = s.water ∧ t.sp = s.sp)

/-- QUERY answers DONE with the item's value as it stands, in every station state, and changes nothing but the queues; its
answer is held behind a report that is due or on the line (R121, R130, R146; one that a restart caught on the line counts as
any other, log 33). An argument that names no item is REFUSED (R119, R122; that one of another length names none is read
from the rules, log 20). -/
def Obligations.QueryAnswersItsItem : Prop :=
  ∀ (s : State) (f : Frame) (rest : List Frame), Takes kindQuery f rest s →
    let named := fun item : Byte => item.toNat ≤ 30 ∨ (32 ≤ item.toNat ∧ item.toNat ≤ 46)
    let reporting := s.line.onLine.map Sending.owner = some .report
    ((∀ item : Byte, named item → (requestOf f).args ≠ [item]) →
      exec .query s = .next (onlyAnswered f rest .refused 0 s))
    ∧ ∀ item : Byte, (requestOf f).args = [item] → named item →
      ∃ mark, exec .query s = .next (s.withLine { s.line with
          rx := rest
          answers := s.line.answers
            ++ [⟨f.src, (requestOf f).tag, f.kind, .done, itemValue item.toNat s, mark, false⟩] })
        ∧ (s.line.reportDue = true → ¬ reporting → mark = some s.line.seq)
        ∧ (s.line.reportDue = false → reporting → mark = some s.line.seq)
        ∧ (s.line.reportDue = true → reporting → mark = some (s.line.seq + 1))
        ∧ (s.line.reportDue = false → ¬ reporting → mark = none)

/-- The layout of the QUERY values (R178), the codes they carry (R106, R177, R178), the fault kind numbers (R156) and the
result codes of an answer (R176). -/
def Obligations.QueryItemLayout : Prop :=
  ([StationState.failedStart, .listening, .running, .silenced].map StationState.code = [1, 2, 3, 4]
    ∧ [Mode.transport, .sweepDry, .sweepWet, .service].map Mode.code = [0, 1, 2, 3]
    ∧ [DriveState.parked, .neutral, .forward, .reverse, .changing, .tripped].map DriveState.code
        = [0, 1, 2, 3, 4, 5]
    ∧ [ArmState.stowed, .lowering, .working, .lifting, .reverseLifted, .held].map ArmState.code
        = [0, 1, 2, 3, 4, 5]
    ∧ [WaterState.off, .priming, .spraying, .dryWait, .dryLocked].map WaterState.code = [0, 1, 2, 3, 4]
    ∧ [EntryState.fresh, .stale, .lost].map EntryState.code = [1, 2, 3]
    ∧ [none, some Direction.forward, some .reverse].map directionCode = [0, 1, 2]
    ∧ [Result.done, .pending, .busy, .conflict, .mismatch, .refused, .failed, .unknown, .superseded].map
        Result.code = List.range 9
    ∧ [FaultKind.pedalInput, .dirInput, .speedSensor, .engineSensor, .pressureInput, .arm1Fault, .arm2Fault,
        .waterDry, .waterInput, .travelLost, .engineLost, .driveConflict, .requestLost, .tankLow, .lineFault,
        .configBad].map FaultKind.num = List.range 16
    ∧ (∀ code : Nibble, (FaultKind.ofNum code).num = code.toNat))
  ∧ ∀ s : State,
    (∀ k : FaultKind, (itemValue 0 s).getLsbD k.num = sticky k s ∧ (itemValue 1 s).getLsbD k.num = active k s) ∧
    itemValue 0 s = s.faults.sticky ∧ itemValue 1 s = s.faults.active
    ∧ (countersHeld s.line.counters →
        (itemValue 2 s).toNat = s.line.counters.checkErrors
        ∧ (itemValue 3 s).toNat = s.line.counters.missedFrames
        ∧ (itemValue 4 s).toNat = s.line.counters.duplicateReports
        ∧ (itemValue 5 s).toNat = s.line.counters.reportGaps
        ∧ (itemValue 6 s).toNat = s.line.counters.orphanedOps
        ∧ (itemValue 7 s).toNat = s.line.counters.unmatchedAnswers)
    ∧ (s.start.station ≠ .failedStart →
        (itemValue 8 s).toNat = s.start.station.code * 256 + s.start.mode.code)
    ∧ (s.start.station = .failedStart → (itemValue 8 s).toNat = 256 + 3)
    ∧ (0 ≤ s.sp.drv.ramp.out → s.sp.drv.ramp.out ≤ 1500 →
        (itemValue 9 s).toNat = s.drive.state.code * 4096 + s.sp.drv.ramp.out.toNat)
    ∧ (-1500 ≤ s.sp.drv.ramp.out → s.sp.drv.ramp.out < 0 →
        (itemValue 9 s).toNat = s.drive.state.code * 4096 + (4096 + s.sp.drv.ramp.out).toNat)
    ∧ (itemValue 10 s).toNat = s.arm1.state.code * 4096 + s.arm1.position.toNat
    ∧ (itemValue 11 s).toNat = s.arm2.state.code * 4096 + s.arm2.position.toNat
    ∧ (s.water.dryCount ≤ 2 →
        (itemValue 12 s).toNat = s.water.state.code * 256 + s.water.dryCount)
    ∧ (∀ n : Fin 15,
        ((itemValue 13 s).getLsbD n.val = true ↔ ∃ e, s.peers[n] = some e ∧ e.status = .fresh)
        ∧ ((itemValue 14 s).getLsbD n.val = true ↔ ∃ e, s.peers[n] = some e ∧ e.status = .lost)
        ∧ (s.peers[n] = none → itemValue (16 + n.val) s = 0 ∧ itemValue (32 + n.val) s = 0)
        ∧ (∀ e, s.peers[n] = some e →
            (itemValue (16 + n.val) s).toNat = e.status.code * 16384 + e.vals.mode.code * 4096
              + e.vals.water.code * 256 + (directionCode e.vals.direction).toNat * 64
              + e.vals.mask.toNat
            ∧ itemValue (32 + n.val) s = e.vals.summary))
    ∧ (itemValue 13 s).getLsbD 15 = false ∧ (itemValue 14 s).getLsbD 15 = false
    ∧ (itemValue 15 s).toNat
        = s.sp.drv.pedalClamp.low.toNat + s.sp.drv.pedalClamp.high.toNat * 2
          + s.sp.drv.feedClamp.low.toNat * 4 + s.sp.drv.feedClamp.high.toNat * 8
          + s.sp.br1.clamp.low.toNat * 16 + s.sp.br1.clamp.high.toNat * 32
          + s.sp.br2.clamp.low.toNat * 64 + s.sp.br2.clamp.high.toNat * 128
          + s.sp.wtr.clamp.low.toNat * 256 + s.sp.wtr.clamp.high.toNat * 512
          + s.sp.br1.sat.toNat * 1024 + s.sp.br2.sat.toNat * 2048 + s.sp.wtr.sat.toNat * 4096

/-- RESTART by station state and mode (R131), its DONE answer with the mark of R146 (log 33), and the warm restart of R175
and the reload of R172, each block by block, which need no place in the answer queue and take place whatever it holds
(R148); a frame on the line goes on and reaches no block (R153), but a report stays one, whose end steps the sequence
counter (R151, log 33). A RESTART with an argument is REFUSED (R119, R122; read from the rules, log 20), in SILENCED and
FAILED_START too, which is the model's choice (log 19). -/
def Obligations.RestartByStationState : Prop :=
  ∀ (s : State) (f : Frame) (rest : List Frame) (straps : Straps), Reaches kindRestart f rest s →
    findEntry f.src (requestOf f).tag s = none →
    (s.line.answers.length < 4 → (requestOf f).args ≠ [] →
      exec (.restart straps) s = .next (onlyAnswered f rest .refused 0 s))
    ∧ ((requestOf f).args = [] →
      (s.line.answers.length < 4 → s.start.station = .running → s.start.mode ≠ .service →
        exec (.restart straps) s = .next (onlyAnswered f rest .refused 0 s))
      ∧ (s.line.answers.length < 4 → s.start.station = .listening →
        exec (.restart straps) s = .next (onlyAnswered f rest .refused 0 s))
      ∧ (s.line.answers.length < 4 → s.start.station = .running → s.start.mode = .service →
        exec (.restart straps) s = .next (s.withLine { s.line with
          rx := rest
          answers := s.line.answers
            ++ [⟨f.src, (requestOf f).tag, f.kind, .done, 0, markOf .done s, true⟩] }))
      ∧ (s.start.station = .silenced →
        ∃ t, exec (.restart straps) s = .next t ∧ WarmRestarted s t
          ∧ t.line.onLine = s.line.onLine.map
              (fun x => if x.owner = .report then x else { x with owner := .orphan })
          ∧ t.line.guardTime = s.line.guardTime)
      ∧ (s.start.station = .failedStart →
        ∃ t, exec (.restart straps) s = .next t ∧ Reloaded straps s t))

/-- A request of an unnamed kind is UNKNOWN with value 0, whatever its length, and so is one that names a channel the role
does not populate, in every station state (R119, R122, R176). The tag of a request is the low half of its first payload byte
and its argument the bytes after it; the arm, target, brush and mode that an argument names are those of R119 and R176, and an
argument of another length names none (read from the rules, log 20). The roles
populate their channels as the bits of R177 give it. -/
def Obligations.UnsupportedRequestsAreUnknown : Prop :=
  (∀ f : Frame, (requestOf f).src = f.src ∧ (requestOf f).kind = f.kind
    ∧ (requestOf f).tag.toNat = (f.payload.getD 0 0).toNat % 16 ∧ (requestOf f).args = f.payload.drop 1)
  ∧ (∀ args : List Byte,
    (∀ n, armArg args = some n ↔ ∃ target, args = [match n with
      | .one => 1
      | .two => 2, target])
    ∧ (∀ target, targetArg args = some target ↔ ∃ arm, args = [arm, match target with
      | .stow => 0
      | .work => 1])
    ∧ (∀ m : Mode, modeArg args = some m ↔ args = [BitVec.ofNat 8 m.code])
    ∧ (∀ n, brushArg args = some n ↔ ∃ hi lo, args = [match n with
      | .one => 1
      | .two => 2, hi, lo]))
  ∧ (∀ s : State,
    let mask : BitVec 6 := [0b000000, 0b000001, 0b011110, 0b000110, 0b100000, 0b111110, 0b100001,
      0b111111].getD s.start.role.toNat 0
    ([Channel.drv, .arm1, .br1, .arm2, .br2, .wtr].map (fun c => populated c s)
      = (List.range 6).map mask.getLsbD)
    ∧ (armChannel .one, brushChannel .one) = (.arm1, .br1)
    ∧ (armChannel .two, brushChannel .two) = (.arm2, .br2))
  ∧
  (∀ (s : State) (f : Frame) (rest : List Frame), Takes f.kind f rest s →
      (f.kind.toNat = 0 ∨ 8 ≤ f.kind.toNat) →
      exec .unknownRequestKind s = .next (onlyAnswered f rest .unknown 0 s))
  ∧ (∀ (s : State) (f : Frame) (rest : List Frame),
      (∀ n, Takes kindArmMove f rest s → armArg (requestOf f).args = some n →
        populated (armChannel n) s = false →
        exec .armMove s = .next (onlyAnswered f rest .unknown 0 s))
      ∧ (Takes kindWaterSet f rest s → populated .wtr s = false →
        exec .waterSet s = .next (onlyAnswered f rest .unknown (if s.water.enable then 1 else 0) s))
      ∧ (∀ n, Takes kindTrimSet f rest s → brushArg (requestOf f).args = some n →
        populated (brushChannel n) s = false →
        exec .trimSet s = .next (onlyAnswered f rest .unknown 0 s)))

/-- Outside RUNNING every kind but QUERY and RESTART is REFUSED and changes nothing but the queues (R121). An ARM_MOVE
that names no arm is REFUSED with a free state code in bits 3 to 0 of its value (log 7) and 0 in the others (R178). -/
def Obligations.RequestsOutsideRunningAreRefused : Prop :=
  ∀ (s : State) (f : Frame) (rest : List Frame), s.start.station ≠ .running →
    (Takes kindSetMode f rest s →
      exec .setMode s = .next (onlyAnswered f rest .refused (BitVec.ofNat 16 s.start.mode.code) s))
    ∧ (∀ n, Takes kindArmMove f rest s → armArg (requestOf f).args = some n →
      populated (armChannel n) s = true →
      exec .armMove s
        = .next (onlyAnswered f rest .refused (BitVec.ofNat 16 (s.arm n).state.code) s))
    ∧ (Takes kindArmMove f rest s → armArg (requestOf f).args = none →
      ∃ code : Nibble, exec .armMove s
        = .next ((onlyAnswered f rest .refused (0#12 ++ code) s).withFree (s.free + 1)))
    ∧ (Takes kindWaterSet f rest s → populated .wtr s = true →
      exec .waterSet s
        = .next (onlyAnswered f rest .refused (if s.water.enable then 1 else 0) s))
    ∧ (∀ n, Takes kindTrimSet f rest s → brushArg (requestOf f).args = some n →
      populated (brushChannel n) s = true →
      exec .trimSet s = .next (onlyAnswered f rest .refused 0 s))
    ∧ (Takes kindFaultClear f rest s →
      exec .faultClear s = .next (onlyAnswered f rest .refused s.faults.sticky s))

/-- A repeat of an ARM_MOVE or of a SET_MODE TRANSPORT is answered from its entry: PENDING refreshes a RUNNING entry, a
finished entry is answered and freed, and another kind or argument is a MISMATCH with the value of R120 by its own kind, a
RESTART in SILENCED too (R108, R121, R123; that it then neither restarts nor is taken without an answer is the model's
choice, log 19). A request of any kind to or from 15, or without a tag byte, is discarded without an answer or a count (R119,
R176). One that finds no place for its answer is dropped and counted, whatever its kind (R148), but for the RESTART that is
taken without an answer (R131). The discard of an entry at its time removes it, and a RUNNING one is counted as orphaned
(R127). -/
def Obligations.PendingEntriesAnswerAndExpire : Prop :=
  (∀ (s : State) (f : Frame) (rest : List Frame) (c : Instr), s.line.rx = f :: rest → f.cls = .request →
      TakesKind c f.kind →
      let silent := (∃ straps, c = .restart straps)
        ∧ (s.start.station = .silenced ∨ s.start.station = .failedStart)
        ∧ findEntry f.src (requestOf f).tag s = none ∧ (requestOf f).args = []
      (f.dst = 15 ∨ f.src = 15 ∨ f.payload = [] →
        exec c s = .next (s.withLine { s.line with rx := rest }))
      ∧ (f.dst ≠ 15 → f.src ≠ 15 → f.payload ≠ [] → 4 ≤ s.line.answers.length → ¬ silent →
        exec c s = .next (s.withLine { s.line with
          rx := rest
          counters := { s.line.counters with
            missedFrames := min 255 (s.line.counters.missedFrames + 1) } })))
  ∧ (∀ (s : State) (requester tag : Nibble),
      (findEntry requester tag s = none ↔ ∀ e ∈ s.req.table, ¬ (e.requester = requester ∧ e.tag = tag))
      ∧ ∀ e, findEntry requester tag s = some e →
        e ∈ s.req.table ∧ e.requester = requester ∧ e.tag = tag)
  ∧ (∀ (s : State) (f : Frame) (rest : List Frame) (e : PendingEntry) (n : ArmId) (target : Target),
      Reaches kindArmMove f rest s →
      s.line.answers.length < 4 → findEntry f.src (requestOf f).tag s = some e →
        e.op = .armMove n target →
        let same := armArg (requestOf f).args = some n ∧ targetArg (requestOf f).args = some target
        (¬ same → exec .armMove s = .next (onlyAnswered f rest .mismatch 0 s))
        ∧ (same → ∃ t, exec .armMove s = .next t
          ∧ KeepsAllBut [.line, .req] s t
          ∧ t.line.rx = rest
          ∧ (e.state = .running →
              Answers f .pending (BitVec.ofNat 16 (s.arm n).state.code) s t
              ∧ t.req.table = s.req.table.map (fun x =>
                  if x.requester = f.src ∧ x.tag = (requestOf f).tag then { x with time := 0 } else x))
          ∧ (e.state ≠ .running →
              t.req.table = s.req.table.filter
                (fun x => !(x.requester = f.src && x.tag = (requestOf f).tag)))
          ∧ (e.state = .done → Answers f .done e.value s t)
          ∧ (e.state = .failed → Answers f .failed e.value s t)
          ∧ (e.state = .superseded → Answers f .superseded e.value s t)))
  ∧ (∀ (s : State) (f : Frame) (rest : List Frame) (e : PendingEntry),
      Reaches kindSetMode f rest s → s.line.answers.length < 4 → findEntry f.src (requestOf f).tag s = some e →
      e.op = .setTransport →
      let mode := BitVec.ofNat 16 s.start.mode.code
      ((requestOf f).args ≠ [0] → exec .setMode s = .next (onlyAnswered f rest .mismatch mode s))
      ∧ ((requestOf f).args = [0] → ∃ t, exec .setMode s = .next t
        ∧ KeepsAllBut [.line, .req] s t
        ∧ t.line.rx = rest
        ∧ (e.state = .running → Answers f .pending mode s t
            ∧ t.req.table = s.req.table.map (fun x =>
                if x.requester = f.src ∧ x.tag = (requestOf f).tag then { x with time := 0 } else x))
        ∧ (e.state ≠ .running → t.req.table = s.req.table.filter
              (fun x => !(x.requester = f.src && x.tag = (requestOf f).tag)))
        ∧ (e.state = .done → Answers f .done mode s t)
        ∧ (e.state = .failed → Answers f .failed mode s t)
        ∧ (e.state = .superseded → Answers f .superseded mode s t)))
  ∧ (∀ (s : State) (f : Frame) (rest : List Frame) (e : PendingEntry) (c : Instr) (value : Word)
        (straps : Straps),
      Reaches f.kind f rest s → s.line.answers.length < 4 → findEntry f.src (requestOf f).tag s = some e →
      (f.kind = kindSetMode ∧ e.op ≠ .setTransport ∧ c = .setMode
          ∧ value = BitVec.ofNat 16 s.start.mode.code)
        ∨ (f.kind = kindArmMove ∧ e.op = .setTransport ∧ c = .armMove ∧ value = 0)
        ∨ (f.kind = kindWaterSet ∧ c = .waterSet ∧ value = (if s.water.enable then 1 else 0))
        ∨ (f.kind = kindTrimSet ∧ c = .trimSet ∧ value = 0)
        ∨ (f.kind = kindFaultClear ∧ c = .faultClear ∧ value = s.faults.sticky)
        ∨ (f.kind = kindQuery ∧ c = .query ∧ value = 0)
        ∨ (f.kind = kindRestart ∧ c = .restart straps ∧ value = 0)
        ∨ ((f.kind = 0 ∨ 8 ≤ f.kind.toNat) ∧ c = .unknownRequestKind ∧ value = 0) →
      exec c s = .next (onlyAnswered f rest .mismatch value s))
  ∧ (∀ (s : State) (b : StartBlock) (requester tag : Nibble) (e : PendingEntry),
      s.start.image = some b → findEntry requester tag s = some e → b.line.discardTime ≤ e.time →
      ∃ t, exec (.entryDiscard requester tag) s = .next t
        ∧ KeepsAllBut [.line, .req] s t
        ∧ t.req = { s.req with
            table := s.req.table.filter (fun x => !(x.requester = requester && x.tag = tag)) }
        ∧ (e.state = .running → t.line = { s.line with counters := { s.line.counters with
            orphanedOps := min 255 (s.line.counters.orphanedOps + 1) } })
        ∧ (e.state ≠ .running → t.line = s.line))

/-- Every step keeps PendingLaw: at most 4 entries, no two under one requester and tag, no resource claimed twice. -/
def Obligations.EveryStepKeepsThePendingLaw : Prop :=
  ∀ s t : State, PendingLaw s → step s = .next t → PendingLaw t

/-! ### Switches and the outgoing table -/

/-- Switches: a raw level starts, keeps or stops the settling timer; outside LISTENING, RUNNING and SILENCED only the pin
changes (R132). A settled level is an edge: in RUNNING each used slot replaces the earlier entry of the same switch and
destination by a new QUEUED entry under a fresh tag, or raises REQUEST_LOST where the table is full, slot 0 first, and the two
requests of one edge do not remove each other; the frames of removed entries are withdrawn, and no other frame is. A fresh tag
is the first from the counter on, modulo 16, that no entry holds (R133, R134). In every other state the
edge makes no request. A request has the argument bytes that R176 gives its kind; those of a kind that R176 does not name
are as many as a free value says (log 9). -/
def Obligations.SwitchesSettleAndMakeRequests : Prop :=
  ([1, 2, 3, 4, 5, 6, 7].map argBytes = [1, 2, 1, 3, 2, 1, 0])
  ∧
  (∀ (i : Fin 8) (level : Bool) (s : State),
      ∃ t, exec (.switchLevelChange i level) s = .next t
        ∧ KeepsAllBut [.req] s t
        ∧ t.req.table = s.req.table ∧ t.req.outgoing = s.req.outgoing ∧ t.req.nextTag = s.req.nextTag
        ∧ (∀ j : Fin 8, j ≠ i → t.req.switches[j] = s.req.switches[j])
        ∧ (t.req.switches[i]).raw = level
        ∧ (t.req.switches[i]).level = (s.req.switches[i]).level
        ∧ (periodsRun s = true → level = (s.req.switches[i]).level → (t.req.switches[i]).settle = none)
        ∧ (periodsRun s = true → level ≠ (s.req.switches[i]).level → (s.req.switches[i]).settle = none →
            (t.req.switches[i]).settle = some 0)
        ∧ (∀ ms, periodsRun s = true → level ≠ (s.req.switches[i]).level →
            (s.req.switches[i]).settle = some ms → (t.req.switches[i]).settle = some ms)
        ∧ (periodsRun s = false → (t.req.switches[i]).settle = (s.req.switches[i]).settle))
  ∧ (∀ (i : Fin 8) (s : State) (b : StartBlock) (ms : Nat), s.start.image = some b →
      (s.req.switches[i]).settle = some ms → 20 ≤ ms →
      (s.req.outgoing.map OutgoingEntry.tag).Nodup →
      let d := s.req.switches[i]
      let k := 4 * i.val + 2 * (if d.raw then 0 else 1)
      ∃ t, exec (.settlingTimerExpiry i) s = .next t
        ∧ KeepsAllBut [.line, .req, .faults] s t
        ∧ t.req.table = s.req.table
        ∧ t.req.switches[i] = ⟨d.raw, d.raw, none⟩
        ∧ (∀ j : Fin 8, j ≠ i → t.req.switches[j] = s.req.switches[j])
        ∧ { t.line with requests := s.line.requests, onLine := s.line.onLine } = s.line
        ∧ (s.line.onLine = none → t.line.onLine = none)
        ∧ (∀ k : FaultKind, active k t = active k s)
        ∧ (∀ k : FaultKind, k ≠ .requestLost → sticky k t = sticky k s)
        ∧ (s.start.station ≠ .running → t.req.outgoing = s.req.outgoing ∧ t.req.nextTag = s.req.nextTag
            ∧ t.line = s.line ∧ t.faults = s.faults)
        ∧ (s.start.station = .running → b.switchMap.getD k none = none →
            b.switchMap.getD (k + 1) none = none →
            t.req.outgoing = s.req.outgoing ∧ t.req.nextTag = s.req.nextTag ∧ t.line = s.line
              ∧ t.faults = s.faults)
        ∧ (let made := fun (x : SwitchSlot) (tag : Nibble) =>
             (⟨i, d.raw, x.dest, x.kind, x.args.take (argBytes x.kind), tag, b.line.repeatLimit, .queued,
               none⟩ : OutgoingEntry)
           let frame := fun (x : SwitchSlot) (tag : Nibble) =>
             (⟨x.dest, tag, x.kind, x.args.take (argBytes x.kind)⟩ : QueuedRequest)
           let earlier := fun (x : SwitchSlot) (e : OutgoingEntry) => decide (e.switch = i ∧ e.dest = x.dest)
           let kept := fun (x : SwitchSlot) (l : List OutgoingEntry) => l.filter (fun e => !earlier x e)
           (∀ x : SwitchSlot, s.start.station = .running →
              (b.switchMap.getD k none = some x ∧ b.switchMap.getD (k + 1) none = none)
                ∨ (b.switchMap.getD k none = none ∧ b.switchMap.getD (k + 1) none = some x) →
              let first := kept x s.req.outgoing
              let gone := (s.req.outgoing.filter (earlier x)).map OutgoingEntry.tag
              let waiting := s.line.requests.filter (fun q => !gone.contains q.tag)
              (first.length < 4 → ∃ tag : Nibble,
                IsFreshTag (first.map OutgoingEntry.tag) s.req.nextTag tag ∧ t.req.nextTag = tag + 1
                ∧ t.req.outgoing = first ++ [made x tag] ∧ t.line.requests = waiting ++ [frame x tag]
                ∧ t.faults = s.faults)
              ∧ (4 ≤ first.length → t.req.nextTag = s.req.nextTag ∧ t.req.outgoing = first
                  ∧ t.line.requests = waiting ∧ sticky .requestLost t = true)
              ∧ (∀ y, s.line.onLine = some y → t.line.onLine
                  = (if gone.any (fun tag => y.owner = .request tag) then some { y with owner := .orphan }
                    else some y)))
           ∧ (∀ x y : SwitchSlot, s.start.station = .running →
              b.switchMap.getD k none = some x → b.switchMap.getD (k + 1) none = some y →
              let first := kept x s.req.outgoing
              let second := kept y first
              let gone := (s.req.outgoing.filter (earlier x)).map OutgoingEntry.tag
                ++ (first.filter (earlier y)).map OutgoingEntry.tag
              let waiting := s.line.requests.filter (fun q => !gone.contains q.tag)
              let fresh := fun (l : List OutgoingEntry) => IsFreshTag (l.map OutgoingEntry.tag)
              (first.length < 4 → second.length < 3 → ∃ tag tag' : Nibble,
                fresh first s.req.nextTag tag ∧ fresh (second ++ [made x tag]) (tag + 1) tag'
                ∧ t.req.nextTag = tag' + 1 ∧ t.req.outgoing = second ++ [made x tag, made y tag']
                ∧ t.line.requests = waiting ++ [frame x tag, frame y tag'] ∧ t.faults = s.faults)
              ∧ (first.length < 4 → 3 ≤ second.length → ∃ tag : Nibble,
                fresh first s.req.nextTag tag ∧ t.req.nextTag = tag + 1
                ∧ t.req.outgoing = second ++ [made x tag] ∧ t.line.requests = waiting ++ [frame x tag]
                ∧ sticky .requestLost t = true)
              ∧ (4 ≤ first.length → second.length < 4 → ∃ tag : Nibble,
                fresh second s.req.nextTag tag ∧ t.req.nextTag = tag + 1
                ∧ t.req.outgoing = second ++ [made y tag] ∧ t.line.requests = waiting ++ [frame y tag]
                ∧ sticky .requestLost t = true)
              ∧ (4 ≤ first.length → 4 ≤ second.length →
                t.req.nextTag = s.req.nextTag ∧ t.req.outgoing = second ∧ t.line.requests = waiting
                  ∧ sticky .requestLost t = true)
              ∧ (∀ z, s.line.onLine = some z → t.line.onLine
                  = (if gone.any (fun tag => z.owner = .request tag) then some { z with owner := .orphan }
                    else some z)))))

/-- An answer whose source, tag and kind are the destination, tag and kind of an outgoing entry acts on that entry by its
result code and the entry's state, and is not counted (R136); one that matches no entry is counted (R137); one addressed to
15 or of another length than 4 bytes is discarded (R137, R176). -/
def Obligations.AnswersActOnTheirEntry : Prop :=
  ∀ (s : State) (f : Frame) (rest : List Frame), s.line.rx = f :: rest → f.cls = .answer →
    (s.req.outgoing.map OutgoingEntry.tag).Nodup →
    let code := (f.payload.getD 1 0).toNat
    let matched := fun e : OutgoingEntry =>
      e.dest = f.src ∧ e.kind = f.kind ∧ e.tag.toNat = (f.payload.getD 0 0).toNat % 16
    (f.dst = 15 ∨ f.payload.length ≠ 4 →
      exec .answerArrival s = .next (s.withLine { s.line with rx := rest }))
    ∧ (f.dst ≠ 15 → f.payload.length = 4 → (∀ e ∈ s.req.outgoing, ¬ matched e) →
      exec .answerArrival s = .next (s.withLine { s.line with
        rx := rest
        counters := { s.line.counters with
          unmatchedAnswers := min 255 (s.line.counters.unmatchedAnswers + 1) } }))
    ∧ ∀ e ∈ s.req.outgoing, f.dst ≠ 15 → f.payload.length = 4 → matched e →
      ∃ t, exec .answerArrival s = .next t
        ∧ KeepsAllBut [.line, .req, .faults] s t
        ∧ t.line.rx = rest ∧ t.line.counters = s.line.counters ∧ t.req.table = s.req.table
        ∧ (¬ ((code = 2 ∨ code = 3) ∧ e.state ≠ .queued ∧ e.repeatsLeft ≤ 1) → t.faults = s.faults)
        ∧ (code = 1 → e.state ≠ .queued → t.req.outgoing = s.req.outgoing.map (fun x =>
            if x.tag = e.tag then { x with state := .backingOff, timer := some 0 } else x))
        ∧ (code = 1 ∨ code = 2 ∨ code = 3 → e.state = .queued → t.req = s.req)
        ∧ (code = 2 ∨ code = 3 → e.state ≠ .queued → 2 ≤ e.repeatsLeft →
            t.req.outgoing = s.req.outgoing.map (fun x =>
              if x.tag = e.tag then { x with
                repeatsLeft := x.repeatsLeft - 1, state := .backingOff, timer := some 0 } else x))
        ∧ (code = 2 ∨ code = 3 → e.state ≠ .queued → e.repeatsLeft ≤ 1 →
            t.req.outgoing = s.req.outgoing.filter (fun x => x.tag ≠ e.tag)
              ∧ sticky .requestLost t = true)
        ∧ (code = 0 ∨ 4 ≤ code →
            t.req.outgoing = s.req.outgoing.filter (fun x => x.tag ≠ e.tag)
              ∧ t.line.requests = s.line.requests.filter (fun q => q.tag ≠ e.tag))

/-- The expiry of a repeat timer: AWAITING consumes a repeat or gives up, BACKING_OFF consumes none, and the frame joins
the request queue at its back (R137, R149). -/
def Obligations.RepeatTimersRequeueOrGiveUp : Prop :=
  ∀ (s : State) (b : StartBlock) (tag : Nibble) (e : OutgoingEntry) (ms : Nat), s.start.image = some b →
    e ∈ s.req.outgoing → e.tag = tag → e.timer = some ms → b.line.repeatInterval ≤ ms →
    (s.req.outgoing.map OutgoingEntry.tag).Nodup →
    let requeued := fun (n : Nat) => s.req.outgoing.map (fun x =>
      if x.tag = tag then { x with repeatsLeft := n, state := .queued, timer := none } else x)
    let joined := s.line.requests ++ [⟨e.dest, e.tag, e.kind, e.args⟩]
    ∃ t, exec (.repeatTimerExpiry tag) s = .next t
      ∧ KeepsAllBut [.line, .req, .faults] s t
      ∧ t.req.table = s.req.table
      ∧ (e.state = .awaiting → 2 ≤ e.repeatsLeft →
          t.req.outgoing = requeued (e.repeatsLeft - 1) ∧ t.line = { s.line with requests := joined }
            ∧ t.faults = s.faults)
      ∧ (e.state = .awaiting → e.repeatsLeft ≤ 1 →
          t.req.outgoing = s.req.outgoing.filter (fun x => x.tag ≠ tag)
            ∧ sticky .requestLost t = true)
      ∧ (e.state = .backingOff →
          t.req.outgoing = requeued e.repeatsLeft ∧ t.line = { s.line with requests := joined }
            ∧ t.faults = s.faults)

/-- Every step keeps OutgoingLaw: at most 4 entries with distinct tags, and each queued frame belongs to a QUEUED entry. -/
def Obligations.EveryStepKeepsTheOutgoingLaw : Prop :=
  ∀ s t : State, OutgoingLaw s → step s = .next t → OutgoingLaw t

/-! ### The section line -/

/-- A frame heard while the station does not transmit: a bad one is counted, one for another station ignored, one under
the own number silences the station, which moves the arms, ends their operations, stops the water and hands LINE_FAULT to the
ALERT slot where it was not sticky before (R80, R163, R174), and any other
joins the receive queue or is lost to a full one (R140, R141, R142). The value of a SET_MODE entry is never read (log 36). The
model's choices: a frame under the own number silences whatever its destination (log 13), and a frame heard while the station
transmits is taken as its own (log 14). -/
def Obligations.FrameArrivalSortsTheFrame : Prop :=
  ∀ (s : State) (bits : List Bool),
    (s.start.station = .loading ∨ s.line.onLine.isSome = true →
      exec (.frameArrival bits) s = .next s)
    ∧ (s.start.station ≠ .loading → s.line.onLine = none →
      (parseFrame bits = none → exec (.frameArrival bits) s
        = .next (s.withLine { s.line with counters := { s.line.counters with
            checkErrors := min 255 (s.line.counters.checkErrors + 1) } }))
      ∧ ∀ f, parseFrame bits = some f →
        (f.src ≠ s.start.number → f.dst ≠ s.start.number → f.dst ≠ 15 →
          exec (.frameArrival bits) s = .next s)
        ∧ (f.src ≠ s.start.number → (f.dst = s.start.number ∨ f.dst = 15) → s.line.rx.length < 4 →
          exec (.frameArrival bits) s = .next (s.withLine { s.line with rx := s.line.rx ++ [f] }))
        ∧ (f.src ≠ s.start.number → (f.dst = s.start.number ∨ f.dst = 15) → 4 ≤ s.line.rx.length →
          exec (.frameArrival bits) s
            = .next (s.withLine { s.line with counters := { s.line.counters with
                missedFrames := min 255 (s.line.counters.missedFrames + 1) } }))
        ∧ (f.src = s.start.number → s.start.station ≠ .listening → s.start.station ≠ .running →
          exec (.frameArrival bits) s = .next s)
        ∧ (f.src = s.start.number → (s.start.station = .listening ∨ s.start.station = .running) →
          ∃ t, exec (.frameArrival bits) s = .next t
            ∧ KeepsAllBut [.start, .line, .req, .sp, .arm1, .arm2, .water, .faults] s t
            ∧ EntersSilenced s t
            ∧ (sticky .lineFault s = true → t.line.alertSlot = s.line.alertSlot)
            ∧ { t.line with alertSlot := s.line.alertSlot, reportTimer := s.line.reportTimer
                            reportDue := s.line.reportDue } = s.line))

/-- The babble guard at 2 ms of sending cuts the frame off: SILENCED from LISTENING and RUNNING, the transmitter held off in
FAILED_START, LINE_FAULT sticky in all three and in the ALERT slot where it was not sticky before (R163); the entry to
SILENCED moves the arms and ends their operations (R80, R174; the value 0 that an ended SET_MODE TRANSPORT entry records is
never read, log 36). The frame is lost from its slot or queue, an alert too; a cut report becomes due again under its
number, and an answer held for the number after it waits for it again (R143, R146, R151). What a cut-off does in SILENCED
and LOADING, and what each queue loses, are the model's choice (log 16), and so is that a report which a restart caught on
the line becomes due again too (log 34). -/
def Obligations.BabbleGuardCutsTheTransmitter : Prop :=
  ∀ (s : State) (x : Sending), s.line.onLine = some x → s.line.guardArmed = true →
    2 ≤ s.line.guardTime →
    ∃ t, exec .babbleGuardCutoff s = .next t
      ∧ t.line.onLine = none
      ∧ (s.start.station = .listening ∨ s.start.station = .running →
          EntersSilenced s t)
      ∧ (s.start.station = .failedStart →
          t.start = s.start ∧ t.line.heldOff = true ∧ sticky .lineFault t = true)
      ∧ (s.start.station = .silenced ∨ s.start.station = .loading → KeepsAllBut [.line] s t)
      ∧ ((∀ k, x.owner ≠ .alert k) →
          (s.start.station = .silenced → t.line.alertSlot = s.line.alertSlot)
          ∧ (s.start.station = .listening ∨ s.start.station = .running ∨ s.start.station = .failedStart →
              t.line.alertSlot = (if sticky .lineFault s then s.line.alertSlot else some .lineFault)))
      ∧ (∀ k, x.owner = .alert k →
          let left := if s.line.alertSlot = some k then none else s.line.alertSlot
          (s.start.station = .silenced → t.line.alertSlot = left)
          ∧ (s.start.station = .listening ∨ s.start.station = .running ∨ s.start.station = .failedStart →
              t.line.alertSlot = (if sticky .lineFault s then left else some .lineFault)))
      ∧ (x.owner = .answer → t.line.answers = s.line.answers.tail)
      ∧ t.line.seq = s.line.seq
      ∧ (x.owner = .report → t.line.reportDue = true
          ∧ t.line.answers = s.line.answers.map (fun a =>
              if a.mark = some (s.line.seq + 1) then { a with mark := some s.line.seq } else a))
      ∧ (x.owner ≠ .answer → x.owner ≠ .report → t.line.answers = s.line.answers)
      ∧ (∀ tag, x.owner = .request tag →
          t.line.requests = s.line.requests.filter (fun q => q.tag ≠ tag))

/-- What the arbiter puts on an idle line without a rival: the ALERT slot, the front answer that is not held, the due
report, the front request, in this order (R138, R145, R176); the high bits of a tag byte are free (log 8). -/
def Obligations.ArbiterOffersInOrder : Prop :=
  ∀ s : State, s.line.onLine = none →
    let sends := s.start.station = .listening ∨ s.start.station = .running
      ∨ (s.start.station = .failedStart ∧ s.line.heldOff = false)
    let reports := s.start.station = .running ∨ s.start.station = .failedStart
    let answerFree := ∃ a rest, s.line.answers = a :: rest ∧ a.mark = none
    (¬ sends → exec (.lineIdle none) s = .next s)
    ∧ (∀ k, sends → s.line.alertSlot = some k →
      exec (.lineIdle none) s = .next ((s.withFree (s.free + 1)).withLine { s.line with
        guardTime := 0
        onLine := some ⟨.alert k, ⟨.alert, s.start.number, 15, BitVec.ofNat 4 k.num, []⟩⟩ }))
    ∧ (∀ a rest, sends → s.line.alertSlot = none → s.line.answers = a :: rest → a.mark = none →
      ∃ b : Byte, b.toNat % 16 = a.tag.toNat ∧ exec (.lineIdle none) s
        = .next ((s.withFree (s.free + 1)).withLine { s.line with
          guardTime := 0
          onLine := some ⟨.answer, ⟨.answer, s.start.number, a.dest, a.kind,
            [b, BitVec.ofNat 8 a.result.code, BitVec.ofNat 8 (a.value.toNat / 256),
              BitVec.ofNat 8 a.value.toNat]⟩⟩ }))
    ∧ (sends → reports → s.line.alertSlot = none → ¬ answerFree → s.line.reportDue = true →
      exec (.lineIdle none) s = .next ((s.withFree (s.free + 1)).withLine { s.line with
        guardTime := 0, reportDue := false
        onLine := some ⟨.report, ⟨.report, s.start.number, 15, 0,
          reportBytes s.line.seq (reportValues s)⟩⟩ }))
    ∧ (∀ q rest, s.start.station = .running → s.line.alertSlot = none → ¬ answerFree →
      s.line.reportDue = false → s.line.requests = q :: rest →
      ∃ b : Byte, b.toNat % 16 = q.tag.toNat ∧ exec (.lineIdle none) s
        = .next ((s.withFree (s.free + 1)).withLine { s.line with
          guardTime := 0
          onLine := some ⟨.request q.tag,
            ⟨.request, s.start.number, q.dest, q.kind, b :: q.args⟩⟩ }))
    ∧ (sends → s.line.alertSlot = none → ¬ answerFree →
      (s.line.reportDue = false ∨ s.start.station = .listening) →
      (s.line.requests = [] ∨ s.start.station ≠ .running) →
      exec (.lineIdle none) s = .next s)

/-- Contention: the frame with the lower value of class × 16 + source goes through, as a driven level, a 0, wins the first bit
at which two frames differ, and frames alike to the last bit both do; at this station a losing frame keeps its place and a
winning one is sent as without a rival (R139, R145, R176). That one event decides the contest with the strongest rival
(log 15), and that a losing offer advances State.free, the counter of the free tag bits (log 8), are the model's choices. -/
def Obligations.ContestsGoToTheLowerWord : Prop :=
  (∀ f g : Frame,
      (classCode f.cls).toNat * 16 + f.src.toNat < (classCode g.cls).toNat * 16 + g.src.toNat →
      winsContest (frameBits f) (frameBits g) = true ∧ winsContest (frameBits g) (frameBits f) = false)
  ∧ (∀ head tail tail' : List Bool,
      winsContest (head ++ false :: tail) (head ++ true :: tail') = true
      ∧ winsContest (head ++ true :: tail) (head ++ false :: tail') = false
      ∧ winsContest head head = true)
  ∧ (∀ (s t : State) (g : Frame), s.line.onLine = none → exec (.lineIdle none) s = .next t →
      (∀ x, t.line.onLine = some x →
        (winsContest (frameBits x.frame) (frameBits g) = false →
          exec (.lineIdle (some g)) s = .next (s.withFree (s.free + 1)))
        ∧ (winsContest (frameBits x.frame) (frameBits g) = true →
          exec (.lineIdle (some g)) s = .next t))
      ∧ (t.line.onLine = none → exec (.lineIdle (some g)) s = .next s))

/-- The end of a frame: it leaves its slot or queue; a report steps the sequence counter and frees the answers that wait for
it; a request's entry goes to AWAITING; the answer of a RESTART starts the warm restart of R175 in RUNNING, block by block
(R131, R145, R147, R151). A report that a restart caught on the line steps the counter as any other (R151, where R153 lets a
caught frame reach no block: log 33). That a kind handed over again while its alert is on the line leaves the slot with it
is the model's choice (log 30). -/
def Obligations.FrameSentReachesItsBlock : Prop :=
  ∀ (s : State) (x : Sending), s.line.onLine = some x →
    (∀ k, x.owner = .alert k → exec .frameSent s = .next (s.withLine { s.line with
      onLine := none, guardTime := 0
      alertSlot := if s.line.alertSlot = some k then none else s.line.alertSlot }))
    ∧ (x.owner = .report → exec .frameSent s = .next (s.withLine { s.line with
      onLine := none, guardTime := 0, seq := s.line.seq + 1
      answers := s.line.answers.map (fun a =>
        if a.mark = some s.line.seq then { a with mark := none } else a) }))
    ∧ (∀ tag, x.owner = .request tag →
      ∃ t, exec .frameSent s = .next t
        ∧ KeepsAllBut [.line, .req] s t
        ∧ t.line = { s.line with
            onLine := none, guardTime := 0
            requests := s.line.requests.filter (fun q => q.tag ≠ tag) }
        ∧ t.req = { s.req with outgoing := s.req.outgoing.map (fun e =>
            if e.tag = tag then { e with state := .awaiting, timer := some 0 } else e) })
    ∧ (∀ a rest, x.owner = .answer → s.line.answers = a :: rest →
      (a.restarts = false → exec .frameSent s = .next (s.withLine { s.line with
        onLine := none, guardTime := 0, answers := rest }))
      ∧ (a.restarts = true → s.start.station = .running →
        ∃ t, exec .frameSent s = .next t ∧ WarmRestarted s t
          ∧ t.line.onLine = none ∧ t.line.guardTime = 0))
    ∧ (x.owner = .orphan → exec .frameSent s = .next (s.withLine { s.line with
      onLine := none, guardTime := 0 }))

/-- Every step keeps LineLaw: the receive and answer queues hold at most 4, the counters stay within 255, and no frame or
entry stands under the station's own number. -/
def Obligations.EveryStepKeepsTheLineLaw : Prop :=
  ∀ s t : State, LineLaw s → step s = .next t → LineLaw t

/-- The state after reset keeps ArmsLaw, WaterLaw, DriveLaw, PendingLaw, OutgoingLaw and LineLaw. -/
def Obligations.ResetKeepsEveryLaw : Prop :=
  ArmsLaw State.reset ∧ WaterLaw State.reset ∧ DriveLaw State.reset ∧ PendingLaw State.reset
    ∧ OutgoingLaw State.reset ∧ LineLaw State.reset

/-- R162: FAULT_N is driven low exactly while a trip kind is sticky. A cause handed over as present makes its kind active and
sticky, and a trip kind that was not sticky goes to the ALERT slot; one handed over as absent leaves the sticky set, but for
TANK_LOW (R157, R158, R163). -/
def Obligations.FaultUnitHoldsItsSets : Prop :=
  (∀ s : State, (outputs s).faultLow = true ↔
      ∃ k ∈ [FaultKind.pedalInput, .speedSensor, .arm1Fault, .arm2Fault, .waterDry, .waterInput, .lineFault,
        .configBad], sticky k s = true)
  ∧ (∀ (k : FaultKind) (s : State),
      sticky k (handOver k true s) = true ∧ active k (handOver k true s) = true
      ∧ (k.isTrip = true → sticky k s = false → (handOver k true s).line.alertSlot = some k)
      ∧ (k.isTrip = false ∨ sticky k s = true → (handOver k true s).line = s.line)
      ∧ (handOver k false s).line = s.line
      ∧ (k ≠ .tankLow → sticky k (handOver k false s) = sticky k s)
      ∧ sticky .tankLow (handOver .tankLow false s) = false
      ∧ (k ≠ .arm1Fault → k ≠ .arm2Fault → active k (handOver k false s) = false)
      ∧ ∀ j present, j ≠ k → sticky j (handOver k present s) = sticky j s
          ∧ active j (handOver k present s) = active j s)

/-! ### Encodings -/

/-- The bits of a frame of at most 16 payload bytes stand where R176 puts them: class, source, destination, kind and length,
each most significant bit first, then the payload bytes and the check sequence over all of it (R138, R140). The frame is
read back whole from them, whatever bits follow: that bits after the check sequence are not read is the model's choice (log
14). Bits are read as a frame only where they begin with the bits of a frame of at most 16 payload bytes, so a wrong check
sequence, a cut end or a length above 16 is not read (R140). The check sequence is the CRC with generator x^16 + x^12 + x^5
+ 1 from a register of all ones. -/
def Obligations.FramesReadBackFromTheirBits : Prop :=
  [FrameClass.alert, .answer, .request, .report].map classCode = [0, 1, 2, 3]
  ∧ (crc [] = 0xFFFF#16)
  ∧ (∀ (bits : List Bool) (b : Bool), crc (bits ++ [b])
      = (crc bits <<< 1) ^^^ (if (crc bits).msb = b then 0 else 0x1021#16))
  ∧ (∀ (bits : List Bool) (f : Frame), parseFrame bits = some f →
      f.payload.length ≤ 16 ∧ ∃ tail, bits = frameBits f ++ tail)
  ∧ ∀ (f : Frame) (tail : List Bool), f.payload.length ≤ 16 →
    let bits := frameBits f
    let number := fun start width : Nat => numOf ((bits.drop start).take width)
    let n := f.payload.length
    bits.length = 19 + 8 * n + 16
    ∧ number 0 2 = (classCode f.cls).toNat ∧ number 2 4 = f.src.toNat ∧ number 6 4 = f.dst.toNat
    ∧ number 10 4 = f.kind.toNat ∧ number 14 5 = n
    ∧ (∀ i < n, number (19 + 8 * i) 8 = (f.payload.getD i 0).toNat)
    ∧ number (19 + 8 * n) 16 = (crc (bits.take (19 + 8 * n))).toNat
    ∧ parseFrame (bits ++ tail) = some f

/-- A report. Its content is taken from the state as it stands: period, mode, role mask and sticky set (R151), the drive values
of R67, or those of R41 without a drive, the arms and brush bytes of R89, the water state of R105, and the values of R172
without an image. Its 15 bytes stand as R177 lays them out, and it is read back from them, the pressure byte carrying half the
bar value. Any 15 bytes load with the awkward values of R26. -/
def Obligations.ReportsReadBackFromTheirBytes : Prop :=
  (∀ s : State,
    (s.start.image = none → reportValues s
      = ⟨10, 0, .service, 0, .bad, none, 0, .bad, 0, .bad, 0, 0, .stowed, .stowed, .off, s.faults.sticky⟩)
    ∧ ∀ b, s.start.image = some b →
      let v := reportValues s
      v.period = b.line.period ∧ v.mode = s.start.mode ∧ v.summary = s.faults.sticky
      ∧ v.mask = [0b000000#6, 0b000001#6, 0b011110#6, 0b000110#6, 0b100000#6, 0b111110#6, 0b100001#6,
          0b111111#6].getD s.start.role.toNat 0
      ∧ v.brush1.toNat = s.arm1.command / 16 % 256 ∧ v.brush2.toNat = s.arm2.command / 16 % 256
      ∧ v.arm1 = s.arm1.state ∧ v.arm2 = s.arm2.state ∧ v.water = s.water.state
      ∧ (populated .drv s = true →
          v.travel = s.drive.meas.v ∧ v.travelQ = ownTravelQuality s
          ∧ v.direction = (match s.drive.state with
            | .forward => some .forward
            | .reverse => some .reverse
            | _ => none)
          ∧ v.engine = s.drive.meas.nE ∧ v.engineQ = ownEngineQuality s
          ∧ v.pressure = s.drive.pressure ∧ v.pressureQ = ownPressureQuality s)
      ∧ (populated .drv s = false →
          v.travel = 0 ∧ v.travelQ = .bad ∧ v.direction = none ∧ v.engine = 0 ∧ v.engineQ = .bad
            ∧ v.pressure = 0 ∧ v.pressureQ = .bad))
  ∧ ([Quality.good, .held, .bad].map Quality.code = [0, 1, 2])
  ∧ (∀ (seq : Byte) (v : ReportValues), reportFits v →
    let byte := fun i : Nat => ((reportBytes seq v).getD i 0).toNat
    (reportBytes seq v).length = 15
    ∧ byte 0 = seq.toNat ∧ byte 1 = v.period ∧ byte 2 = v.mode.code * 64 + v.mask.toNat
    ∧ ((byte 3 * 256 + byte 4 : Nat) : Int) = v.travel % 65536
    ∧ byte 5 = v.travelQ.code.toNat * 64 + v.engineQ.code.toNat * 16 + v.pressureQ.code.toNat * 4
        + (directionCode v.direction).toNat
    ∧ byte 6 * 256 + byte 7 = v.engine ∧ byte 8 = v.pressure / 2
    ∧ byte 9 = v.brush1.toNat ∧ byte 10 = v.brush2.toNat ∧ byte 11 = v.arm1.code * 16 + v.arm2.code
    ∧ byte 12 = v.water.code ∧ byte 13 * 256 + byte 14 = v.summary.toNat
    ∧ parseReport (reportBytes seq v) = some (seq, { v with pressure := 2 * (v.pressure / 2) }))
  ∧ ∀ p : List Byte,
    (p.length ≠ 15 → parseReport p = none)
    ∧ (p.length = 15 → ∃ v, parseReport p = some (p.getD 0 0, v)
      ∧ (let byte := fun i : Nat => (p.getD i 0).toNat
         let speed := (wordOf (p.getD 3 0) (p.getD 4 0)).toInt
         v.period = max 2 (min 20 (byte 1)) ∧ v.travel = max (-1500) (min 1500 speed)
         ∧ v.engine = min 4000 (byte 6 * 256 + byte 7) ∧ v.pressure = min 500 (2 * byte 8)
         ∧ (byte 5 / 64 = 3 → v.travelQ = .bad) ∧ (byte 5 / 16 % 4 = 3 → v.engineQ = .bad)
         ∧ (byte 5 / 4 % 4 = 3 → v.pressureQ = .bad) ∧ (byte 5 % 4 = 3 → v.direction = none)
         ∧ (5 ≤ byte 11 / 16 → v.arm1 = .held) ∧ (5 ≤ byte 11 % 16 → v.arm2 = .held)
         ∧ (5 ≤ byte 12 → v.water = .off)))
end

