-- ==== Sys2Proof/Laws/State.lean ====
section
/-! SUPPORT. What each update of State leaves in each field: one lemma per field per update, true by rfl. -/

namespace Sys2Proof.Machine

/-! ### withPending -/

@[simp] theorem State.withPending_pending (s : State) (x : List Instr) : (s.withPending x).pending = x := rfl
@[simp] theorem State.withPending_free (s : State) (x : List Instr) : (s.withPending x).free = s.free := rfl
@[simp] theorem State.withPending_pins (s : State) (x : List Instr) : (s.withPending x).pins = s.pins := rfl
@[simp] theorem State.withPending_start (s : State) (x : List Instr) : (s.withPending x).start = s.start := rfl
@[simp] theorem State.withPending_line (s : State) (x : List Instr) : (s.withPending x).line = s.line := rfl
@[simp] theorem State.withPending_peers (s : State) (x : List Instr) : (s.withPending x).peers = s.peers := rfl
@[simp] theorem State.withPending_req (s : State) (x : List Instr) : (s.withPending x).req = s.req := rfl
@[simp] theorem State.withPending_sp (s : State) (x : List Instr) : (s.withPending x).sp = s.sp := rfl
@[simp] theorem State.withPending_drive (s : State) (x : List Instr) : (s.withPending x).drive = s.drive := rfl
@[simp] theorem State.withPending_arm1 (s : State) (x : List Instr) : (s.withPending x).arm1 = s.arm1 := rfl
@[simp] theorem State.withPending_arm2 (s : State) (x : List Instr) : (s.withPending x).arm2 = s.arm2 := rfl
@[simp] theorem State.withPending_water (s : State) (x : List Instr) : (s.withPending x).water = s.water := rfl
@[simp] theorem State.withPending_faults (s : State) (x : List Instr) : (s.withPending x).faults = s.faults := rfl

/-! ### withFree -/

@[simp] theorem State.withFree_pending (s : State) (x : Nat) : (s.withFree x).pending = s.pending := rfl
@[simp] theorem State.withFree_free (s : State) (x : Nat) : (s.withFree x).free = x := rfl
@[simp] theorem State.withFree_pins (s : State) (x : Nat) : (s.withFree x).pins = s.pins := rfl
@[simp] theorem State.withFree_start (s : State) (x : Nat) : (s.withFree x).start = s.start := rfl
@[simp] theorem State.withFree_line (s : State) (x : Nat) : (s.withFree x).line = s.line := rfl
@[simp] theorem State.withFree_peers (s : State) (x : Nat) : (s.withFree x).peers = s.peers := rfl
@[simp] theorem State.withFree_req (s : State) (x : Nat) : (s.withFree x).req = s.req := rfl
@[simp] theorem State.withFree_sp (s : State) (x : Nat) : (s.withFree x).sp = s.sp := rfl
@[simp] theorem State.withFree_drive (s : State) (x : Nat) : (s.withFree x).drive = s.drive := rfl
@[simp] theorem State.withFree_arm1 (s : State) (x : Nat) : (s.withFree x).arm1 = s.arm1 := rfl
@[simp] theorem State.withFree_arm2 (s : State) (x : Nat) : (s.withFree x).arm2 = s.arm2 := rfl
@[simp] theorem State.withFree_water (s : State) (x : Nat) : (s.withFree x).water = s.water := rfl
@[simp] theorem State.withFree_faults (s : State) (x : Nat) : (s.withFree x).faults = s.faults := rfl

/-! ### withPins -/

@[simp] theorem State.withPins_pending (s : State) (x : Pins) : (s.withPins x).pending = s.pending := rfl
@[simp] theorem State.withPins_free (s : State) (x : Pins) : (s.withPins x).free = s.free := rfl
@[simp] theorem State.withPins_pins (s : State) (x : Pins) : (s.withPins x).pins = x := rfl
@[simp] theorem State.withPins_start (s : State) (x : Pins) : (s.withPins x).start = s.start := rfl
@[simp] theorem State.withPins_line (s : State) (x : Pins) : (s.withPins x).line = s.line := rfl
@[simp] theorem State.withPins_peers (s : State) (x : Pins) : (s.withPins x).peers = s.peers := rfl
@[simp] theorem State.withPins_req (s : State) (x : Pins) : (s.withPins x).req = s.req := rfl
@[simp] theorem State.withPins_sp (s : State) (x : Pins) : (s.withPins x).sp = s.sp := rfl
@[simp] theorem State.withPins_drive (s : State) (x : Pins) : (s.withPins x).drive = s.drive := rfl
@[simp] theorem State.withPins_arm1 (s : State) (x : Pins) : (s.withPins x).arm1 = s.arm1 := rfl
@[simp] theorem State.withPins_arm2 (s : State) (x : Pins) : (s.withPins x).arm2 = s.arm2 := rfl
@[simp] theorem State.withPins_water (s : State) (x : Pins) : (s.withPins x).water = s.water := rfl
@[simp] theorem State.withPins_faults (s : State) (x : Pins) : (s.withPins x).faults = s.faults := rfl

/-! ### withStart -/

@[simp] theorem State.withStart_pending (s : State) (x : StartUnit) : (s.withStart x).pending = s.pending := rfl
@[simp] theorem State.withStart_free (s : State) (x : StartUnit) : (s.withStart x).free = s.free := rfl
@[simp] theorem State.withStart_pins (s : State) (x : StartUnit) : (s.withStart x).pins = s.pins := rfl
@[simp] theorem State.withStart_start (s : State) (x : StartUnit) : (s.withStart x).start = x := rfl
@[simp] theorem State.withStart_line (s : State) (x : StartUnit) : (s.withStart x).line = s.line := rfl
@[simp] theorem State.withStart_peers (s : State) (x : StartUnit) : (s.withStart x).peers = s.peers := rfl
@[simp] theorem State.withStart_req (s : State) (x : StartUnit) : (s.withStart x).req = s.req := rfl
@[simp] theorem State.withStart_sp (s : State) (x : StartUnit) : (s.withStart x).sp = s.sp := rfl
@[simp] theorem State.withStart_drive (s : State) (x : StartUnit) : (s.withStart x).drive = s.drive := rfl
@[simp] theorem State.withStart_arm1 (s : State) (x : StartUnit) : (s.withStart x).arm1 = s.arm1 := rfl
@[simp] theorem State.withStart_arm2 (s : State) (x : StartUnit) : (s.withStart x).arm2 = s.arm2 := rfl
@[simp] theorem State.withStart_water (s : State) (x : StartUnit) : (s.withStart x).water = s.water := rfl
@[simp] theorem State.withStart_faults (s : State) (x : StartUnit) : (s.withStart x).faults = s.faults := rfl

/-! ### withLine -/

@[simp] theorem State.withLine_pending (s : State) (x : LinePort) : (s.withLine x).pending = s.pending := rfl
@[simp] theorem State.withLine_free (s : State) (x : LinePort) : (s.withLine x).free = s.free := rfl
@[simp] theorem State.withLine_pins (s : State) (x : LinePort) : (s.withLine x).pins = s.pins := rfl
@[simp] theorem State.withLine_start (s : State) (x : LinePort) : (s.withLine x).start = s.start := rfl
@[simp] theorem State.withLine_line (s : State) (x : LinePort) : (s.withLine x).line = x := rfl
@[simp] theorem State.withLine_peers (s : State) (x : LinePort) : (s.withLine x).peers = s.peers := rfl
@[simp] theorem State.withLine_req (s : State) (x : LinePort) : (s.withLine x).req = s.req := rfl
@[simp] theorem State.withLine_sp (s : State) (x : LinePort) : (s.withLine x).sp = s.sp := rfl
@[simp] theorem State.withLine_drive (s : State) (x : LinePort) : (s.withLine x).drive = s.drive := rfl
@[simp] theorem State.withLine_arm1 (s : State) (x : LinePort) : (s.withLine x).arm1 = s.arm1 := rfl
@[simp] theorem State.withLine_arm2 (s : State) (x : LinePort) : (s.withLine x).arm2 = s.arm2 := rfl
@[simp] theorem State.withLine_water (s : State) (x : LinePort) : (s.withLine x).water = s.water := rfl
@[simp] theorem State.withLine_faults (s : State) (x : LinePort) : (s.withLine x).faults = s.faults := rfl

/-! ### withPeers -/

@[simp] theorem State.withPeers_pending (s : State) (x : Vector (Option PeerEntry) 15) : (s.withPeers x).pending = s.pending := rfl
@[simp] theorem State.withPeers_free (s : State) (x : Vector (Option PeerEntry) 15) : (s.withPeers x).free = s.free := rfl
@[simp] theorem State.withPeers_pins (s : State) (x : Vector (Option PeerEntry) 15) : (s.withPeers x).pins = s.pins := rfl
@[simp] theorem State.withPeers_start (s : State) (x : Vector (Option PeerEntry) 15) : (s.withPeers x).start = s.start := rfl
@[simp] theorem State.withPeers_line (s : State) (x : Vector (Option PeerEntry) 15) : (s.withPeers x).line = s.line := rfl
@[simp] theorem State.withPeers_peers (s : State) (x : Vector (Option PeerEntry) 15) : (s.withPeers x).peers = x := rfl
@[simp] theorem State.withPeers_req (s : State) (x : Vector (Option PeerEntry) 15) : (s.withPeers x).req = s.req := rfl
@[simp] theorem State.withPeers_sp (s : State) (x : Vector (Option PeerEntry) 15) : (s.withPeers x).sp = s.sp := rfl
@[simp] theorem State.withPeers_drive (s : State) (x : Vector (Option PeerEntry) 15) : (s.withPeers x).drive = s.drive := rfl
@[simp] theorem State.withPeers_arm1 (s : State) (x : Vector (Option PeerEntry) 15) : (s.withPeers x).arm1 = s.arm1 := rfl
@[simp] theorem State.withPeers_arm2 (s : State) (x : Vector (Option PeerEntry) 15) : (s.withPeers x).arm2 = s.arm2 := rfl
@[simp] theorem State.withPeers_water (s : State) (x : Vector (Option PeerEntry) 15) : (s.withPeers x).water = s.water := rfl
@[simp] theorem State.withPeers_faults (s : State) (x : Vector (Option PeerEntry) 15) : (s.withPeers x).faults = s.faults := rfl

/-! ### withReq -/

@[simp] theorem State.withReq_pending (s : State) (x : RequestUnit) : (s.withReq x).pending = s.pending := rfl
@[simp] theorem State.withReq_free (s : State) (x : RequestUnit) : (s.withReq x).free = s.free := rfl
@[simp] theorem State.withReq_pins (s : State) (x : RequestUnit) : (s.withReq x).pins = s.pins := rfl
@[simp] theorem State.withReq_start (s : State) (x : RequestUnit) : (s.withReq x).start = s.start := rfl
@[simp] theorem State.withReq_line (s : State) (x : RequestUnit) : (s.withReq x).line = s.line := rfl
@[simp] theorem State.withReq_peers (s : State) (x : RequestUnit) : (s.withReq x).peers = s.peers := rfl
@[simp] theorem State.withReq_req (s : State) (x : RequestUnit) : (s.withReq x).req = x := rfl
@[simp] theorem State.withReq_sp (s : State) (x : RequestUnit) : (s.withReq x).sp = s.sp := rfl
@[simp] theorem State.withReq_drive (s : State) (x : RequestUnit) : (s.withReq x).drive = s.drive := rfl
@[simp] theorem State.withReq_arm1 (s : State) (x : RequestUnit) : (s.withReq x).arm1 = s.arm1 := rfl
@[simp] theorem State.withReq_arm2 (s : State) (x : RequestUnit) : (s.withReq x).arm2 = s.arm2 := rfl
@[simp] theorem State.withReq_water (s : State) (x : RequestUnit) : (s.withReq x).water = s.water := rfl
@[simp] theorem State.withReq_faults (s : State) (x : RequestUnit) : (s.withReq x).faults = s.faults := rfl

/-! ### withSp -/

@[simp] theorem State.withSp_pending (s : State) (x : Setpoint) : (s.withSp x).pending = s.pending := rfl
@[simp] theorem State.withSp_free (s : State) (x : Setpoint) : (s.withSp x).free = s.free := rfl
@[simp] theorem State.withSp_pins (s : State) (x : Setpoint) : (s.withSp x).pins = s.pins := rfl
@[simp] theorem State.withSp_start (s : State) (x : Setpoint) : (s.withSp x).start = s.start := rfl
@[simp] theorem State.withSp_line (s : State) (x : Setpoint) : (s.withSp x).line = s.line := rfl
@[simp] theorem State.withSp_peers (s : State) (x : Setpoint) : (s.withSp x).peers = s.peers := rfl
@[simp] theorem State.withSp_req (s : State) (x : Setpoint) : (s.withSp x).req = s.req := rfl
@[simp] theorem State.withSp_sp (s : State) (x : Setpoint) : (s.withSp x).sp = x := rfl
@[simp] theorem State.withSp_drive (s : State) (x : Setpoint) : (s.withSp x).drive = s.drive := rfl
@[simp] theorem State.withSp_arm1 (s : State) (x : Setpoint) : (s.withSp x).arm1 = s.arm1 := rfl
@[simp] theorem State.withSp_arm2 (s : State) (x : Setpoint) : (s.withSp x).arm2 = s.arm2 := rfl
@[simp] theorem State.withSp_water (s : State) (x : Setpoint) : (s.withSp x).water = s.water := rfl
@[simp] theorem State.withSp_faults (s : State) (x : Setpoint) : (s.withSp x).faults = s.faults := rfl

/-! ### withDrive -/

@[simp] theorem State.withDrive_pending (s : State) (x : Drive) : (s.withDrive x).pending = s.pending := rfl
@[simp] theorem State.withDrive_free (s : State) (x : Drive) : (s.withDrive x).free = s.free := rfl
@[simp] theorem State.withDrive_pins (s : State) (x : Drive) : (s.withDrive x).pins = s.pins := rfl
@[simp] theorem State.withDrive_start (s : State) (x : Drive) : (s.withDrive x).start = s.start := rfl
@[simp] theorem State.withDrive_line (s : State) (x : Drive) : (s.withDrive x).line = s.line := rfl
@[simp] theorem State.withDrive_peers (s : State) (x : Drive) : (s.withDrive x).peers = s.peers := rfl
@[simp] theorem State.withDrive_req (s : State) (x : Drive) : (s.withDrive x).req = s.req := rfl
@[simp] theorem State.withDrive_sp (s : State) (x : Drive) : (s.withDrive x).sp = s.sp := rfl
@[simp] theorem State.withDrive_drive (s : State) (x : Drive) : (s.withDrive x).drive = x := rfl
@[simp] theorem State.withDrive_arm1 (s : State) (x : Drive) : (s.withDrive x).arm1 = s.arm1 := rfl
@[simp] theorem State.withDrive_arm2 (s : State) (x : Drive) : (s.withDrive x).arm2 = s.arm2 := rfl
@[simp] theorem State.withDrive_water (s : State) (x : Drive) : (s.withDrive x).water = s.water := rfl
@[simp] theorem State.withDrive_faults (s : State) (x : Drive) : (s.withDrive x).faults = s.faults := rfl

/-! ### withArm1 -/

@[simp] theorem State.withArm1_pending (s : State) (x : Arm) : (s.withArm1 x).pending = s.pending := rfl
@[simp] theorem State.withArm1_free (s : State) (x : Arm) : (s.withArm1 x).free = s.free := rfl
@[simp] theorem State.withArm1_pins (s : State) (x : Arm) : (s.withArm1 x).pins = s.pins := rfl
@[simp] theorem State.withArm1_start (s : State) (x : Arm) : (s.withArm1 x).start = s.start := rfl
@[simp] theorem State.withArm1_line (s : State) (x : Arm) : (s.withArm1 x).line = s.line := rfl
@[simp] theorem State.withArm1_peers (s : State) (x : Arm) : (s.withArm1 x).peers = s.peers := rfl
@[simp] theorem State.withArm1_req (s : State) (x : Arm) : (s.withArm1 x).req = s.req := rfl
@[simp] theorem State.withArm1_sp (s : State) (x : Arm) : (s.withArm1 x).sp = s.sp := rfl
@[simp] theorem State.withArm1_drive (s : State) (x : Arm) : (s.withArm1 x).drive = s.drive := rfl
@[simp] theorem State.withArm1_arm1 (s : State) (x : Arm) : (s.withArm1 x).arm1 = x := rfl
@[simp] theorem State.withArm1_arm2 (s : State) (x : Arm) : (s.withArm1 x).arm2 = s.arm2 := rfl
@[simp] theorem State.withArm1_water (s : State) (x : Arm) : (s.withArm1 x).water = s.water := rfl
@[simp] theorem State.withArm1_faults (s : State) (x : Arm) : (s.withArm1 x).faults = s.faults := rfl

/-! ### withArm2 -/

@[simp] theorem State.withArm2_pending (s : State) (x : Arm) : (s.withArm2 x).pending = s.pending := rfl
@[simp] theorem State.withArm2_free (s : State) (x : Arm) : (s.withArm2 x).free = s.free := rfl
@[simp] theorem State.withArm2_pins (s : State) (x : Arm) : (s.withArm2 x).pins = s.pins := rfl
@[simp] theorem State.withArm2_start (s : State) (x : Arm) : (s.withArm2 x).start = s.start := rfl
@[simp] theorem State.withArm2_line (s : State) (x : Arm) : (s.withArm2 x).line = s.line := rfl
@[simp] theorem State.withArm2_peers (s : State) (x : Arm) : (s.withArm2 x).peers = s.peers := rfl
@[simp] theorem State.withArm2_req (s : State) (x : Arm) : (s.withArm2 x).req = s.req := rfl
@[simp] theorem State.withArm2_sp (s : State) (x : Arm) : (s.withArm2 x).sp = s.sp := rfl
@[simp] theorem State.withArm2_drive (s : State) (x : Arm) : (s.withArm2 x).drive = s.drive := rfl
@[simp] theorem State.withArm2_arm1 (s : State) (x : Arm) : (s.withArm2 x).arm1 = s.arm1 := rfl
@[simp] theorem State.withArm2_arm2 (s : State) (x : Arm) : (s.withArm2 x).arm2 = x := rfl
@[simp] theorem State.withArm2_water (s : State) (x : Arm) : (s.withArm2 x).water = s.water := rfl
@[simp] theorem State.withArm2_faults (s : State) (x : Arm) : (s.withArm2 x).faults = s.faults := rfl

/-! ### withWater -/

@[simp] theorem State.withWater_pending (s : State) (x : Water) : (s.withWater x).pending = s.pending := rfl
@[simp] theorem State.withWater_free (s : State) (x : Water) : (s.withWater x).free = s.free := rfl
@[simp] theorem State.withWater_pins (s : State) (x : Water) : (s.withWater x).pins = s.pins := rfl
@[simp] theorem State.withWater_start (s : State) (x : Water) : (s.withWater x).start = s.start := rfl
@[simp] theorem State.withWater_line (s : State) (x : Water) : (s.withWater x).line = s.line := rfl
@[simp] theorem State.withWater_peers (s : State) (x : Water) : (s.withWater x).peers = s.peers := rfl
@[simp] theorem State.withWater_req (s : State) (x : Water) : (s.withWater x).req = s.req := rfl
@[simp] theorem State.withWater_sp (s : State) (x : Water) : (s.withWater x).sp = s.sp := rfl
@[simp] theorem State.withWater_drive (s : State) (x : Water) : (s.withWater x).drive = s.drive := rfl
@[simp] theorem State.withWater_arm1 (s : State) (x : Water) : (s.withWater x).arm1 = s.arm1 := rfl
@[simp] theorem State.withWater_arm2 (s : State) (x : Water) : (s.withWater x).arm2 = s.arm2 := rfl
@[simp] theorem State.withWater_water (s : State) (x : Water) : (s.withWater x).water = x := rfl
@[simp] theorem State.withWater_faults (s : State) (x : Water) : (s.withWater x).faults = s.faults := rfl

/-! ### withFaults -/

@[simp] theorem State.withFaults_pending (s : State) (x : Faults) : (s.withFaults x).pending = s.pending := rfl
@[simp] theorem State.withFaults_free (s : State) (x : Faults) : (s.withFaults x).free = s.free := rfl
@[simp] theorem State.withFaults_pins (s : State) (x : Faults) : (s.withFaults x).pins = s.pins := rfl
@[simp] theorem State.withFaults_start (s : State) (x : Faults) : (s.withFaults x).start = s.start := rfl
@[simp] theorem State.withFaults_line (s : State) (x : Faults) : (s.withFaults x).line = s.line := rfl
@[simp] theorem State.withFaults_peers (s : State) (x : Faults) : (s.withFaults x).peers = s.peers := rfl
@[simp] theorem State.withFaults_req (s : State) (x : Faults) : (s.withFaults x).req = s.req := rfl
@[simp] theorem State.withFaults_sp (s : State) (x : Faults) : (s.withFaults x).sp = s.sp := rfl
@[simp] theorem State.withFaults_drive (s : State) (x : Faults) : (s.withFaults x).drive = s.drive := rfl
@[simp] theorem State.withFaults_arm1 (s : State) (x : Faults) : (s.withFaults x).arm1 = s.arm1 := rfl
@[simp] theorem State.withFaults_arm2 (s : State) (x : Faults) : (s.withFaults x).arm2 = s.arm2 := rfl
@[simp] theorem State.withFaults_water (s : State) (x : Faults) : (s.withFaults x).water = s.water := rfl
@[simp] theorem State.withFaults_faults (s : State) (x : Faults) : (s.withFaults x).faults = x := rfl

/-! ### Arms and sites by number -/

@[simp] theorem State.withArm_pending (s : State) (n : ArmId) (a : Arm) : (s.withArm n a).pending = s.pending := by
  cases n <;> rfl
@[simp] theorem State.withArm_free (s : State) (n : ArmId) (a : Arm) : (s.withArm n a).free = s.free := by
  cases n <;> rfl
@[simp] theorem State.withArm_pins (s : State) (n : ArmId) (a : Arm) : (s.withArm n a).pins = s.pins := by
  cases n <;> rfl
@[simp] theorem State.withArm_start (s : State) (n : ArmId) (a : Arm) : (s.withArm n a).start = s.start := by
  cases n <;> rfl
@[simp] theorem State.withArm_line (s : State) (n : ArmId) (a : Arm) : (s.withArm n a).line = s.line := by
  cases n <;> rfl
@[simp] theorem State.withArm_peers (s : State) (n : ArmId) (a : Arm) : (s.withArm n a).peers = s.peers := by
  cases n <;> rfl
@[simp] theorem State.withArm_req (s : State) (n : ArmId) (a : Arm) : (s.withArm n a).req = s.req := by
  cases n <;> rfl
@[simp] theorem State.withArm_sp (s : State) (n : ArmId) (a : Arm) : (s.withArm n a).sp = s.sp := by
  cases n <;> rfl
@[simp] theorem State.withArm_drive (s : State) (n : ArmId) (a : Arm) : (s.withArm n a).drive = s.drive := by
  cases n <;> rfl
@[simp] theorem State.withArm_water (s : State) (n : ArmId) (a : Arm) : (s.withArm n a).water = s.water := by
  cases n <;> rfl
@[simp] theorem State.withArm_faults (s : State) (n : ArmId) (a : Arm) : (s.withArm n a).faults = s.faults := by
  cases n <;> rfl

@[simp] theorem State.withArm_arm (s : State) (n : ArmId) (a : Arm) : (s.withArm n a).arm n = a := by
  cases n <;> rfl

theorem State.withArm_arm_other (s : State) (n m : ArmId) (a : Arm) (h : m ≠ n) :
    (s.withArm n a).arm m = s.arm m := by
  cases n <;> cases m <;> first | rfl | exact absurd rfl h

@[simp] theorem State.withBrush_pending (s : State) (n : ArmId) (x : BlendSite) : (s.withBrush n x).pending = s.pending := by
  cases n <;> rfl
@[simp] theorem State.withBrush_free (s : State) (n : ArmId) (x : BlendSite) : (s.withBrush n x).free = s.free := by
  cases n <;> rfl
@[simp] theorem State.withBrush_pins (s : State) (n : ArmId) (x : BlendSite) : (s.withBrush n x).pins = s.pins := by
  cases n <;> rfl
@[simp] theorem State.withBrush_start (s : State) (n : ArmId) (x : BlendSite) : (s.withBrush n x).start = s.start := by
  cases n <;> rfl
@[simp] theorem State.withBrush_line (s : State) (n : ArmId) (x : BlendSite) : (s.withBrush n x).line = s.line := by
  cases n <;> rfl
@[simp] theorem State.withBrush_peers (s : State) (n : ArmId) (x : BlendSite) : (s.withBrush n x).peers = s.peers := by
  cases n <;> rfl
@[simp] theorem State.withBrush_req (s : State) (n : ArmId) (x : BlendSite) : (s.withBrush n x).req = s.req := by
  cases n <;> rfl
@[simp] theorem State.withBrush_drive (s : State) (n : ArmId) (x : BlendSite) : (s.withBrush n x).drive = s.drive := by
  cases n <;> rfl
@[simp] theorem State.withBrush_arm1 (s : State) (n : ArmId) (x : BlendSite) : (s.withBrush n x).arm1 = s.arm1 := by
  cases n <;> rfl
@[simp] theorem State.withBrush_arm2 (s : State) (n : ArmId) (x : BlendSite) : (s.withBrush n x).arm2 = s.arm2 := by
  cases n <;> rfl
@[simp] theorem State.withBrush_water (s : State) (n : ArmId) (x : BlendSite) : (s.withBrush n x).water = s.water := by
  cases n <;> rfl
@[simp] theorem State.withBrush_faults (s : State) (n : ArmId) (x : BlendSite) : (s.withBrush n x).faults = s.faults := by
  cases n <;> rfl

@[simp] theorem State.withBrush_brush (s : State) (n : ArmId) (x : BlendSite) :
    (s.withBrush n x).sp.brush n = x := by
  cases n <;> rfl

theorem State.withBrush_brush_other (s : State) (n m : ArmId) (x : BlendSite) (h : m ≠ n) :
    (s.withBrush n x).sp.brush m = s.sp.brush m := by
  cases n <;> cases m <;> first | rfl | exact absurd rfl h

@[simp] theorem State.withBrush_drv (s : State) (n : ArmId) (x : BlendSite) :
    (s.withBrush n x).sp.drv = s.sp.drv := by
  cases n <;> rfl

@[simp] theorem State.withBrush_wtr (s : State) (n : ArmId) (x : BlendSite) :
    (s.withBrush n x).sp.wtr = s.sp.wtr := by
  cases n <;> rfl

@[simp] theorem State.withBrush_arm (s : State) (n m : ArmId) (x : BlendSite) :
    (s.withBrush n x).arm m = s.arm m := by
  cases n <;> cases m <;> rfl

@[simp] theorem State.withPending_arm (s : State) (x : List Instr) (n : ArmId) : (s.withPending x).arm n = s.arm n := by
  cases n <;> rfl
@[simp] theorem State.withFree_arm (s : State) (x : Nat) (n : ArmId) : (s.withFree x).arm n = s.arm n := by
  cases n <;> rfl
@[simp] theorem State.withPins_arm (s : State) (x : Pins) (n : ArmId) : (s.withPins x).arm n = s.arm n := by
  cases n <;> rfl
@[simp] theorem State.withStart_arm (s : State) (x : StartUnit) (n : ArmId) : (s.withStart x).arm n = s.arm n := by
  cases n <;> rfl
@[simp] theorem State.withLine_arm (s : State) (x : LinePort) (n : ArmId) : (s.withLine x).arm n = s.arm n := by
  cases n <;> rfl
@[simp] theorem State.withPeers_arm (s : State) (x : Vector (Option PeerEntry) 15) (n : ArmId) : (s.withPeers x).arm n = s.arm n := by
  cases n <;> rfl
@[simp] theorem State.withReq_arm (s : State) (x : RequestUnit) (n : ArmId) : (s.withReq x).arm n = s.arm n := by
  cases n <;> rfl
@[simp] theorem State.withSp_arm (s : State) (x : Setpoint) (n : ArmId) : (s.withSp x).arm n = s.arm n := by
  cases n <;> rfl
@[simp] theorem State.withDrive_arm (s : State) (x : Drive) (n : ArmId) : (s.withDrive x).arm n = s.arm n := by
  cases n <;> rfl
@[simp] theorem State.withWater_arm (s : State) (x : Water) (n : ArmId) : (s.withWater x).arm n = s.arm n := by
  cases n <;> rfl
@[simp] theorem State.withFaults_arm (s : State) (x : Faults) (n : ArmId) : (s.withFaults x).arm n = s.arm n := by
  cases n <;> rfl

/-! ### Sites, entries and switches -/

@[simp] theorem State.withWaterSite_pending (s : State) (x : BlendSite) : (s.withWaterSite x).pending = s.pending := rfl
@[simp] theorem State.withWaterSite_free (s : State) (x : BlendSite) : (s.withWaterSite x).free = s.free := rfl
@[simp] theorem State.withWaterSite_pins (s : State) (x : BlendSite) : (s.withWaterSite x).pins = s.pins := rfl
@[simp] theorem State.withWaterSite_start (s : State) (x : BlendSite) : (s.withWaterSite x).start = s.start := rfl
@[simp] theorem State.withWaterSite_line (s : State) (x : BlendSite) : (s.withWaterSite x).line = s.line := rfl
@[simp] theorem State.withWaterSite_peers (s : State) (x : BlendSite) : (s.withWaterSite x).peers = s.peers := rfl
@[simp] theorem State.withWaterSite_req (s : State) (x : BlendSite) : (s.withWaterSite x).req = s.req := rfl
@[simp] theorem State.withWaterSite_sp (s : State) (x : BlendSite) : (s.withWaterSite x).sp = { s.sp with wtr := x } := rfl
@[simp] theorem State.withWaterSite_drive (s : State) (x : BlendSite) : (s.withWaterSite x).drive = s.drive := rfl
@[simp] theorem State.withWaterSite_arm1 (s : State) (x : BlendSite) : (s.withWaterSite x).arm1 = s.arm1 := rfl
@[simp] theorem State.withWaterSite_arm2 (s : State) (x : BlendSite) : (s.withWaterSite x).arm2 = s.arm2 := rfl
@[simp] theorem State.withWaterSite_water (s : State) (x : BlendSite) : (s.withWaterSite x).water = s.water := rfl
@[simp] theorem State.withWaterSite_faults (s : State) (x : BlendSite) : (s.withWaterSite x).faults = s.faults := rfl

@[simp] theorem State.withPeer_pending (s : State) (n : Fin 15) (e : Option PeerEntry) :
    (s.withPeer n e).pending = s.pending := rfl
@[simp] theorem State.withPeer_free (s : State) (n : Fin 15) (e : Option PeerEntry) :
    (s.withPeer n e).free = s.free := rfl
@[simp] theorem State.withPeer_pins (s : State) (n : Fin 15) (e : Option PeerEntry) :
    (s.withPeer n e).pins = s.pins := rfl
@[simp] theorem State.withPeer_start (s : State) (n : Fin 15) (e : Option PeerEntry) :
    (s.withPeer n e).start = s.start := rfl
@[simp] theorem State.withPeer_line (s : State) (n : Fin 15) (e : Option PeerEntry) :
    (s.withPeer n e).line = s.line := rfl
@[simp] theorem State.withPeer_peers (s : State) (n : Fin 15) (e : Option PeerEntry) :
    (s.withPeer n e).peers = s.peers.set n e := rfl
@[simp] theorem State.withPeer_req (s : State) (n : Fin 15) (e : Option PeerEntry) :
    (s.withPeer n e).req = s.req := rfl
@[simp] theorem State.withPeer_sp (s : State) (n : Fin 15) (e : Option PeerEntry) :
    (s.withPeer n e).sp = s.sp := rfl
@[simp] theorem State.withPeer_drive (s : State) (n : Fin 15) (e : Option PeerEntry) :
    (s.withPeer n e).drive = s.drive := rfl
@[simp] theorem State.withPeer_arm1 (s : State) (n : Fin 15) (e : Option PeerEntry) :
    (s.withPeer n e).arm1 = s.arm1 := rfl
@[simp] theorem State.withPeer_arm2 (s : State) (n : Fin 15) (e : Option PeerEntry) :
    (s.withPeer n e).arm2 = s.arm2 := rfl
@[simp] theorem State.withPeer_water (s : State) (n : Fin 15) (e : Option PeerEntry) :
    (s.withPeer n e).water = s.water := rfl
@[simp] theorem State.withPeer_faults (s : State) (n : Fin 15) (e : Option PeerEntry) :
    (s.withPeer n e).faults = s.faults := rfl

@[simp] theorem State.withSwitch_pending (s : State) (i : Fin 8) (d : Debouncer) :
    (s.withSwitch i d).pending = s.pending := rfl
@[simp] theorem State.withSwitch_free (s : State) (i : Fin 8) (d : Debouncer) :
    (s.withSwitch i d).free = s.free := rfl
@[simp] theorem State.withSwitch_pins (s : State) (i : Fin 8) (d : Debouncer) :
    (s.withSwitch i d).pins = s.pins := rfl
@[simp] theorem State.withSwitch_start (s : State) (i : Fin 8) (d : Debouncer) :
    (s.withSwitch i d).start = s.start := rfl
@[simp] theorem State.withSwitch_line (s : State) (i : Fin 8) (d : Debouncer) :
    (s.withSwitch i d).line = s.line := rfl
@[simp] theorem State.withSwitch_peers (s : State) (i : Fin 8) (d : Debouncer) :
    (s.withSwitch i d).peers = s.peers := rfl
@[simp] theorem State.withSwitch_req (s : State) (i : Fin 8) (d : Debouncer) :
    (s.withSwitch i d).req = { s.req with switches := s.req.switches.set i d } := rfl
@[simp] theorem State.withSwitch_sp (s : State) (i : Fin 8) (d : Debouncer) :
    (s.withSwitch i d).sp = s.sp := rfl
@[simp] theorem State.withSwitch_drive (s : State) (i : Fin 8) (d : Debouncer) :
    (s.withSwitch i d).drive = s.drive := rfl
@[simp] theorem State.withSwitch_arm1 (s : State) (i : Fin 8) (d : Debouncer) :
    (s.withSwitch i d).arm1 = s.arm1 := rfl
@[simp] theorem State.withSwitch_arm2 (s : State) (i : Fin 8) (d : Debouncer) :
    (s.withSwitch i d).arm2 = s.arm2 := rfl
@[simp] theorem State.withSwitch_water (s : State) (i : Fin 8) (d : Debouncer) :
    (s.withSwitch i d).water = s.water := rfl
@[simp] theorem State.withSwitch_faults (s : State) (i : Fin 8) (d : Debouncer) :
    (s.withSwitch i d).faults = s.faults := rfl

end Sys2Proof.Machine
end

