-- ==== Sys2Proof/Laws/Faults.lean ====
section
/-! SUPPORT. What the fault unit's hand-overs, the counters and the report-due flag leave unchanged, and membership in a fault set. -/

namespace Sys2Proof.Machine

/-! ### setSticky -/

@[simp] theorem setSticky_pending (k : FaultKind) (s : State) : (setSticky k s).pending = s.pending := by
  unfold setSticky
  repeat' split
  all_goals simp
@[simp] theorem setSticky_free (k : FaultKind) (s : State) : (setSticky k s).free = s.free := by
  unfold setSticky
  repeat' split
  all_goals simp
@[simp] theorem setSticky_pins (k : FaultKind) (s : State) : (setSticky k s).pins = s.pins := by
  unfold setSticky
  repeat' split
  all_goals simp
@[simp] theorem setSticky_start (k : FaultKind) (s : State) : (setSticky k s).start = s.start := by
  unfold setSticky
  repeat' split
  all_goals simp
@[simp] theorem setSticky_peers (k : FaultKind) (s : State) : (setSticky k s).peers = s.peers := by
  unfold setSticky
  repeat' split
  all_goals simp
@[simp] theorem setSticky_req (k : FaultKind) (s : State) : (setSticky k s).req = s.req := by
  unfold setSticky
  repeat' split
  all_goals simp
@[simp] theorem setSticky_sp (k : FaultKind) (s : State) : (setSticky k s).sp = s.sp := by
  unfold setSticky
  repeat' split
  all_goals simp
@[simp] theorem setSticky_drive (k : FaultKind) (s : State) : (setSticky k s).drive = s.drive := by
  unfold setSticky
  repeat' split
  all_goals simp
@[simp] theorem setSticky_arm1 (k : FaultKind) (s : State) : (setSticky k s).arm1 = s.arm1 := by
  unfold setSticky
  repeat' split
  all_goals simp
@[simp] theorem setSticky_arm2 (k : FaultKind) (s : State) : (setSticky k s).arm2 = s.arm2 := by
  unfold setSticky
  repeat' split
  all_goals simp
@[simp] theorem setSticky_water (k : FaultKind) (s : State) : (setSticky k s).water = s.water := by
  unfold setSticky
  repeat' split
  all_goals simp

/-! ### handOver -/

@[simp] theorem handOver_pending (k : FaultKind) (p : Bool) (s : State) : (handOver k p s).pending = s.pending := by
  unfold handOver
  repeat' split
  all_goals simp
@[simp] theorem handOver_free (k : FaultKind) (p : Bool) (s : State) : (handOver k p s).free = s.free := by
  unfold handOver
  repeat' split
  all_goals simp
@[simp] theorem handOver_pins (k : FaultKind) (p : Bool) (s : State) : (handOver k p s).pins = s.pins := by
  unfold handOver
  repeat' split
  all_goals simp
@[simp] theorem handOver_start (k : FaultKind) (p : Bool) (s : State) : (handOver k p s).start = s.start := by
  unfold handOver
  repeat' split
  all_goals simp
@[simp] theorem handOver_peers (k : FaultKind) (p : Bool) (s : State) : (handOver k p s).peers = s.peers := by
  unfold handOver
  repeat' split
  all_goals simp
@[simp] theorem handOver_req (k : FaultKind) (p : Bool) (s : State) : (handOver k p s).req = s.req := by
  unfold handOver
  repeat' split
  all_goals simp
@[simp] theorem handOver_sp (k : FaultKind) (p : Bool) (s : State) : (handOver k p s).sp = s.sp := by
  unfold handOver
  repeat' split
  all_goals simp
@[simp] theorem handOver_drive (k : FaultKind) (p : Bool) (s : State) : (handOver k p s).drive = s.drive := by
  unfold handOver
  repeat' split
  all_goals simp
@[simp] theorem handOver_arm1 (k : FaultKind) (p : Bool) (s : State) : (handOver k p s).arm1 = s.arm1 := by
  unfold handOver
  repeat' split
  all_goals simp
@[simp] theorem handOver_arm2 (k : FaultKind) (p : Bool) (s : State) : (handOver k p s).arm2 = s.arm2 := by
  unfold handOver
  repeat' split
  all_goals simp
@[simp] theorem handOver_water (k : FaultKind) (p : Bool) (s : State) : (handOver k p s).water = s.water := by
  unfold handOver
  repeat' split
  all_goals simp

/-! ### handOverStall -/

@[simp] theorem handOverStall_pending (n : ArmId) (p : Bool) (s : State) : (handOverStall n p s).pending = s.pending := by
  cases n <;> (unfold handOverStall; repeat' split) <;> simp
@[simp] theorem handOverStall_free (n : ArmId) (p : Bool) (s : State) : (handOverStall n p s).free = s.free := by
  cases n <;> (unfold handOverStall; repeat' split) <;> simp
@[simp] theorem handOverStall_pins (n : ArmId) (p : Bool) (s : State) : (handOverStall n p s).pins = s.pins := by
  cases n <;> (unfold handOverStall; repeat' split) <;> simp
@[simp] theorem handOverStall_start (n : ArmId) (p : Bool) (s : State) : (handOverStall n p s).start = s.start := by
  cases n <;> (unfold handOverStall; repeat' split) <;> simp
@[simp] theorem handOverStall_peers (n : ArmId) (p : Bool) (s : State) : (handOverStall n p s).peers = s.peers := by
  cases n <;> (unfold handOverStall; repeat' split) <;> simp
@[simp] theorem handOverStall_req (n : ArmId) (p : Bool) (s : State) : (handOverStall n p s).req = s.req := by
  cases n <;> (unfold handOverStall; repeat' split) <;> simp
@[simp] theorem handOverStall_sp (n : ArmId) (p : Bool) (s : State) : (handOverStall n p s).sp = s.sp := by
  cases n <;> (unfold handOverStall; repeat' split) <;> simp
@[simp] theorem handOverStall_drive (n : ArmId) (p : Bool) (s : State) : (handOverStall n p s).drive = s.drive := by
  cases n <;> (unfold handOverStall; repeat' split) <;> simp
@[simp] theorem handOverStall_arm1 (n : ArmId) (p : Bool) (s : State) : (handOverStall n p s).arm1 = s.arm1 := by
  cases n <;> (unfold handOverStall; repeat' split) <;> simp
@[simp] theorem handOverStall_arm2 (n : ArmId) (p : Bool) (s : State) : (handOverStall n p s).arm2 = s.arm2 := by
  cases n <;> (unfold handOverStall; repeat' split) <;> simp
@[simp] theorem handOverStall_water (n : ArmId) (p : Bool) (s : State) : (handOverStall n p s).water = s.water := by
  cases n <;> (unfold handOverStall; repeat' split) <;> simp

/-! ### raiseOnce -/

@[simp] theorem raiseOnce_pending (k : FaultKind) (s : State) : (raiseOnce k s).pending = s.pending := by
  unfold raiseOnce
  simp
@[simp] theorem raiseOnce_free (k : FaultKind) (s : State) : (raiseOnce k s).free = s.free := by
  unfold raiseOnce
  simp
@[simp] theorem raiseOnce_pins (k : FaultKind) (s : State) : (raiseOnce k s).pins = s.pins := by
  unfold raiseOnce
  simp
@[simp] theorem raiseOnce_start (k : FaultKind) (s : State) : (raiseOnce k s).start = s.start := by
  unfold raiseOnce
  simp
@[simp] theorem raiseOnce_peers (k : FaultKind) (s : State) : (raiseOnce k s).peers = s.peers := by
  unfold raiseOnce
  simp
@[simp] theorem raiseOnce_req (k : FaultKind) (s : State) : (raiseOnce k s).req = s.req := by
  unfold raiseOnce
  simp
@[simp] theorem raiseOnce_sp (k : FaultKind) (s : State) : (raiseOnce k s).sp = s.sp := by
  unfold raiseOnce
  simp
@[simp] theorem raiseOnce_drive (k : FaultKind) (s : State) : (raiseOnce k s).drive = s.drive := by
  unfold raiseOnce
  simp
@[simp] theorem raiseOnce_arm1 (k : FaultKind) (s : State) : (raiseOnce k s).arm1 = s.arm1 := by
  unfold raiseOnce
  simp
@[simp] theorem raiseOnce_arm2 (k : FaultKind) (s : State) : (raiseOnce k s).arm2 = s.arm2 := by
  unfold raiseOnce
  simp
@[simp] theorem raiseOnce_water (k : FaultKind) (s : State) : (raiseOnce k s).water = s.water := by
  unfold raiseOnce
  simp

/-! ### countCheckError -/

@[simp] theorem countCheckError_pending (s : State) : (countCheckError s).pending = s.pending :=
  rfl
@[simp] theorem countCheckError_free (s : State) : (countCheckError s).free = s.free :=
  rfl
@[simp] theorem countCheckError_pins (s : State) : (countCheckError s).pins = s.pins :=
  rfl
@[simp] theorem countCheckError_start (s : State) : (countCheckError s).start = s.start :=
  rfl
@[simp] theorem countCheckError_peers (s : State) : (countCheckError s).peers = s.peers :=
  rfl
@[simp] theorem countCheckError_req (s : State) : (countCheckError s).req = s.req :=
  rfl
@[simp] theorem countCheckError_sp (s : State) : (countCheckError s).sp = s.sp :=
  rfl
@[simp] theorem countCheckError_drive (s : State) : (countCheckError s).drive = s.drive :=
  rfl
@[simp] theorem countCheckError_arm1 (s : State) : (countCheckError s).arm1 = s.arm1 :=
  rfl
@[simp] theorem countCheckError_arm2 (s : State) : (countCheckError s).arm2 = s.arm2 :=
  rfl
@[simp] theorem countCheckError_water (s : State) : (countCheckError s).water = s.water :=
  rfl
@[simp] theorem countCheckError_faults (s : State) : (countCheckError s).faults = s.faults :=
  rfl

/-! ### countMissed -/

@[simp] theorem countMissed_pending (s : State) : (countMissed s).pending = s.pending :=
  rfl
@[simp] theorem countMissed_free (s : State) : (countMissed s).free = s.free :=
  rfl
@[simp] theorem countMissed_pins (s : State) : (countMissed s).pins = s.pins :=
  rfl
@[simp] theorem countMissed_start (s : State) : (countMissed s).start = s.start :=
  rfl
@[simp] theorem countMissed_peers (s : State) : (countMissed s).peers = s.peers :=
  rfl
@[simp] theorem countMissed_req (s : State) : (countMissed s).req = s.req :=
  rfl
@[simp] theorem countMissed_sp (s : State) : (countMissed s).sp = s.sp :=
  rfl
@[simp] theorem countMissed_drive (s : State) : (countMissed s).drive = s.drive :=
  rfl
@[simp] theorem countMissed_arm1 (s : State) : (countMissed s).arm1 = s.arm1 :=
  rfl
@[simp] theorem countMissed_arm2 (s : State) : (countMissed s).arm2 = s.arm2 :=
  rfl
@[simp] theorem countMissed_water (s : State) : (countMissed s).water = s.water :=
  rfl
@[simp] theorem countMissed_faults (s : State) : (countMissed s).faults = s.faults :=
  rfl

/-! ### countDuplicate -/

@[simp] theorem countDuplicate_pending (s : State) : (countDuplicate s).pending = s.pending :=
  rfl
@[simp] theorem countDuplicate_free (s : State) : (countDuplicate s).free = s.free :=
  rfl
@[simp] theorem countDuplicate_pins (s : State) : (countDuplicate s).pins = s.pins :=
  rfl
@[simp] theorem countDuplicate_start (s : State) : (countDuplicate s).start = s.start :=
  rfl
@[simp] theorem countDuplicate_peers (s : State) : (countDuplicate s).peers = s.peers :=
  rfl
@[simp] theorem countDuplicate_req (s : State) : (countDuplicate s).req = s.req :=
  rfl
@[simp] theorem countDuplicate_sp (s : State) : (countDuplicate s).sp = s.sp :=
  rfl
@[simp] theorem countDuplicate_drive (s : State) : (countDuplicate s).drive = s.drive :=
  rfl
@[simp] theorem countDuplicate_arm1 (s : State) : (countDuplicate s).arm1 = s.arm1 :=
  rfl
@[simp] theorem countDuplicate_arm2 (s : State) : (countDuplicate s).arm2 = s.arm2 :=
  rfl
@[simp] theorem countDuplicate_water (s : State) : (countDuplicate s).water = s.water :=
  rfl
@[simp] theorem countDuplicate_faults (s : State) : (countDuplicate s).faults = s.faults :=
  rfl

/-! ### countGap -/

@[simp] theorem countGap_pending (s : State) : (countGap s).pending = s.pending :=
  rfl
@[simp] theorem countGap_free (s : State) : (countGap s).free = s.free :=
  rfl
@[simp] theorem countGap_pins (s : State) : (countGap s).pins = s.pins :=
  rfl
@[simp] theorem countGap_start (s : State) : (countGap s).start = s.start :=
  rfl
@[simp] theorem countGap_peers (s : State) : (countGap s).peers = s.peers :=
  rfl
@[simp] theorem countGap_req (s : State) : (countGap s).req = s.req :=
  rfl
@[simp] theorem countGap_sp (s : State) : (countGap s).sp = s.sp :=
  rfl
@[simp] theorem countGap_drive (s : State) : (countGap s).drive = s.drive :=
  rfl
@[simp] theorem countGap_arm1 (s : State) : (countGap s).arm1 = s.arm1 :=
  rfl
@[simp] theorem countGap_arm2 (s : State) : (countGap s).arm2 = s.arm2 :=
  rfl
@[simp] theorem countGap_water (s : State) : (countGap s).water = s.water :=
  rfl
@[simp] theorem countGap_faults (s : State) : (countGap s).faults = s.faults :=
  rfl

/-! ### countOrphan -/

@[simp] theorem countOrphan_pending (s : State) : (countOrphan s).pending = s.pending :=
  rfl
@[simp] theorem countOrphan_free (s : State) : (countOrphan s).free = s.free :=
  rfl
@[simp] theorem countOrphan_pins (s : State) : (countOrphan s).pins = s.pins :=
  rfl
@[simp] theorem countOrphan_start (s : State) : (countOrphan s).start = s.start :=
  rfl
@[simp] theorem countOrphan_peers (s : State) : (countOrphan s).peers = s.peers :=
  rfl
@[simp] theorem countOrphan_req (s : State) : (countOrphan s).req = s.req :=
  rfl
@[simp] theorem countOrphan_sp (s : State) : (countOrphan s).sp = s.sp :=
  rfl
@[simp] theorem countOrphan_drive (s : State) : (countOrphan s).drive = s.drive :=
  rfl
@[simp] theorem countOrphan_arm1 (s : State) : (countOrphan s).arm1 = s.arm1 :=
  rfl
@[simp] theorem countOrphan_arm2 (s : State) : (countOrphan s).arm2 = s.arm2 :=
  rfl
@[simp] theorem countOrphan_water (s : State) : (countOrphan s).water = s.water :=
  rfl
@[simp] theorem countOrphan_faults (s : State) : (countOrphan s).faults = s.faults :=
  rfl

/-! ### countUnmatched -/

@[simp] theorem countUnmatched_pending (s : State) : (countUnmatched s).pending = s.pending :=
  rfl
@[simp] theorem countUnmatched_free (s : State) : (countUnmatched s).free = s.free :=
  rfl
@[simp] theorem countUnmatched_pins (s : State) : (countUnmatched s).pins = s.pins :=
  rfl
@[simp] theorem countUnmatched_start (s : State) : (countUnmatched s).start = s.start :=
  rfl
@[simp] theorem countUnmatched_peers (s : State) : (countUnmatched s).peers = s.peers :=
  rfl
@[simp] theorem countUnmatched_req (s : State) : (countUnmatched s).req = s.req :=
  rfl
@[simp] theorem countUnmatched_sp (s : State) : (countUnmatched s).sp = s.sp :=
  rfl
@[simp] theorem countUnmatched_drive (s : State) : (countUnmatched s).drive = s.drive :=
  rfl
@[simp] theorem countUnmatched_arm1 (s : State) : (countUnmatched s).arm1 = s.arm1 :=
  rfl
@[simp] theorem countUnmatched_arm2 (s : State) : (countUnmatched s).arm2 = s.arm2 :=
  rfl
@[simp] theorem countUnmatched_water (s : State) : (countUnmatched s).water = s.water :=
  rfl
@[simp] theorem countUnmatched_faults (s : State) : (countUnmatched s).faults = s.faults :=
  rfl

/-! ### makeDue -/

@[simp] theorem makeDue_pending (s : State) : (makeDue s).pending = s.pending := by
  unfold makeDue
  repeat' split
  all_goals simp
@[simp] theorem makeDue_free (s : State) : (makeDue s).free = s.free := by
  unfold makeDue
  repeat' split
  all_goals simp
@[simp] theorem makeDue_pins (s : State) : (makeDue s).pins = s.pins := by
  unfold makeDue
  repeat' split
  all_goals simp
@[simp] theorem makeDue_start (s : State) : (makeDue s).start = s.start := by
  unfold makeDue
  repeat' split
  all_goals simp
@[simp] theorem makeDue_peers (s : State) : (makeDue s).peers = s.peers := by
  unfold makeDue
  repeat' split
  all_goals simp
@[simp] theorem makeDue_req (s : State) : (makeDue s).req = s.req := by
  unfold makeDue
  repeat' split
  all_goals simp
@[simp] theorem makeDue_sp (s : State) : (makeDue s).sp = s.sp := by
  unfold makeDue
  repeat' split
  all_goals simp
@[simp] theorem makeDue_drive (s : State) : (makeDue s).drive = s.drive := by
  unfold makeDue
  repeat' split
  all_goals simp
@[simp] theorem makeDue_arm1 (s : State) : (makeDue s).arm1 = s.arm1 := by
  unfold makeDue
  repeat' split
  all_goals simp
@[simp] theorem makeDue_arm2 (s : State) : (makeDue s).arm2 = s.arm2 := by
  unfold makeDue
  repeat' split
  all_goals simp
@[simp] theorem makeDue_water (s : State) : (makeDue s).water = s.water := by
  unfold makeDue
  repeat' split
  all_goals simp
@[simp] theorem makeDue_faults (s : State) : (makeDue s).faults = s.faults := by
  unfold makeDue
  repeat' split
  all_goals simp

/-! ### testInherited -/

@[simp] theorem testInherited_pending (s : State) : (testInherited s).pending = s.pending := by
  unfold testInherited
  repeat' split
  all_goals simp
@[simp] theorem testInherited_free (s : State) : (testInherited s).free = s.free := by
  unfold testInherited
  repeat' split
  all_goals simp
@[simp] theorem testInherited_pins (s : State) : (testInherited s).pins = s.pins := by
  unfold testInherited
  repeat' split
  all_goals simp
@[simp] theorem testInherited_start (s : State) : (testInherited s).start = s.start := by
  unfold testInherited
  repeat' split
  all_goals simp
@[simp] theorem testInherited_peers (s : State) : (testInherited s).peers = s.peers := by
  unfold testInherited
  repeat' split
  all_goals simp
@[simp] theorem testInherited_req (s : State) : (testInherited s).req = s.req := by
  unfold testInherited
  repeat' split
  all_goals simp
@[simp] theorem testInherited_sp (s : State) : (testInherited s).sp = s.sp := by
  unfold testInherited
  repeat' split
  all_goals simp
@[simp] theorem testInherited_drive (s : State) : (testInherited s).drive = s.drive := by
  unfold testInherited
  repeat' split
  all_goals simp
@[simp] theorem testInherited_arm1 (s : State) : (testInherited s).arm1 = s.arm1 := by
  unfold testInherited
  repeat' split
  all_goals simp
@[simp] theorem testInherited_arm2 (s : State) : (testInherited s).arm2 = s.arm2 := by
  unfold testInherited
  repeat' split
  all_goals simp
@[simp] theorem testInherited_water (s : State) : (testInherited s).water = s.water := by
  unfold testInherited
  repeat' split
  all_goals simp

/-! ### dropInherited -/

@[simp] theorem dropInherited_pending (s : State) : (dropInherited s).pending = s.pending := by
  unfold dropInherited
  simp
@[simp] theorem dropInherited_free (s : State) : (dropInherited s).free = s.free := by
  unfold dropInherited
  simp
@[simp] theorem dropInherited_pins (s : State) : (dropInherited s).pins = s.pins := by
  unfold dropInherited
  simp
@[simp] theorem dropInherited_start (s : State) : (dropInherited s).start = s.start := by
  unfold dropInherited
  simp
@[simp] theorem dropInherited_peers (s : State) : (dropInherited s).peers = s.peers := by
  unfold dropInherited
  simp
@[simp] theorem dropInherited_req (s : State) : (dropInherited s).req = s.req := by
  unfold dropInherited
  simp
@[simp] theorem dropInherited_sp (s : State) : (dropInherited s).sp = s.sp := by
  unfold dropInherited
  simp
@[simp] theorem dropInherited_drive (s : State) : (dropInherited s).drive = s.drive := by
  unfold dropInherited
  simp
@[simp] theorem dropInherited_arm1 (s : State) : (dropInherited s).arm1 = s.arm1 := by
  unfold dropInherited
  simp
@[simp] theorem dropInherited_arm2 (s : State) : (dropInherited s).arm2 = s.arm2 := by
  unfold dropInherited
  simp
@[simp] theorem dropInherited_water (s : State) : (dropInherited s).water = s.water := by
  unfold dropInherited
  simp

/-! ### Membership -/

theorem FaultKind.num_lt (k : FaultKind) : k.num < 16 := by
  cases k <;> decide

theorem FaultKind.num_inj {j k : FaultKind} (h : j.num = k.num) : j = k := by
  cases j <;> cases k <;> first | rfl | exact absurd h (by decide)

theorem hasKind_bit (k j : FaultKind) : k.bit.getLsbD j.num = decide (j = k) := by
  cases k <;> cases j <;> rfl

/-- A set after a member is put in or taken out holds that member as put and every other one as before. -/
theorem hasKind_putKind (set : FaultSet) (k j : FaultKind) (present : Bool) :
    hasKind (putKind set k present) j = if j = k then present else hasKind set j := by
  have hj := j.num_lt
  by_cases h : j = k
  · subst h
    cases present <;> simp [hasKind, putKind, hasKind_bit, hj]
  · have hb : k.bit[j.num] = false := by
      rw [← BitVec.getLsbD_eq_getElem, hasKind_bit]
      exact decide_eq_false h
    cases present <;> simp [hasKind, putKind, h, hb, hj]

theorem sticky_setSticky (k j : FaultKind) (s : State) :
    sticky j (setSticky k s) = if j = k then true else sticky j s := by
  unfold setSticky
  split <;> simp [sticky, hasKind_putKind]

/-- Only a trip kind that was not sticky reaches the ALERT slot (R163). -/
theorem setSticky_line (k : FaultKind) (s : State) :
    (setSticky k s).line
      = if k.isTrip && !sticky k s then { s.line with alertSlot := some k } else s.line := by
  unfold setSticky
  split <;> simp

theorem setSticky_cause (k : FaultKind) (s : State) :
    (setSticky k s).faults.cause = s.faults.cause := by
  unfold setSticky
  split <;> simp

end Sys2Proof.Machine
end

