-- ==== Sys2Proof/Laws/Arms.lean ====
section
/-! SUPPORT. What the shared arm operations leave unchanged, and the arm they leave. -/

namespace Sys2Proof.Machine

/-! ### endOperations -/

@[simp] theorem endOperations_pending (n : ArmId) (s : State) : (endOperations n s).pending = s.pending := by
  unfold endOperations
  simp
@[simp] theorem endOperations_free (n : ArmId) (s : State) : (endOperations n s).free = s.free := by
  unfold endOperations
  simp
@[simp] theorem endOperations_pins (n : ArmId) (s : State) : (endOperations n s).pins = s.pins := by
  unfold endOperations
  simp
@[simp] theorem endOperations_start (n : ArmId) (s : State) : (endOperations n s).start = s.start := by
  unfold endOperations
  simp
@[simp] theorem endOperations_line (n : ArmId) (s : State) : (endOperations n s).line = s.line := by
  unfold endOperations
  simp
@[simp] theorem endOperations_peers (n : ArmId) (s : State) : (endOperations n s).peers = s.peers := by
  unfold endOperations
  simp
@[simp] theorem endOperations_sp (n : ArmId) (s : State) : (endOperations n s).sp = s.sp := by
  unfold endOperations
  simp
@[simp] theorem endOperations_drive (n : ArmId) (s : State) : (endOperations n s).drive = s.drive := by
  unfold endOperations
  simp
@[simp] theorem endOperations_arm1 (n : ArmId) (s : State) : (endOperations n s).arm1 = s.arm1 := by
  unfold endOperations
  simp
@[simp] theorem endOperations_arm2 (n : ArmId) (s : State) : (endOperations n s).arm2 = s.arm2 := by
  unfold endOperations
  simp
@[simp] theorem endOperations_water (n : ArmId) (s : State) : (endOperations n s).water = s.water := by
  unfold endOperations
  simp
@[simp] theorem endOperations_faults (n : ArmId) (s : State) : (endOperations n s).faults = s.faults := by
  unfold endOperations
  simp

/-! ### stopBrush -/

@[simp] theorem stopBrush_pending (n : ArmId) (s : State) : (stopBrush n s).pending = s.pending := by
  unfold stopBrush
  simp
@[simp] theorem stopBrush_free (n : ArmId) (s : State) : (stopBrush n s).free = s.free := by
  unfold stopBrush
  simp
@[simp] theorem stopBrush_pins (n : ArmId) (s : State) : (stopBrush n s).pins = s.pins := by
  unfold stopBrush
  simp
@[simp] theorem stopBrush_start (n : ArmId) (s : State) : (stopBrush n s).start = s.start := by
  unfold stopBrush
  simp
@[simp] theorem stopBrush_line (n : ArmId) (s : State) : (stopBrush n s).line = s.line := by
  unfold stopBrush
  simp
@[simp] theorem stopBrush_peers (n : ArmId) (s : State) : (stopBrush n s).peers = s.peers := by
  unfold stopBrush
  simp
@[simp] theorem stopBrush_req (n : ArmId) (s : State) : (stopBrush n s).req = s.req := by
  unfold stopBrush
  simp
@[simp] theorem stopBrush_drive (n : ArmId) (s : State) : (stopBrush n s).drive = s.drive := by
  unfold stopBrush
  simp
@[simp] theorem stopBrush_water (n : ArmId) (s : State) : (stopBrush n s).water = s.water := by
  unfold stopBrush
  simp
@[simp] theorem stopBrush_faults (n : ArmId) (s : State) : (stopBrush n s).faults = s.faults := by
  unfold stopBrush
  simp

/-! ### enterArm -/

@[simp] theorem enterArm_pending (n : ArmId) (st : ArmState) (r : Bool) (s : State) : (enterArm n st r s).pending = s.pending := by
  simp only [enterArm]
  split_ifs <;> simp
@[simp] theorem enterArm_free (n : ArmId) (st : ArmState) (r : Bool) (s : State) : (enterArm n st r s).free = s.free := by
  simp only [enterArm]
  split_ifs <;> simp
@[simp] theorem enterArm_pins (n : ArmId) (st : ArmState) (r : Bool) (s : State) : (enterArm n st r s).pins = s.pins := by
  simp only [enterArm]
  split_ifs <;> simp
@[simp] theorem enterArm_start (n : ArmId) (st : ArmState) (r : Bool) (s : State) : (enterArm n st r s).start = s.start := by
  simp only [enterArm]
  split_ifs <;> simp
@[simp] theorem enterArm_peers (n : ArmId) (st : ArmState) (r : Bool) (s : State) : (enterArm n st r s).peers = s.peers := by
  simp only [enterArm]
  split_ifs <;> simp
@[simp] theorem enterArm_drive (n : ArmId) (st : ArmState) (r : Bool) (s : State) : (enterArm n st r s).drive = s.drive := by
  simp only [enterArm]
  split_ifs <;> simp
@[simp] theorem enterArm_water (n : ArmId) (st : ArmState) (r : Bool) (s : State) : (enterArm n st r s).water = s.water := by
  simp only [enterArm]
  split_ifs <;> simp
@[simp] theorem enterArm_faults (n : ArmId) (st : ArmState) (r : Bool) (s : State) : (enterArm n st r s).faults = s.faults := by
  simp only [enterArm]
  split_ifs <;> simp

/-! ### stowDemand -/

@[simp] theorem stowDemand_pending (n : ArmId) (s : State) : (stowDemand n s).pending = s.pending := by
  unfold stowDemand
  repeat' split
  all_goals simp
@[simp] theorem stowDemand_free (n : ArmId) (s : State) : (stowDemand n s).free = s.free := by
  unfold stowDemand
  repeat' split
  all_goals simp
@[simp] theorem stowDemand_pins (n : ArmId) (s : State) : (stowDemand n s).pins = s.pins := by
  unfold stowDemand
  repeat' split
  all_goals simp
@[simp] theorem stowDemand_start (n : ArmId) (s : State) : (stowDemand n s).start = s.start := by
  unfold stowDemand
  repeat' split
  all_goals simp
@[simp] theorem stowDemand_peers (n : ArmId) (s : State) : (stowDemand n s).peers = s.peers := by
  unfold stowDemand
  repeat' split
  all_goals simp
@[simp] theorem stowDemand_drive (n : ArmId) (s : State) : (stowDemand n s).drive = s.drive := by
  unfold stowDemand
  repeat' split
  all_goals simp
@[simp] theorem stowDemand_water (n : ArmId) (s : State) : (stowDemand n s).water = s.water := by
  unfold stowDemand
  repeat' split
  all_goals simp
@[simp] theorem stowDemand_faults (n : ArmId) (s : State) : (stowDemand n s).faults = s.faults := by
  unfold stowDemand
  repeat' split
  all_goals simp

/-! ### silenceArm -/

@[simp] theorem silenceArm_pending (n : ArmId) (s : State) : (silenceArm n s).pending = s.pending := by
  unfold silenceArm
  repeat' split
  all_goals simp
@[simp] theorem silenceArm_free (n : ArmId) (s : State) : (silenceArm n s).free = s.free := by
  unfold silenceArm
  repeat' split
  all_goals simp
@[simp] theorem silenceArm_pins (n : ArmId) (s : State) : (silenceArm n s).pins = s.pins := by
  unfold silenceArm
  repeat' split
  all_goals simp
@[simp] theorem silenceArm_start (n : ArmId) (s : State) : (silenceArm n s).start = s.start := by
  unfold silenceArm
  repeat' split
  all_goals simp
@[simp] theorem silenceArm_peers (n : ArmId) (s : State) : (silenceArm n s).peers = s.peers := by
  unfold silenceArm
  repeat' split
  all_goals simp
@[simp] theorem silenceArm_drive (n : ArmId) (s : State) : (silenceArm n s).drive = s.drive := by
  unfold silenceArm
  repeat' split
  all_goals simp
@[simp] theorem silenceArm_water (n : ArmId) (s : State) : (silenceArm n s).water = s.water := by
  unfold silenceArm
  repeat' split
  all_goals simp
@[simp] theorem silenceArm_faults (n : ArmId) (s : State) : (silenceArm n s).faults = s.faults := by
  unfold silenceArm
  repeat' split
  all_goals simp

/-! ### The arm that an operation leaves -/

@[simp] theorem endOperations_arm (n m : ArmId) (s : State) : (endOperations n s).arm m = s.arm m := by
  cases m <;> simp [State.arm]

@[simp] theorem makeDue_arm (m : ArmId) (s : State) : (makeDue s).arm m = s.arm m := by
  cases m <;> simp [State.arm]

/-- The arm that stops its brush has command 0 and is otherwise unchanged (R87). -/
theorem stopBrush_arm_self (n : ArmId) (s : State) :
    (stopBrush n s).arm n = { s.arm n with command := 0 } := by
  cases n <;> rfl

theorem stopBrush_arm_other {n m : ArmId} (h : m ≠ n) (s : State) :
    (stopBrush n s).arm m = s.arm m := by
  cases n <;> cases m <;> first | rfl | exact absurd rfl h

/-- The entered arm has the state and the resume flag it was given. -/
theorem enterArm_state (n : ArmId) (st : ArmState) (r : Bool) (s : State) :
    ((enterArm n st r s).arm n).state = st ∧ ((enterArm n st r s).arm n).resume = r := by
  simp only [enterArm]
  split_ifs <;> (try simp only [endOperations_arm, makeDue_arm]) <;> cases n <;> exact ⟨rfl, rfl⟩

/-- The other arm is unchanged. -/
theorem enterArm_arm_other {n m : ArmId} (h : m ≠ n) (st : ArmState) (r : Bool) (s : State) :
    (enterArm n st r s).arm m = s.arm m := by
  simp only [enterArm]
  split_ifs <;> (try simp only [endOperations_arm, makeDue_arm]) <;> cases n <;> cases m <;>
    first | exact absurd rfl h | rfl

end Sys2Proof.Machine
end

