-- ==== Sys2Proof/Laws/Clock.lean ====
section
/-! SUPPORT. When a timer is due, and which expiries join the queue. -/

namespace Sys2Proof.Machine

theorem Timer.reached_iff (t : Timer) (limit : Nat) :
    Timer.reached t limit = true ↔ ∃ ms, t = some ms ∧ limit ≤ ms := by
  cases t <;> simp [Timer.reached]

theorem dueBy_iff (s : State) (t : Timer) (limit : StartBlock → Nat) :
    dueBy s t limit = true ↔ ∃ b, s.start.image = some b ∧ ∃ ms, t = some ms ∧ limit b ≤ ms := by
  unfold dueBy
  cases s.start.image <;> simp [Timer.reached_iff]

@[simp] theorem mem_whenDue (due : Bool) (c i : Instr) : c ∈ whenDue due i ↔ due = true ∧ c = i := by
  cases due <;> simp [whenDue]

theorem mem_peerExpiry (s : State) (n : Fin 15) (c : Instr) :
    c ∈ peerExpiry s n ↔ (lostDue n s = true ∧ c = .lostExpiry n)
      ∨ (lostDue n s = false ∧ staleDue n s = true ∧ c = .staleExpiry n) := by
  unfold peerExpiry
  cases h : lostDue n s <;> simp

/-- Which expiries join the queue of a millisecond. -/
theorem mem_dueExpiries (s : State) (c : Instr) :
    c ∈ dueExpiries s ↔
      (joinDue s = true ∧ c = .joinTimerExpiry)
      ∨ (parkDue s = true ∧ c = .parkTimerExpiry) ∨ (dwellDue s = true ∧ c = .dwellTimerExpiry)
      ∨ (speedSilenceDue s = true ∧ c = .speedSilenceExpiry)
      ∨ (engineSilenceDue s = true ∧ c = .engineSilenceExpiry) ∨ (bucketDue s = true ∧ c = .bucketClose)
      ∨ (∃ n, (moveDue n s = true ∧ c = .moveTimerExpiry n) ∨ (blindDue n s = true ∧ c = .blindTimerExpiry n))
      ∨ (primeDue s = true ∧ c = .primeTimerExpiry) ∨ (lossDue s = true ∧ c = .lossTimerExpiry)
      ∨ (dryWaitDue s = true ∧ c = .dryWaitExpiry) ∨ (patternDue s = true ∧ c = .patternTimerExpiry)
      ∨ (∃ n, (lostDue n s = true ∧ c = .lostExpiry n)
          ∨ (lostDue n s = false ∧ staleDue n s = true ∧ c = .staleExpiry n))
      ∨ (∃ e ∈ s.req.table, discardDue e s = true ∧ c = .entryDiscard e.requester e.tag)
      ∨ (∃ e ∈ s.req.outgoing, repeatDue e s = true ∧ c = .repeatTimerExpiry e.tag)
      ∨ (∃ i, settlingDue i s = true ∧ c = .settlingTimerExpiry i)
      ∨ (reportTimerDue s = true ∧ c = .reportTimerExpiry) ∨ (guardDue s = true ∧ c = .babbleGuardCutoff) := by
  have arms : ∀ p : ArmId → Prop, (∃ n, p n) ↔ p .one ∨ p .two := fun p =>
    ⟨fun ⟨n, h⟩ => by cases n <;> simp [h], fun h => h.elim (⟨_, ·⟩) (⟨_, ·⟩)⟩
  simp only [dueExpiries, driveExpiries, armExpiries, waterExpiries, requestExpiries, lineExpiries, List.mem_append,
    mem_whenDue, List.mem_flatMap, List.mem_finRange, true_and, mem_peerExpiry, List.mem_map, List.mem_filter, arms,
    or_assoc, and_assoc, eq_comm (b := c)]

end Sys2Proof.Machine
end

