-- ==== Sys2Proof/Laws/Drive.lean ====
section
/-! SUPPORT. What the steps of a drive period leave unchanged, and the ramp and drive the trip test leaves. -/

namespace Sys2Proof.Machine

/-- nE is BAD exactly while ENGINE_SENSOR is active or its effect stands (R45, R161). -/
theorem ownEngineQuality_bad (s : State) :
    ownEngineQuality s = .bad ↔ active .engineSensor s = true ∨ s.drive.engineBad = true := by
  unfold ownEngineQuality
  split <;> simp_all
  split <;> simp

/-- At a drive period or bucket close nE is BAD exactly while ENGINE_SENSOR is active (R45, R161, R167). -/
theorem takeEngineSensor_quality (s : State) :
    ownEngineQuality (s.withDrive (takeEngineSensor s)) = .bad ↔ active .engineSensor s = true := by
  rw [ownEngineQuality_bad]
  simp [takeEngineSensor, active, State.withDrive]

/-- The only part of the setpoint state that `freshDrvRamp` changes is the marker of the DRV ramp. -/
@[simp] theorem freshDrvRamp_sp (s : State) :
    (freshDrvRamp s).sp = { s.sp with drv := { s.sp.drv with ramp := s.sp.drv.ramp.unset } } := rfl

/-! ### freshDrvRamp -/

@[simp] theorem freshDrvRamp_pending (s : State) : (freshDrvRamp s).pending = s.pending := rfl
@[simp] theorem freshDrvRamp_free (s : State) : (freshDrvRamp s).free = s.free := rfl
@[simp] theorem freshDrvRamp_pins (s : State) : (freshDrvRamp s).pins = s.pins := rfl
@[simp] theorem freshDrvRamp_start (s : State) : (freshDrvRamp s).start = s.start := rfl
@[simp] theorem freshDrvRamp_line (s : State) : (freshDrvRamp s).line = s.line := rfl
@[simp] theorem freshDrvRamp_peers (s : State) : (freshDrvRamp s).peers = s.peers := rfl
@[simp] theorem freshDrvRamp_req (s : State) : (freshDrvRamp s).req = s.req := rfl
@[simp] theorem freshDrvRamp_drive (s : State) : (freshDrvRamp s).drive = s.drive := rfl
@[simp] theorem freshDrvRamp_arm1 (s : State) : (freshDrvRamp s).arm1 = s.arm1 := rfl
@[simp] theorem freshDrvRamp_arm2 (s : State) : (freshDrvRamp s).arm2 = s.arm2 := rfl
@[simp] theorem freshDrvRamp_water (s : State) : (freshDrvRamp s).water = s.water := rfl
@[simp] theorem freshDrvRamp_faults (s : State) : (freshDrvRamp s).faults = s.faults := rfl

/-! ### tripTest -/

@[simp] theorem tripTest_pending (s : State) : (tripTest s).pending = s.pending := by
  unfold tripTest
  repeat' split
  all_goals rfl
@[simp] theorem tripTest_free (s : State) : (tripTest s).free = s.free := by
  unfold tripTest
  repeat' split
  all_goals rfl
@[simp] theorem tripTest_pins (s : State) : (tripTest s).pins = s.pins := by
  unfold tripTest
  repeat' split
  all_goals rfl
@[simp] theorem tripTest_start (s : State) : (tripTest s).start = s.start := by
  unfold tripTest
  repeat' split
  all_goals rfl
@[simp] theorem tripTest_line (s : State) : (tripTest s).line = s.line := by
  unfold tripTest
  repeat' split
  all_goals rfl
@[simp] theorem tripTest_peers (s : State) : (tripTest s).peers = s.peers := by
  unfold tripTest
  repeat' split
  all_goals rfl
@[simp] theorem tripTest_req (s : State) : (tripTest s).req = s.req := by
  unfold tripTest
  repeat' split
  all_goals rfl
@[simp] theorem tripTest_arm1 (s : State) : (tripTest s).arm1 = s.arm1 := by
  unfold tripTest
  repeat' split
  all_goals rfl
@[simp] theorem tripTest_arm2 (s : State) : (tripTest s).arm2 = s.arm2 := by
  unfold tripTest
  repeat' split
  all_goals rfl
@[simp] theorem tripTest_water (s : State) : (tripTest s).water = s.water := by
  unfold tripTest
  repeat' split
  all_goals rfl
@[simp] theorem tripTest_faults (s : State) : (tripTest s).faults = s.faults := by
  unfold tripTest
  repeat' split
  all_goals rfl

/-- What the trip test can do: nothing, or entry to TRIPPED with the ramp marked not set up (R54, R59). -/
theorem tripTest_cases (s : State) :
    tripTest s = s
      ∨ (s.drive.state ≠ .tripped ∧ tripTest s = freshDrvRamp (s.withDrive (enterTripped s.drive))) := by
  unfold tripTest
  split
  · next h => exact Or.inr ⟨h.1, rfl⟩
  · exact Or.inl rfl

/-! ### periodTripped -/

@[simp] theorem periodTripped_pending (s : State) : (periodTripped s).pending = s.pending := by
  unfold periodTripped
  repeat' split
  all_goals rfl
@[simp] theorem periodTripped_free (s : State) : (periodTripped s).free = s.free := by
  unfold periodTripped
  repeat' split
  all_goals rfl
@[simp] theorem periodTripped_pins (s : State) : (periodTripped s).pins = s.pins := by
  unfold periodTripped
  repeat' split
  all_goals rfl
@[simp] theorem periodTripped_start (s : State) : (periodTripped s).start = s.start := by
  unfold periodTripped
  repeat' split
  all_goals rfl
@[simp] theorem periodTripped_line (s : State) : (periodTripped s).line = s.line := by
  unfold periodTripped
  repeat' split
  all_goals rfl
@[simp] theorem periodTripped_peers (s : State) : (periodTripped s).peers = s.peers := by
  unfold periodTripped
  repeat' split
  all_goals rfl
@[simp] theorem periodTripped_req (s : State) : (periodTripped s).req = s.req := by
  unfold periodTripped
  repeat' split
  all_goals rfl
@[simp] theorem periodTripped_arm1 (s : State) : (periodTripped s).arm1 = s.arm1 := by
  unfold periodTripped
  repeat' split
  all_goals rfl
@[simp] theorem periodTripped_arm2 (s : State) : (periodTripped s).arm2 = s.arm2 := by
  unfold periodTripped
  repeat' split
  all_goals rfl
@[simp] theorem periodTripped_water (s : State) : (periodTripped s).water = s.water := by
  unfold periodTripped
  repeat' split
  all_goals rfl
@[simp] theorem periodTripped_faults (s : State) : (periodTripped s).faults = s.faults := by
  unfold periodTripped
  repeat' split
  all_goals rfl

/-- What a period in TRIPPED can do in step 3: nothing, or entry to PARKED with the ramp marked not set up (R55, R59). -/
theorem periodTripped_cases (s : State) :
    periodTripped s = s ∨ periodTripped s = freshDrvRamp (s.withDrive (enterParked s.drive)) := by
  unfold periodTripped
  split
  · exact Or.inr rfl
  · exact Or.inl rfl

/-! ### driveTransition -/

@[simp] theorem driveTransition_pending (b : StartBlock) (s : State) : (driveTransition b s).pending = s.pending := by
  unfold driveTransition
  split <;> first | rfl | exact periodTripped_pending s
@[simp] theorem driveTransition_free (b : StartBlock) (s : State) : (driveTransition b s).free = s.free := by
  unfold driveTransition
  split <;> first | rfl | exact periodTripped_free s
@[simp] theorem driveTransition_pins (b : StartBlock) (s : State) : (driveTransition b s).pins = s.pins := by
  unfold driveTransition
  split <;> first | rfl | exact periodTripped_pins s
@[simp] theorem driveTransition_start (b : StartBlock) (s : State) : (driveTransition b s).start = s.start := by
  unfold driveTransition
  split <;> first | rfl | exact periodTripped_start s
@[simp] theorem driveTransition_line (b : StartBlock) (s : State) : (driveTransition b s).line = s.line := by
  unfold driveTransition
  split <;> first | rfl | exact periodTripped_line s
@[simp] theorem driveTransition_peers (b : StartBlock) (s : State) : (driveTransition b s).peers = s.peers := by
  unfold driveTransition
  split <;> first | rfl | exact periodTripped_peers s
@[simp] theorem driveTransition_req (b : StartBlock) (s : State) : (driveTransition b s).req = s.req := by
  unfold driveTransition
  split <;> first | rfl | exact periodTripped_req s
@[simp] theorem driveTransition_arm1 (b : StartBlock) (s : State) : (driveTransition b s).arm1 = s.arm1 := by
  unfold driveTransition
  split <;> first | rfl | exact periodTripped_arm1 s
@[simp] theorem driveTransition_arm2 (b : StartBlock) (s : State) : (driveTransition b s).arm2 = s.arm2 := by
  unfold driveTransition
  split <;> first | rfl | exact periodTripped_arm2 s
@[simp] theorem driveTransition_water (b : StartBlock) (s : State) : (driveTransition b s).water = s.water := by
  unfold driveTransition
  split <;> first | rfl | exact periodTripped_water s
@[simp] theorem driveTransition_faults (b : StartBlock) (s : State) : (driveTransition b s).faults = s.faults := by
  unfold driveTransition
  split <;> first | rfl | exact periodTripped_faults s

/-! ### standTest -/

@[simp] theorem standTest_pending (b : StartBlock) (stood : DriveState) (s : State) : (standTest b stood s).pending = s.pending := by
  unfold standTest
  repeat' split
  all_goals rfl
@[simp] theorem standTest_free (b : StartBlock) (stood : DriveState) (s : State) : (standTest b stood s).free = s.free := by
  unfold standTest
  repeat' split
  all_goals rfl
@[simp] theorem standTest_pins (b : StartBlock) (stood : DriveState) (s : State) : (standTest b stood s).pins = s.pins := by
  unfold standTest
  repeat' split
  all_goals rfl
@[simp] theorem standTest_start (b : StartBlock) (stood : DriveState) (s : State) : (standTest b stood s).start = s.start := by
  unfold standTest
  repeat' split
  all_goals rfl
@[simp] theorem standTest_line (b : StartBlock) (stood : DriveState) (s : State) : (standTest b stood s).line = s.line := by
  unfold standTest
  repeat' split
  all_goals rfl
@[simp] theorem standTest_peers (b : StartBlock) (stood : DriveState) (s : State) : (standTest b stood s).peers = s.peers := by
  unfold standTest
  repeat' split
  all_goals rfl
@[simp] theorem standTest_req (b : StartBlock) (stood : DriveState) (s : State) : (standTest b stood s).req = s.req := by
  unfold standTest
  repeat' split
  all_goals rfl
@[simp] theorem standTest_sp (b : StartBlock) (stood : DriveState) (s : State) : (standTest b stood s).sp = s.sp := by
  unfold standTest
  repeat' split
  all_goals rfl
@[simp] theorem standTest_arm1 (b : StartBlock) (stood : DriveState) (s : State) : (standTest b stood s).arm1 = s.arm1 := by
  unfold standTest
  repeat' split
  all_goals rfl
@[simp] theorem standTest_arm2 (b : StartBlock) (stood : DriveState) (s : State) : (standTest b stood s).arm2 = s.arm2 := by
  unfold standTest
  repeat' split
  all_goals rfl
@[simp] theorem standTest_water (b : StartBlock) (stood : DriveState) (s : State) : (standTest b stood s).water = s.water := by
  unfold standTest
  repeat' split
  all_goals rfl
@[simp] theorem standTest_faults (b : StartBlock) (stood : DriveState) (s : State) : (standTest b stood s).faults = s.faults := by
  unfold standTest
  repeat' split
  all_goals rfl

/-! ### driveChain -/

@[simp] theorem driveChain_pending (b : StartBlock) (s : State) : (driveChain b s).pending = s.pending := rfl
@[simp] theorem driveChain_free (b : StartBlock) (s : State) : (driveChain b s).free = s.free := rfl
@[simp] theorem driveChain_pins (b : StartBlock) (s : State) : (driveChain b s).pins = s.pins := rfl
@[simp] theorem driveChain_start (b : StartBlock) (s : State) : (driveChain b s).start = s.start := rfl
@[simp] theorem driveChain_line (b : StartBlock) (s : State) : (driveChain b s).line = s.line := rfl
@[simp] theorem driveChain_peers (b : StartBlock) (s : State) : (driveChain b s).peers = s.peers := rfl
@[simp] theorem driveChain_req (b : StartBlock) (s : State) : (driveChain b s).req = s.req := rfl
@[simp] theorem driveChain_arm1 (b : StartBlock) (s : State) : (driveChain b s).arm1 = s.arm1 := rfl
@[simp] theorem driveChain_arm2 (b : StartBlock) (s : State) : (driveChain b s).arm2 = s.arm2 := rfl
@[simp] theorem driveChain_water (b : StartBlock) (s : State) : (driveChain b s).water = s.water := rfl
@[simp] theorem driveChain_faults (b : StartBlock) (s : State) : (driveChain b s).faults = s.faults := rfl

/-! ### updateTrim -/

@[simp] theorem updateTrim_pending (b : StartBlock) (s : State) : (updateTrim b s).pending = s.pending := by
  unfold updateTrim
  repeat' split
  all_goals rfl
@[simp] theorem updateTrim_free (b : StartBlock) (s : State) : (updateTrim b s).free = s.free := by
  unfold updateTrim
  repeat' split
  all_goals rfl
@[simp] theorem updateTrim_pins (b : StartBlock) (s : State) : (updateTrim b s).pins = s.pins := by
  unfold updateTrim
  repeat' split
  all_goals rfl
@[simp] theorem updateTrim_start (b : StartBlock) (s : State) : (updateTrim b s).start = s.start := by
  unfold updateTrim
  repeat' split
  all_goals rfl
@[simp] theorem updateTrim_line (b : StartBlock) (s : State) : (updateTrim b s).line = s.line := by
  unfold updateTrim
  repeat' split
  all_goals rfl
@[simp] theorem updateTrim_peers (b : StartBlock) (s : State) : (updateTrim b s).peers = s.peers := by
  unfold updateTrim
  repeat' split
  all_goals rfl
@[simp] theorem updateTrim_req (b : StartBlock) (s : State) : (updateTrim b s).req = s.req := by
  unfold updateTrim
  repeat' split
  all_goals rfl
@[simp] theorem updateTrim_sp (b : StartBlock) (s : State) : (updateTrim b s).sp = s.sp := by
  unfold updateTrim
  repeat' split
  all_goals rfl
@[simp] theorem updateTrim_arm1 (b : StartBlock) (s : State) : (updateTrim b s).arm1 = s.arm1 := by
  unfold updateTrim
  repeat' split
  all_goals rfl
@[simp] theorem updateTrim_arm2 (b : StartBlock) (s : State) : (updateTrim b s).arm2 = s.arm2 := by
  unfold updateTrim
  repeat' split
  all_goals rfl
@[simp] theorem updateTrim_water (b : StartBlock) (s : State) : (updateTrim b s).water = s.water := by
  unfold updateTrim
  repeat' split
  all_goals rfl
@[simp] theorem updateTrim_faults (b : StartBlock) (s : State) : (updateTrim b s).faults = s.faults := by
  unfold updateTrim
  repeat' split
  all_goals rfl

end Sys2Proof.Machine
end

