-- ==== Sys2Proof/Laws/Operands.lean ====
section
/-! SUPPORT. What bits spell, most significant first, and the steps of the check sequence. -/

namespace Sys2Proof.Machine

/-! ### Bits, most significant first -/

theorem foldl_bits (l : List Bool) (n : Nat) :
    l.foldl (fun n b => 2 * n + b.toNat) n = n * 2 ^ l.length + numOf l := by
  induction l generalizing n with
  | nil => simp [numOf]
  | cons b l ih =>
    have h : numOf (b :: l) = (2 * 0 + b.toNat) * 2 ^ l.length + numOf l := ih _
    rw [List.foldl_cons, ih, h, List.length_cons, pow_succ]
    ring

theorem numOf_append (a b : List Bool) : numOf (a ++ b) = numOf a * 2 ^ b.length + numOf b := by
  rw [numOf, List.foldl_append, foldl_bits]
  rfl

theorem numOf_lt (l : List Bool) : numOf l < 2 ^ l.length := by
  induction l with
  | nil => simp [numOf]
  | cons b l ih =>
    rw [← List.singleton_append, numOf_append, List.length_append, List.length_singleton, pow_add]
    have h : numOf [b] ≤ 1 := by cases b <;> decide
    nlinarith [Nat.mul_le_mul_right (2 ^ l.length) h]

@[simp] theorem bitsOf_length {w : Nat} (v : BitVec w) : (bitsOf v).length = w := by simp [bitsOf]

/-- The first k bits of a field are its value without the low w - k bits. -/
theorem numOf_msbs {w : Nat} (v : BitVec w) (k : Nat) (hk : k ≤ w) :
    numOf ((List.range k).map v.getMsbD) = v.toNat / 2 ^ (w - k) := by
  induction k with
  | zero => simp [numOf, Nat.div_eq_of_lt v.isLt]
  | succ k ih =>
    have hb : numOf [v.getMsbD k] = v.toNat / 2 ^ (w - (k + 1)) % 2 := by
      have h : v.getMsbD k = v.toNat.testBit (w - (k + 1)) := by
        rw [BitVec.getMsbD_eq_getLsbD, BitVec.getLsbD, show w - 1 - k = w - (k + 1) by omega]
        simp [show k < w by omega]
      rw [h, Nat.testBit_eq_decide_div_mod_eq]
      rcases Nat.mod_two_eq_zero_or_one (v.toNat / 2 ^ (w - (k + 1))) with h2 | h2 <;> simp [h2, numOf]
    rw [List.range_succ, List.map_append, numOf_append, ih (by omega), List.map_singleton, hb,
      List.length_singleton, pow_one, show w - k = w - (k + 1) + 1 by omega, pow_succ, ← Nat.div_div_eq_div_mul,
      Nat.mul_comm]
    exact Nat.div_add_mod _ 2

/-- A field spells its own value. -/
@[simp] theorem numOf_bitsOf {w : Nat} (v : BitVec w) : numOf (bitsOf v) = v.toNat := by
  rw [bitsOf, numOf_msbs v w le_rfl, Nat.sub_self, pow_zero, Nat.div_one]

/-! ### The check sequence (R140) -/

@[simp] theorem crc_nil : crc [] = 0xFFFF#16 := rfl

@[simp] theorem crc_append_singleton (bits : List Bool) (b : Bool) : crc (bits ++ [b]) = crcBit (crc bits) b := by
  simp [crc]

end Sys2Proof.Machine
end

