-- ==== Sys2Proof/Laws/Requests.lean ====
section
/-! SUPPORT. What the shared request operations leave unchanged. -/

namespace Sys2Proof.Machine

/-! ### queueAnswer -/

@[simp] theorem queueAnswer_pending (d t k : Nibble) (r : Result) (v : Word) (x : Bool) (s : State) : (queueAnswer d t k r v x s).pending = s.pending := by
  unfold queueAnswer
  repeat' split
  all_goals simp
@[simp] theorem queueAnswer_free (d t k : Nibble) (r : Result) (v : Word) (x : Bool) (s : State) : (queueAnswer d t k r v x s).free = s.free := by
  unfold queueAnswer
  repeat' split
  all_goals simp
@[simp] theorem queueAnswer_pins (d t k : Nibble) (r : Result) (v : Word) (x : Bool) (s : State) : (queueAnswer d t k r v x s).pins = s.pins := by
  unfold queueAnswer
  repeat' split
  all_goals simp
@[simp] theorem queueAnswer_start (d t k : Nibble) (r : Result) (v : Word) (x : Bool) (s : State) : (queueAnswer d t k r v x s).start = s.start := by
  unfold queueAnswer
  repeat' split
  all_goals simp
@[simp] theorem queueAnswer_peers (d t k : Nibble) (r : Result) (v : Word) (x : Bool) (s : State) : (queueAnswer d t k r v x s).peers = s.peers := by
  unfold queueAnswer
  repeat' split
  all_goals simp
@[simp] theorem queueAnswer_req (d t k : Nibble) (r : Result) (v : Word) (x : Bool) (s : State) : (queueAnswer d t k r v x s).req = s.req := by
  unfold queueAnswer
  repeat' split
  all_goals simp
@[simp] theorem queueAnswer_sp (d t k : Nibble) (r : Result) (v : Word) (x : Bool) (s : State) : (queueAnswer d t k r v x s).sp = s.sp := by
  unfold queueAnswer
  repeat' split
  all_goals simp
@[simp] theorem queueAnswer_drive (d t k : Nibble) (r : Result) (v : Word) (x : Bool) (s : State) : (queueAnswer d t k r v x s).drive = s.drive := by
  unfold queueAnswer
  repeat' split
  all_goals simp
@[simp] theorem queueAnswer_arm1 (d t k : Nibble) (r : Result) (v : Word) (x : Bool) (s : State) : (queueAnswer d t k r v x s).arm1 = s.arm1 := by
  unfold queueAnswer
  repeat' split
  all_goals simp
@[simp] theorem queueAnswer_arm2 (d t k : Nibble) (r : Result) (v : Word) (x : Bool) (s : State) : (queueAnswer d t k r v x s).arm2 = s.arm2 := by
  unfold queueAnswer
  repeat' split
  all_goals simp
@[simp] theorem queueAnswer_water (d t k : Nibble) (r : Result) (v : Word) (x : Bool) (s : State) : (queueAnswer d t k r v x s).water = s.water := by
  unfold queueAnswer
  repeat' split
  all_goals simp
@[simp] theorem queueAnswer_faults (d t k : Nibble) (r : Result) (v : Word) (x : Bool) (s : State) : (queueAnswer d t k r v x s).faults = s.faults := by
  unfold queueAnswer
  repeat' split
  all_goals simp

/-! ### popRx -/

@[simp] theorem popRx_pending (s : State) : (popRx s).pending = s.pending := by
  unfold popRx
  simp
@[simp] theorem popRx_free (s : State) : (popRx s).free = s.free := by
  unfold popRx
  simp
@[simp] theorem popRx_pins (s : State) : (popRx s).pins = s.pins := by
  unfold popRx
  simp
@[simp] theorem popRx_start (s : State) : (popRx s).start = s.start := by
  unfold popRx
  simp
@[simp] theorem popRx_peers (s : State) : (popRx s).peers = s.peers := by
  unfold popRx
  simp
@[simp] theorem popRx_req (s : State) : (popRx s).req = s.req := by
  unfold popRx
  simp
@[simp] theorem popRx_sp (s : State) : (popRx s).sp = s.sp := by
  unfold popRx
  simp
@[simp] theorem popRx_drive (s : State) : (popRx s).drive = s.drive := by
  unfold popRx
  simp
@[simp] theorem popRx_arm1 (s : State) : (popRx s).arm1 = s.arm1 := by
  unfold popRx
  simp
@[simp] theorem popRx_arm2 (s : State) : (popRx s).arm2 = s.arm2 := by
  unfold popRx
  simp
@[simp] theorem popRx_water (s : State) : (popRx s).water = s.water := by
  unfold popRx
  simp
@[simp] theorem popRx_faults (s : State) : (popRx s).faults = s.faults := by
  unfold popRx
  simp

/-! ### freeEntry -/

@[simp] theorem freeEntry_pending (a b : Nibble) (s : State) : (freeEntry a b s).pending = s.pending := by
  unfold freeEntry
  simp
@[simp] theorem freeEntry_free (a b : Nibble) (s : State) : (freeEntry a b s).free = s.free := by
  unfold freeEntry
  simp
@[simp] theorem freeEntry_pins (a b : Nibble) (s : State) : (freeEntry a b s).pins = s.pins := by
  unfold freeEntry
  simp
@[simp] theorem freeEntry_start (a b : Nibble) (s : State) : (freeEntry a b s).start = s.start := by
  unfold freeEntry
  simp
@[simp] theorem freeEntry_line (a b : Nibble) (s : State) : (freeEntry a b s).line = s.line := by
  unfold freeEntry
  simp
@[simp] theorem freeEntry_peers (a b : Nibble) (s : State) : (freeEntry a b s).peers = s.peers := by
  unfold freeEntry
  simp
@[simp] theorem freeEntry_sp (a b : Nibble) (s : State) : (freeEntry a b s).sp = s.sp := by
  unfold freeEntry
  simp
@[simp] theorem freeEntry_drive (a b : Nibble) (s : State) : (freeEntry a b s).drive = s.drive := by
  unfold freeEntry
  simp
@[simp] theorem freeEntry_arm1 (a b : Nibble) (s : State) : (freeEntry a b s).arm1 = s.arm1 := by
  unfold freeEntry
  simp
@[simp] theorem freeEntry_arm2 (a b : Nibble) (s : State) : (freeEntry a b s).arm2 = s.arm2 := by
  unfold freeEntry
  simp
@[simp] theorem freeEntry_water (a b : Nibble) (s : State) : (freeEntry a b s).water = s.water := by
  unfold freeEntry
  simp
@[simp] theorem freeEntry_faults (a b : Nibble) (s : State) : (freeEntry a b s).faults = s.faults := by
  unfold freeEntry
  simp

/-! ### refreshEntry -/

@[simp] theorem refreshEntry_pending (a b : Nibble) (s : State) : (refreshEntry a b s).pending = s.pending := by
  unfold refreshEntry
  simp
@[simp] theorem refreshEntry_free (a b : Nibble) (s : State) : (refreshEntry a b s).free = s.free := by
  unfold refreshEntry
  simp
@[simp] theorem refreshEntry_pins (a b : Nibble) (s : State) : (refreshEntry a b s).pins = s.pins := by
  unfold refreshEntry
  simp
@[simp] theorem refreshEntry_start (a b : Nibble) (s : State) : (refreshEntry a b s).start = s.start := by
  unfold refreshEntry
  simp
@[simp] theorem refreshEntry_line (a b : Nibble) (s : State) : (refreshEntry a b s).line = s.line := by
  unfold refreshEntry
  simp
@[simp] theorem refreshEntry_peers (a b : Nibble) (s : State) : (refreshEntry a b s).peers = s.peers := by
  unfold refreshEntry
  simp
@[simp] theorem refreshEntry_sp (a b : Nibble) (s : State) : (refreshEntry a b s).sp = s.sp := by
  unfold refreshEntry
  simp
@[simp] theorem refreshEntry_drive (a b : Nibble) (s : State) : (refreshEntry a b s).drive = s.drive := by
  unfold refreshEntry
  simp
@[simp] theorem refreshEntry_arm1 (a b : Nibble) (s : State) : (refreshEntry a b s).arm1 = s.arm1 := by
  unfold refreshEntry
  simp
@[simp] theorem refreshEntry_arm2 (a b : Nibble) (s : State) : (refreshEntry a b s).arm2 = s.arm2 := by
  unfold refreshEntry
  simp
@[simp] theorem refreshEntry_water (a b : Nibble) (s : State) : (refreshEntry a b s).water = s.water := by
  unfold refreshEntry
  simp
@[simp] theorem refreshEntry_faults (a b : Nibble) (s : State) : (refreshEntry a b s).faults = s.faults := by
  unfold refreshEntry
  simp

/-! ### supersede -/

@[simp] theorem supersede_pending (a : Nibble) (c : Claims) (s : State) : (supersede a c s).pending = s.pending := by
  unfold supersede
  simp
@[simp] theorem supersede_free (a : Nibble) (c : Claims) (s : State) : (supersede a c s).free = s.free := by
  unfold supersede
  simp
@[simp] theorem supersede_pins (a : Nibble) (c : Claims) (s : State) : (supersede a c s).pins = s.pins := by
  unfold supersede
  simp
@[simp] theorem supersede_start (a : Nibble) (c : Claims) (s : State) : (supersede a c s).start = s.start := by
  unfold supersede
  simp
@[simp] theorem supersede_line (a : Nibble) (c : Claims) (s : State) : (supersede a c s).line = s.line := by
  unfold supersede
  simp
@[simp] theorem supersede_peers (a : Nibble) (c : Claims) (s : State) : (supersede a c s).peers = s.peers := by
  unfold supersede
  simp
@[simp] theorem supersede_sp (a : Nibble) (c : Claims) (s : State) : (supersede a c s).sp = s.sp := by
  unfold supersede
  simp
@[simp] theorem supersede_drive (a : Nibble) (c : Claims) (s : State) : (supersede a c s).drive = s.drive := by
  unfold supersede
  simp
@[simp] theorem supersede_arm1 (a : Nibble) (c : Claims) (s : State) : (supersede a c s).arm1 = s.arm1 := by
  unfold supersede
  simp
@[simp] theorem supersede_arm2 (a : Nibble) (c : Claims) (s : State) : (supersede a c s).arm2 = s.arm2 := by
  unfold supersede
  simp
@[simp] theorem supersede_water (a : Nibble) (c : Claims) (s : State) : (supersede a c s).water = s.water := by
  unfold supersede
  simp
@[simp] theorem supersede_faults (a : Nibble) (c : Claims) (s : State) : (supersede a c s).faults = s.faults := by
  unfold supersede
  simp

/-! ### makeEntry -/

@[simp] theorem makeEntry_pending (r : Request) (o : Operation) (c : Claims) (s : State) : (makeEntry r o c s).pending = s.pending := by
  unfold makeEntry
  simp
@[simp] theorem makeEntry_free (r : Request) (o : Operation) (c : Claims) (s : State) : (makeEntry r o c s).free = s.free := by
  unfold makeEntry
  simp
@[simp] theorem makeEntry_pins (r : Request) (o : Operation) (c : Claims) (s : State) : (makeEntry r o c s).pins = s.pins := by
  unfold makeEntry
  simp
@[simp] theorem makeEntry_start (r : Request) (o : Operation) (c : Claims) (s : State) : (makeEntry r o c s).start = s.start := by
  unfold makeEntry
  simp
@[simp] theorem makeEntry_line (r : Request) (o : Operation) (c : Claims) (s : State) : (makeEntry r o c s).line = s.line := by
  unfold makeEntry
  simp
@[simp] theorem makeEntry_peers (r : Request) (o : Operation) (c : Claims) (s : State) : (makeEntry r o c s).peers = s.peers := by
  unfold makeEntry
  simp
@[simp] theorem makeEntry_sp (r : Request) (o : Operation) (c : Claims) (s : State) : (makeEntry r o c s).sp = s.sp := by
  unfold makeEntry
  simp
@[simp] theorem makeEntry_drive (r : Request) (o : Operation) (c : Claims) (s : State) : (makeEntry r o c s).drive = s.drive := by
  unfold makeEntry
  simp
@[simp] theorem makeEntry_arm1 (r : Request) (o : Operation) (c : Claims) (s : State) : (makeEntry r o c s).arm1 = s.arm1 := by
  unfold makeEntry
  simp
@[simp] theorem makeEntry_arm2 (r : Request) (o : Operation) (c : Claims) (s : State) : (makeEntry r o c s).arm2 = s.arm2 := by
  unfold makeEntry
  simp
@[simp] theorem makeEntry_water (r : Request) (o : Operation) (c : Claims) (s : State) : (makeEntry r o c s).water = s.water := by
  unfold makeEntry
  simp
@[simp] theorem makeEntry_faults (r : Request) (o : Operation) (c : Claims) (s : State) : (makeEntry r o c s).faults = s.faults := by
  unfold makeEntry
  simp

/-! ### withdrawFrame -/

@[simp] theorem withdrawFrame_pending (t : Nibble) (s : State) : (withdrawFrame t s).pending = s.pending := by
  unfold withdrawFrame
  repeat' split
  all_goals simp
@[simp] theorem withdrawFrame_free (t : Nibble) (s : State) : (withdrawFrame t s).free = s.free := by
  unfold withdrawFrame
  repeat' split
  all_goals simp
@[simp] theorem withdrawFrame_pins (t : Nibble) (s : State) : (withdrawFrame t s).pins = s.pins := by
  unfold withdrawFrame
  repeat' split
  all_goals simp
@[simp] theorem withdrawFrame_start (t : Nibble) (s : State) : (withdrawFrame t s).start = s.start := by
  unfold withdrawFrame
  repeat' split
  all_goals simp
@[simp] theorem withdrawFrame_peers (t : Nibble) (s : State) : (withdrawFrame t s).peers = s.peers := by
  unfold withdrawFrame
  repeat' split
  all_goals simp
@[simp] theorem withdrawFrame_req (t : Nibble) (s : State) : (withdrawFrame t s).req = s.req := by
  unfold withdrawFrame
  repeat' split
  all_goals simp
@[simp] theorem withdrawFrame_sp (t : Nibble) (s : State) : (withdrawFrame t s).sp = s.sp := by
  unfold withdrawFrame
  repeat' split
  all_goals simp
@[simp] theorem withdrawFrame_drive (t : Nibble) (s : State) : (withdrawFrame t s).drive = s.drive := by
  unfold withdrawFrame
  repeat' split
  all_goals simp
@[simp] theorem withdrawFrame_arm1 (t : Nibble) (s : State) : (withdrawFrame t s).arm1 = s.arm1 := by
  unfold withdrawFrame
  repeat' split
  all_goals simp
@[simp] theorem withdrawFrame_arm2 (t : Nibble) (s : State) : (withdrawFrame t s).arm2 = s.arm2 := by
  unfold withdrawFrame
  repeat' split
  all_goals simp
@[simp] theorem withdrawFrame_water (t : Nibble) (s : State) : (withdrawFrame t s).water = s.water := by
  unfold withdrawFrame
  repeat' split
  all_goals simp
@[simp] theorem withdrawFrame_faults (t : Nibble) (s : State) : (withdrawFrame t s).faults = s.faults := by
  unfold withdrawFrame
  repeat' split
  all_goals simp

/-! ### mapOutgoing -/

@[simp] theorem mapOutgoing_pending (t : Nibble) (f : OutgoingEntry → OutgoingEntry) (s : State) : (mapOutgoing t f s).pending = s.pending := by
  unfold mapOutgoing
  simp
@[simp] theorem mapOutgoing_free (t : Nibble) (f : OutgoingEntry → OutgoingEntry) (s : State) : (mapOutgoing t f s).free = s.free := by
  unfold mapOutgoing
  simp
@[simp] theorem mapOutgoing_pins (t : Nibble) (f : OutgoingEntry → OutgoingEntry) (s : State) : (mapOutgoing t f s).pins = s.pins := by
  unfold mapOutgoing
  simp
@[simp] theorem mapOutgoing_start (t : Nibble) (f : OutgoingEntry → OutgoingEntry) (s : State) : (mapOutgoing t f s).start = s.start := by
  unfold mapOutgoing
  simp
@[simp] theorem mapOutgoing_line (t : Nibble) (f : OutgoingEntry → OutgoingEntry) (s : State) : (mapOutgoing t f s).line = s.line := by
  unfold mapOutgoing
  simp
@[simp] theorem mapOutgoing_peers (t : Nibble) (f : OutgoingEntry → OutgoingEntry) (s : State) : (mapOutgoing t f s).peers = s.peers := by
  unfold mapOutgoing
  simp
@[simp] theorem mapOutgoing_sp (t : Nibble) (f : OutgoingEntry → OutgoingEntry) (s : State) : (mapOutgoing t f s).sp = s.sp := by
  unfold mapOutgoing
  simp
@[simp] theorem mapOutgoing_drive (t : Nibble) (f : OutgoingEntry → OutgoingEntry) (s : State) : (mapOutgoing t f s).drive = s.drive := by
  unfold mapOutgoing
  simp
@[simp] theorem mapOutgoing_arm1 (t : Nibble) (f : OutgoingEntry → OutgoingEntry) (s : State) : (mapOutgoing t f s).arm1 = s.arm1 := by
  unfold mapOutgoing
  simp
@[simp] theorem mapOutgoing_arm2 (t : Nibble) (f : OutgoingEntry → OutgoingEntry) (s : State) : (mapOutgoing t f s).arm2 = s.arm2 := by
  unfold mapOutgoing
  simp
@[simp] theorem mapOutgoing_water (t : Nibble) (f : OutgoingEntry → OutgoingEntry) (s : State) : (mapOutgoing t f s).water = s.water := by
  unfold mapOutgoing
  simp
@[simp] theorem mapOutgoing_faults (t : Nibble) (f : OutgoingEntry → OutgoingEntry) (s : State) : (mapOutgoing t f s).faults = s.faults := by
  unfold mapOutgoing
  simp

/-! ### removeOutgoing -/

@[simp] theorem removeOutgoing_pending (t : Nibble) (s : State) : (removeOutgoing t s).pending = s.pending := by
  unfold removeOutgoing
  simp
@[simp] theorem removeOutgoing_free (t : Nibble) (s : State) : (removeOutgoing t s).free = s.free := by
  unfold removeOutgoing
  simp
@[simp] theorem removeOutgoing_pins (t : Nibble) (s : State) : (removeOutgoing t s).pins = s.pins := by
  unfold removeOutgoing
  simp
@[simp] theorem removeOutgoing_start (t : Nibble) (s : State) : (removeOutgoing t s).start = s.start := by
  unfold removeOutgoing
  simp
@[simp] theorem removeOutgoing_peers (t : Nibble) (s : State) : (removeOutgoing t s).peers = s.peers := by
  unfold removeOutgoing
  simp
@[simp] theorem removeOutgoing_sp (t : Nibble) (s : State) : (removeOutgoing t s).sp = s.sp := by
  unfold removeOutgoing
  simp
@[simp] theorem removeOutgoing_drive (t : Nibble) (s : State) : (removeOutgoing t s).drive = s.drive := by
  unfold removeOutgoing
  simp
@[simp] theorem removeOutgoing_arm1 (t : Nibble) (s : State) : (removeOutgoing t s).arm1 = s.arm1 := by
  unfold removeOutgoing
  simp
@[simp] theorem removeOutgoing_arm2 (t : Nibble) (s : State) : (removeOutgoing t s).arm2 = s.arm2 := by
  unfold removeOutgoing
  simp
@[simp] theorem removeOutgoing_water (t : Nibble) (s : State) : (removeOutgoing t s).water = s.water := by
  unfold removeOutgoing
  simp
@[simp] theorem removeOutgoing_faults (t : Nibble) (s : State) : (removeOutgoing t s).faults = s.faults := by
  unfold removeOutgoing
  simp

/-! ### requeue -/

@[simp] theorem requeue_pending (e : OutgoingEntry) (s : State) : (requeue e s).pending = s.pending := by
  unfold requeue
  simp
@[simp] theorem requeue_free (e : OutgoingEntry) (s : State) : (requeue e s).free = s.free := by
  unfold requeue
  simp
@[simp] theorem requeue_pins (e : OutgoingEntry) (s : State) : (requeue e s).pins = s.pins := by
  unfold requeue
  simp
@[simp] theorem requeue_start (e : OutgoingEntry) (s : State) : (requeue e s).start = s.start := by
  unfold requeue
  simp
@[simp] theorem requeue_peers (e : OutgoingEntry) (s : State) : (requeue e s).peers = s.peers := by
  unfold requeue
  simp
@[simp] theorem requeue_sp (e : OutgoingEntry) (s : State) : (requeue e s).sp = s.sp := by
  unfold requeue
  simp
@[simp] theorem requeue_drive (e : OutgoingEntry) (s : State) : (requeue e s).drive = s.drive := by
  unfold requeue
  simp
@[simp] theorem requeue_arm1 (e : OutgoingEntry) (s : State) : (requeue e s).arm1 = s.arm1 := by
  unfold requeue
  simp
@[simp] theorem requeue_arm2 (e : OutgoingEntry) (s : State) : (requeue e s).arm2 = s.arm2 := by
  unfold requeue
  simp
@[simp] theorem requeue_water (e : OutgoingEntry) (s : State) : (requeue e s).water = s.water := by
  unfold requeue
  simp
@[simp] theorem requeue_faults (e : OutgoingEntry) (s : State) : (requeue e s).faults = s.faults := by
  unfold requeue
  simp

/-! ### giveUp -/

@[simp] theorem giveUp_pending (t : Nibble) (s : State) : (giveUp t s).pending = s.pending := by
  unfold giveUp
  simp
@[simp] theorem giveUp_free (t : Nibble) (s : State) : (giveUp t s).free = s.free := by
  unfold giveUp
  simp
@[simp] theorem giveUp_pins (t : Nibble) (s : State) : (giveUp t s).pins = s.pins := by
  unfold giveUp
  simp
@[simp] theorem giveUp_start (t : Nibble) (s : State) : (giveUp t s).start = s.start := by
  unfold giveUp
  simp
@[simp] theorem giveUp_peers (t : Nibble) (s : State) : (giveUp t s).peers = s.peers := by
  unfold giveUp
  simp
@[simp] theorem giveUp_sp (t : Nibble) (s : State) : (giveUp t s).sp = s.sp := by
  unfold giveUp
  simp
@[simp] theorem giveUp_drive (t : Nibble) (s : State) : (giveUp t s).drive = s.drive := by
  unfold giveUp
  simp
@[simp] theorem giveUp_arm1 (t : Nibble) (s : State) : (giveUp t s).arm1 = s.arm1 := by
  unfold giveUp
  simp
@[simp] theorem giveUp_arm2 (t : Nibble) (s : State) : (giveUp t s).arm2 = s.arm2 := by
  unfold giveUp
  simp
@[simp] theorem giveUp_water (t : Nibble) (s : State) : (giveUp t s).water = s.water := by
  unfold giveUp
  simp

/-! ### supersede and the ends of operations -/

/-- What a supersede leaves in the table (R124). -/
theorem supersede_table (src : Nibble) (c : Claims) (s : State) :
    (supersede src c s).req = { s.req with table := s.req.table.map (fun e => e.supersededBy src c s) } := by
  unfold supersede PendingEntry.supersededBy PendingEntry.finish supersededValue armValue
  refine congrArg (fun t => { s.req with table := t }) (List.map_congr_left fun e _ => ?_)
  split <;> cases e.op <;> rfl

/-- A stall or a position fault fails every running operation on the arm (R78, R111). -/
theorem endOperations_held (n : ArmId) (s : State) (h : (s.arm n).state = .held) :
    (endOperations n s).req = { s.req with table := s.req.table.map (fun e =>
      e.endedBy n (some (.failed, 5)) (some (.failed, 5)) (some (.failed, 0))) } := by
  unfold endOperations PendingEntry.endedBy PendingEntry.afterArm PendingEntry.finish
  refine congrArg (fun t => { s.req with table := t }) (List.map_congr_left fun e _ => ?_)
  rw [h]
  rcases e with ⟨r, t, op, c, st, v, tm⟩
  rcases op with _ | ⟨m, _ | _⟩ <;> split <;> rfl

end Sys2Proof.Machine
end

