-- ==== Sys2Proof/Laws/Restart.lean ====
section
/-! SUPPORT. What the warm restart and the reload do, block by block, and which tag is fresh. -/

namespace Sys2Proof.Machine

/-! ### The fault unit -/

/-- The active member of a kind: its held cause, or the stall cause of its arm (R157). -/
theorem active_eq (k : FaultKind) (s : State) :
    active k s = (hasKind s.faults.cause k || (s.faults.stall1 && decide (k = .arm1Fault))
      || (s.faults.stall2 && decide (k = .arm2Fault))) := by
  cases h1 : s.faults.stall1 <;> cases h2 : s.faults.stall2 <;>
    simp [active, Faults.active, hasKind, h1, h2, hasKind_bit]

/-- The inherited causes dropped: each is put out of the held causes, and nothing else changes (R33). -/
theorem dropInherited_faults (s : State) :
    (dropInherited s).faults = { s.faults with
      cause := putKind (putKind (putKind s.faults.cause .travelLost false) .engineLost false)
        .driveConflict false } := by
  simp [dropInherited, handOver]

@[simp] theorem dropInherited_line (s : State) : (dropInherited s).line = s.line := by
  simp [dropInherited, handOver]

/-! ### The warm restart (R175) -/

theorem warmRestart_spec (s : State) : WarmRestarted s (warmRestart s) := by
  refine ⟨?_, ?_, ?_, ?_, ?_, ?_, ?_, ?_, ?_, ?_, ?_, ?_, ?_, ?_, ?_⟩
  · intro p hp
    cases p <;> simp_all [Same, warmRestart]
  · simp [warmRestart]
  · simp [warmRestart, warmLine]
  · simp [warmRestart, peersAbsent]
  · simp [warmRestart]
  · intro i
    simp [warmRestart, warmDebouncer]
  · simp [warmRestart, warmSetpoint, Ramp.warm, ClampPair.clear]
  · simp [warmRestart, warmSetpoint, warmSite, Ramp.setOut, Ramp.arrive, ClampPair.clear]
  · simp [warmRestart, warmDrive]
  · intro n
    cases n <;> simp [warmRestart, warmArm, State.arm, heldByTrip] <;> grind
  · simp [warmRestart, warmWater]
  · intro k hk
    simp at hk
    rcases hk with rfl | rfl | rfl | rfl <;>
      simp [active_eq, warmRestart, warmFaults, dropInherited_faults, hasKind_putKind]
  · intro k hk
    simp at hk
    simp [active_eq, warmRestart, warmFaults, dropInherited_faults, hasKind_putKind, hk]
  · simp [sticky, warmRestart, warmFaults, dropInherited_faults, hasKind_putKind]
  · intro k hk
    simp [sticky, warmRestart, warmFaults, dropInherited_faults, hasKind_putKind, hk]

/-- The frame on the line at a warm restart goes on, and its guard time with it (R153). -/
theorem warmRestart_onLine (s : State) :
    (warmRestart s).line.onLine = s.line.onLine.map Sending.caught
      ∧ (warmRestart s).line.guardTime = s.line.guardTime := by
  simp [warmRestart, warmLine]

theorem Sending.caught_owner_report (x : Sending) : x.caught.owner = .report ↔ x.owner = .report := by
  unfold Sending.caught
  split <;> simp_all

/-! ### The reload (R172) -/

theorem reload_spec (straps : Straps) (s : State) : Reloaded straps s (reload straps s) := by
  refine ⟨rfl, rfl, rfl, rfl, rfl, rfl, rfl, ?_, rfl, rfl, rfl, rfl, ?_⟩
  · intro i
    simp [reload, beginLoading, coldState, resetDebouncer, State.withLine]
  · intro n
    cases n <;>
      simp [reload, beginLoading, State.arm, armAtRelease, populated, Arm.reset, Arm.unpopulated] <;> split <;> simp_all

/-! ### The fresh tag (R134) -/

/-- Fewer than 16 held tags leave one free. -/
theorem exists_free_tag (held : List Nibble) (c : Nibble) (h : held.length < 16) :
    ∃ i < 16, c + BitVec.ofNat 4 i ∉ held := by
  by_contra hc
  push Not at hc
  have nodup : ((List.range 16).map (fun i => c + BitVec.ofNat 4 i)).Nodup := by
    clear hc
    revert c
    decide
  have := (nodup.subperm (l₂ := held) (fun t ht => by
    obtain ⟨i, hi, rfl⟩ := List.mem_map.mp ht
    exact hc i (List.mem_range.mp hi))).length_le
  simp at this
  omega

theorem freshTag_spec (s : State) (h : s.req.outgoing.length < 16) :
    IsFreshTag (s.req.outgoing.map OutgoingEntry.tag) s.req.nextTag (freshTag s) := by
  obtain ⟨j, hj, hfree⟩ := exists_free_tag (s.req.outgoing.map OutgoingEntry.tag) s.req.nextTag (by simpa using h)
  obtain ⟨i, hi⟩ := Option.isSome_iff_exists.mp
    (List.find?_isSome.mpr ⟨j, List.mem_range.mpr hj, by simpa using hfree⟩ :
      ((List.range 16).find? (fun i => !(s.req.outgoing.map OutgoingEntry.tag).contains
        (s.req.nextTag + BitVec.ofNat 4 i))).isSome = true)
  have hf : freshTag s = s.req.nextTag + BitVec.ofNat 4 i := by
    simp only [freshTag, List.find?_map, Function.comp_def, hi, Option.map_some, Option.getD_some]
  rw [List.find?_range_eq_some] at hi
  obtain ⟨hp, hlt, hbefore⟩ := hi
  rw [hf]
  refine ⟨by simpa using hp, fun k hk => ?_⟩
  have hk' : k < i := by
    have hle : (s.req.nextTag + BitVec.ofNat 4 i - s.req.nextTag).toNat = i % 16 := by
      rw [show s.req.nextTag + BitVec.ofNat 4 i - s.req.nextTag = BitVec.ofNat 4 i by
        rw [BitVec.add_comm, BitVec.add_sub_cancel]]
      simp
    omega
  have := hbefore k hk'
  simpa using this

end Sys2Proof.Machine
end

