-- ==== Sys2Proof/Laws/Setpoint.lean ====
section
/-! SUPPORT. What one step of the setpoint arithmetic can do: the ramp's target, its arrival and its advance. -/

namespace Sys2Proof.Machine

@[simp] theorem Ramp.arrive_out (r : Ramp) (o : Int) : (r.arrive o).out = o := rfl

@[simp] theorem Ramp.arrive_phase (r : Ramp) (o : Int) : (r.arrive o).phase = .atTarget := rfl

@[simp] theorem Ramp.arrive_err (r : Ramp) (o : Int) : (r.arrive o).err = 0 := rfl

@[simp] theorem Ramp.arrive_setUp (r : Ramp) (o : Int) : (r.arrive o).setUp = false := rfl

@[simp] theorem Ramp.setOut_out (r : Ramp) (o : Int) : (r.setOut o).out = o := rfl

@[simp] theorem Ramp.setup_out (r : Ramp) (full : Nat) (ph : Phase) (t : Nat) :
    (r.setup full ph t).out = r.out := rfl

/-- A setup changes no output (R13). -/
@[simp] theorem Ramp.prepared_out (r : Ramp) (full : Nat) (ph : Phase) (t : Nat) :
    (r.prepared full ph t).out = r.out := by
  unfold Ramp.prepared
  split <;> simp

@[simp] theorem Ramp.unset_out (r : Ramp) : r.unset.out = r.out := rfl

@[simp] theorem Ramp.unset_phase (r : Ramp) : r.unset.phase = r.phase := rfl

@[simp] theorem Ramp.unset_setUp (r : Ramp) : r.unset.setUp = false := rfl

/-- A ramp marked not set up sets up at its next moving period, whatever its phase and time were (R13). -/
@[simp] theorem Ramp.unset_prepared (r : Ramp) (full : Nat) (ph : Phase) (t : Nat) :
    r.unset.prepared full ph t = r.setup full ph t := by
  simp [Ramp.prepared, Ramp.unset, Ramp.setup]

/-- A prepared ramp is set up for its phase and time (R13). -/
theorem Ramp.prepared_for (r : Ramp) (full : Nat) (ph : Phase) (t : Nat) :
    (r.prepared full ph t).setUp = true ∧ (r.prepared full ph t).phase = ph
      ∧ (r.prepared full ph t).time = t := by
  unfold Ramp.prepared
  split
  · assumption
  · exact ⟨rfl, rfl, rfl⟩

/-- A moved output lies between the output it left and its target (R14). -/
theorem toward_between (o target : Int) (a : Nat) :
    (o ≤ target → o ≤ toward o target a ∧ toward o target a ≤ target)
      ∧ (target ≤ o → target ≤ toward o target a ∧ toward o target a ≤ o) := by
  unfold toward
  constructor <;> intro h <;> split <;> omega

/-- The output a moving period leaves is its target or one advance toward it (R14). -/
theorem Ramp.move_out (r : Ramp) (full : Nat) (ph : Phase) (t : Nat) (target : Int) :
    (r.move full ph t target).out = target
      ∨ (r.move full ph t target).out = toward r.out target (r.prepared full ph t).advance.1 := by
  unfold Ramp.move
  split
  · exact Or.inl rfl
  · simp only [Ramp.prepared_out]
    split
    · exact Or.inl rfl
    · exact Or.inr rfl

/-- A target on the other side of zero is met at zero first (R12). -/
theorem effectiveTarget_cases (o t : Int) : effectiveTarget o t = 0 ∨ effectiveTarget o t = t := by
  unfold effectiveTarget
  split <;> simp

end Sys2Proof.Machine
end

