-- ==== Sys2Proof/Laws/StartBlock.lean ====
section
/-! SUPPORT. The bytes a read takes from the levels of SPI_MISO, and the words they spell. -/

namespace Sys2Proof.Machine

/-! ### The bytes taken (R170) -/

@[simp] theorem readBytes_length (n : Nat) (miso : List Bool) : (readBytes n miso).length = n := by
  induction n generalizing miso with
  | zero => rfl
  | succ n ih => simp [readBytes, ih]

/-- Byte i of a read is spelled by the eight levels from level 8 i on. -/
theorem readBytes_getD (n : Nat) (miso : List Bool) (i : Nat) (h : i < n) :
    (readBytes n miso).getD i 0 = takeByte (miso.drop (8 * i)) := by
  induction n generalizing miso i with
  | zero => omega
  | succ n ih =>
    cases i with
    | zero => rfl
    | succ i => rw [readBytes, List.getD_cons_succ, ih _ _ (by omega), List.drop_drop, Nat.mul_succ, Nat.add_comm]

theorem takeByte_toNat (miso : List Bool) :
    (takeByte miso).toNat = numOf ((List.range 8).map (fun k => miso.getD k true)) := by
  have h := numOf_lt ((List.range 8).map (fun k => miso.getD k true))
  simp only [List.length_map, List.length_range] at h
  rw [takeByte, BitVec.toNat_ofNat, Nat.mod_eq_of_lt h]

/-! ### The words they spell (R179) -/

/-- Two bytes spell one word; an odd last byte spells none. -/
@[simp] theorem wordsOf_length : (l : List Byte) → (wordsOf l).length = l.length / 2
  | [] => rfl
  | [_] => by simp [wordsOf]
  | hi :: lo :: rest => by
    simp only [wordsOf, List.length_cons, wordsOf_length rest]
    omega

/-- Word i is formed of bytes 2i and 2i + 1, most significant first. -/
theorem wordsOf_getD : (l : List Byte) → (i : Nat) → 2 * i + 1 < l.length →
    (wordsOf l).getD i 0 = wordOf (l.getD (2 * i) 0) (l.getD (2 * i + 1) 0)
  | [], i, h => by simp at h
  | [_], i, h => by simp at h
  | hi :: lo :: rest, 0, _ => rfl
  | hi :: lo :: rest, i + 1, h => by
    have h' : 2 * i + 1 < rest.length := by simp at h; omega
    simpa [wordsOf, Nat.mul_add] using wordsOf_getD rest i h'

theorem wordOf_toNat (hi lo : Byte) : (wordOf hi lo).toNat = hi.toNat * 256 + lo.toNat := by
  rw [wordOf, BitVec.toNat_append, Nat.shiftLeft_eq, Nat.mul_comm, ← Nat.two_pow_add_eq_or_of_lt lo.isLt]

/-- Two bytes taken spell the number of their sixteen levels, most significant first. -/
theorem wordOf_takeByte_toNat (miso : List Bool) :
    (wordOf (takeByte miso) (takeByte (miso.drop 8))).toNat
      = numOf ((List.range 16).map (fun k => miso.getD k true)) := by
  have h : (List.range 16).map (fun k => miso.getD k true)
      = (List.range 8).map (fun k => miso.getD k true)
        ++ (List.range 8).map (fun k => (miso.drop 8).getD k true) := by
    rw [show List.range 16 = List.range 8 ++ (List.range 8).map (8 + ·) by decide, List.map_append, List.map_map]
    refine congrArg _ (List.map_congr_left fun k _ => ?_)
    simp [List.getD_eq_getElem?_getD]
  rw [wordOf_toNat, takeByte_toNat, takeByte_toNat, h, numOf_append]
  simp

/-- Word i of the block is the number of the sixteen levels from level 16 i on. -/
theorem blockWords_getD (miso : List Bool) (i : Nat) (h : 2 * i + 1 < blockLength miso) :
    ((blockWords miso).getD i 0).toNat = numOf ((List.range 16).map (fun k => miso.getD (16 * i + k) true)) := by
  rw [blockWords, wordsOf_getD _ _ (by simpa using h), readBytes_getD _ _ _ (by omega), readBytes_getD _ _ _ h,
    show 8 * (2 * i + 1) = 8 * (2 * i) + 8 by ring, ← List.drop_drop, wordOf_takeByte_toNat]
  refine congrArg numOf (List.map_congr_left fun k _ => ?_)
  simp [List.getD_eq_getElem?_getD, show 8 * (2 * i) = 16 * i by ring]

/-- What a load that fails no check has met (R171). -/
theorem loadFails_eq_false {number : Nibble} {miso : List Bool} (h : loadFails number miso = false) :
    number ≠ 15 ∧ headerFails miso = false ∧ wordSum (blockWords miso) = 0 := by
  simpa [loadFails, not_or, and_assoc] using h

end Sys2Proof.Machine
end

