-- ==== Sys2Proof/Laws/Water.lean ====
section
/-! SUPPORT. What the shared water operations leave unchanged, and the channel they leave. -/

namespace Sys2Proof.Machine

/-! ### quietWater -/

@[simp] theorem quietWater_pending (s : State) : (quietWater s).pending = s.pending := by
  unfold quietWater
  simp
@[simp] theorem quietWater_free (s : State) : (quietWater s).free = s.free := by
  unfold quietWater
  simp
@[simp] theorem quietWater_pins (s : State) : (quietWater s).pins = s.pins := by
  unfold quietWater
  simp
@[simp] theorem quietWater_start (s : State) : (quietWater s).start = s.start := by
  unfold quietWater
  simp
@[simp] theorem quietWater_line (s : State) : (quietWater s).line = s.line := by
  unfold quietWater
  simp
@[simp] theorem quietWater_peers (s : State) : (quietWater s).peers = s.peers := by
  unfold quietWater
  simp
@[simp] theorem quietWater_req (s : State) : (quietWater s).req = s.req := by
  unfold quietWater
  simp
@[simp] theorem quietWater_drive (s : State) : (quietWater s).drive = s.drive := by
  unfold quietWater
  simp
@[simp] theorem quietWater_arm1 (s : State) : (quietWater s).arm1 = s.arm1 := by
  unfold quietWater
  simp
@[simp] theorem quietWater_arm2 (s : State) : (quietWater s).arm2 = s.arm2 := by
  unfold quietWater
  simp
@[simp] theorem quietWater_faults (s : State) : (quietWater s).faults = s.faults := by
  unfold quietWater
  simp

/-! ### enterWater -/

@[simp] theorem enterWater_pending (st : WaterState) (s : State) : (enterWater st s).pending = s.pending := by
  unfold enterWater
  repeat' split
  all_goals simp
@[simp] theorem enterWater_free (st : WaterState) (s : State) : (enterWater st s).free = s.free := by
  unfold enterWater
  repeat' split
  all_goals simp
@[simp] theorem enterWater_pins (st : WaterState) (s : State) : (enterWater st s).pins = s.pins := by
  unfold enterWater
  repeat' split
  all_goals simp
@[simp] theorem enterWater_start (st : WaterState) (s : State) : (enterWater st s).start = s.start := by
  unfold enterWater
  repeat' split
  all_goals simp
@[simp] theorem enterWater_peers (st : WaterState) (s : State) : (enterWater st s).peers = s.peers := by
  unfold enterWater
  repeat' split
  all_goals simp
@[simp] theorem enterWater_req (st : WaterState) (s : State) : (enterWater st s).req = s.req := by
  unfold enterWater
  repeat' split
  all_goals simp
@[simp] theorem enterWater_sp (st : WaterState) (s : State) : (enterWater st s).sp = s.sp := by
  unfold enterWater
  repeat' split
  all_goals simp
@[simp] theorem enterWater_drive (st : WaterState) (s : State) : (enterWater st s).drive = s.drive := by
  unfold enterWater
  repeat' split
  all_goals simp
@[simp] theorem enterWater_arm1 (st : WaterState) (s : State) : (enterWater st s).arm1 = s.arm1 := by
  unfold enterWater
  repeat' split
  all_goals simp
@[simp] theorem enterWater_arm2 (st : WaterState) (s : State) : (enterWater st s).arm2 = s.arm2 := by
  unfold enterWater
  repeat' split
  all_goals simp
@[simp] theorem enterWater_faults (st : WaterState) (s : State) : (enterWater st s).faults = s.faults := by
  unfold enterWater
  repeat' split
  all_goals simp

/-! ### waterOff -/

@[simp] theorem waterOff_pending (s : State) : (waterOff s).pending = s.pending := by
  unfold waterOff
  simp
@[simp] theorem waterOff_free (s : State) : (waterOff s).free = s.free := by
  unfold waterOff
  simp
@[simp] theorem waterOff_pins (s : State) : (waterOff s).pins = s.pins := by
  unfold waterOff
  simp
@[simp] theorem waterOff_start (s : State) : (waterOff s).start = s.start := by
  unfold waterOff
  simp
@[simp] theorem waterOff_peers (s : State) : (waterOff s).peers = s.peers := by
  unfold waterOff
  simp
@[simp] theorem waterOff_req (s : State) : (waterOff s).req = s.req := by
  unfold waterOff
  simp
@[simp] theorem waterOff_drive (s : State) : (waterOff s).drive = s.drive := by
  unfold waterOff
  simp
@[simp] theorem waterOff_arm1 (s : State) : (waterOff s).arm1 = s.arm1 := by
  unfold waterOff
  simp
@[simp] theorem waterOff_arm2 (s : State) : (waterOff s).arm2 = s.arm2 := by
  unfold waterOff
  simp
@[simp] theorem waterOff_faults (s : State) : (waterOff s).faults = s.faults := by
  unfold waterOff
  simp

/-! ### stopWater -/

@[simp] theorem stopWater_pending (s : State) : (stopWater s).pending = s.pending := by
  unfold stopWater
  repeat' split
  all_goals simp
@[simp] theorem stopWater_free (s : State) : (stopWater s).free = s.free := by
  unfold stopWater
  repeat' split
  all_goals simp
@[simp] theorem stopWater_pins (s : State) : (stopWater s).pins = s.pins := by
  unfold stopWater
  repeat' split
  all_goals simp
@[simp] theorem stopWater_start (s : State) : (stopWater s).start = s.start := by
  unfold stopWater
  repeat' split
  all_goals simp
@[simp] theorem stopWater_peers (s : State) : (stopWater s).peers = s.peers := by
  unfold stopWater
  repeat' split
  all_goals simp
@[simp] theorem stopWater_req (s : State) : (stopWater s).req = s.req := by
  unfold stopWater
  repeat' split
  all_goals simp
@[simp] theorem stopWater_drive (s : State) : (stopWater s).drive = s.drive := by
  unfold stopWater
  repeat' split
  all_goals simp
@[simp] theorem stopWater_arm1 (s : State) : (stopWater s).arm1 = s.arm1 := by
  unfold stopWater
  repeat' split
  all_goals simp
@[simp] theorem stopWater_arm2 (s : State) : (stopWater s).arm2 = s.arm2 := by
  unfold stopWater
  repeat' split
  all_goals simp
@[simp] theorem stopWater_faults (s : State) : (stopWater s).faults = s.faults := by
  unfold stopWater
  repeat' split
  all_goals simp

/-! ### waterModeChange -/

@[simp] theorem waterModeChange_pending (m : Mode) (s : State) : (waterModeChange m s).pending = s.pending := by
  unfold waterModeChange
  repeat' split
  all_goals simp
@[simp] theorem waterModeChange_free (m : Mode) (s : State) : (waterModeChange m s).free = s.free := by
  unfold waterModeChange
  repeat' split
  all_goals simp
@[simp] theorem waterModeChange_pins (m : Mode) (s : State) : (waterModeChange m s).pins = s.pins := by
  unfold waterModeChange
  repeat' split
  all_goals simp
@[simp] theorem waterModeChange_start (m : Mode) (s : State) : (waterModeChange m s).start = s.start := by
  unfold waterModeChange
  repeat' split
  all_goals simp
@[simp] theorem waterModeChange_peers (m : Mode) (s : State) : (waterModeChange m s).peers = s.peers := by
  unfold waterModeChange
  repeat' split
  all_goals simp
@[simp] theorem waterModeChange_req (m : Mode) (s : State) : (waterModeChange m s).req = s.req := by
  unfold waterModeChange
  repeat' split
  all_goals simp
@[simp] theorem waterModeChange_drive (m : Mode) (s : State) : (waterModeChange m s).drive = s.drive := by
  unfold waterModeChange
  repeat' split
  all_goals simp
@[simp] theorem waterModeChange_arm1 (m : Mode) (s : State) : (waterModeChange m s).arm1 = s.arm1 := by
  unfold waterModeChange
  repeat' split
  all_goals simp
@[simp] theorem waterModeChange_arm2 (m : Mode) (s : State) : (waterModeChange m s).arm2 = s.arm2 := by
  unfold waterModeChange
  repeat' split
  all_goals simp
@[simp] theorem waterModeChange_faults (m : Mode) (s : State) : (waterModeChange m s).faults = s.faults := by
  unfold waterModeChange
  repeat' split
  all_goals simp

/-! ### The channel that an operation leaves -/

theorem enterWater_water (st : WaterState) (s : State) :
    (enterWater st s).water = { s.water with state := st } := by
  simp only [enterWater]
  split <;> simp

/-- The move to OFF stops pump, valves and timers, and keeps the enable flag, the dry-failure count and the
readings (R96). -/
theorem waterOff_water (s : State) :
    (waterOff s).water = { s.water with
      state := .off, slot := 0, primeTimer := none, lossTimer := none, dryWaitTimer := none,
      patternTimer := none, pump := 0, valves := 0 } := by
  unfold waterOff
  rw [enterWater_water]
  rfl

theorem waterOff_site (s : State) : (waterOff s).sp.wtr.ramp = s.sp.wtr.ramp.setOut 0 := by
  simp only [waterOff, enterWater]
  split <;> (try rw [makeDue_sp]) <;> rfl

/-- After a stop the channel is not active (R104). -/
theorem stopWater_inactive (s : State) : (stopWater s).water.state.active = false := by
  unfold stopWater
  split
  · rw [waterOff_water]; rfl
  · next h => simpa using h

end Sys2Proof.Machine
end

