-- ==== Sys2Proof/WellFormed.lean ====
section
/-! DEFINITION. Which commands can occur: the bounds on operands that their types do not already give. -/

namespace Sys2Proof

/-- A frame on the line carries at most 16 payload bytes (R138, R176). -/
def Frame.wellFormed (f : Frame) : Bool := f.payload.length ≤ 16

/-- The bits of the longest frame: a header of 19 bits, 16 payload bytes and the check sequence
(R176). -/
def maxFrameBits : Nat := 19 + 8 * 16 + 16

/-- The most bytes the load reads: a block of 2048 bytes (R171). -/
def maxBlockLevels : Nat := 16384

/-- The operand bounds of each command. Every other operand is bounded by its type. -/
def Instr.wellFormed : Instr → Bool
  | .loadCompletion miso _ _ _ => miso.length ≤ maxBlockLevels
  | .frameArrival bits => bits.length ≤ maxFrameBits
  | .lineIdle (some f) => f.wellFormed
  | .lineIdle none => true
  | .coldReset => true
  | .resetRelease _ => true
  | .joinTimerExpiry => true
  | .drvControlPeriod _ => true
  | .armControlPeriod _ _ => true
  | .wtrControlPeriod _ _ => true
  | .bucketClose => true
  | .speedEdge _ _ _ => true
  | .engineEdge => true
  | .parkTimerExpiry => true
  | .dwellTimerExpiry => true
  | .speedSilenceExpiry => true
  | .engineSilenceExpiry => true
  | .moveTimerExpiry _ => true
  | .blindTimerExpiry _ => true
  | .primeTimerExpiry => true
  | .lossTimerExpiry => true
  | .dryWaitExpiry => true
  | .patternTimerExpiry => true
  | .staleExpiry _ => true
  | .lostExpiry _ => true
  | .entryDiscard _ _ => true
  | .repeatTimerExpiry _ => true
  | .switchLevelChange _ _ => true
  | .settlingTimerExpiry _ => true
  | .reportTimerExpiry => true
  | .babbleGuardCutoff => true
  | .reportArrival => true
  | .alertArrival => true
  | .answerArrival => true
  | .setMode => true
  | .armMove => true
  | .waterSet => true
  | .trimSet => true
  | .faultClear => true
  | .query => true
  | .restart _ => true
  | .unknownRequestKind => true
  | .frameSent => true

end Sys2Proof
end

