-- ==== Sys2Proof/Tests/Slice0.lean ====
section
/-! SUPPORT. Tests: the operand checks, the worked cases of the manual, and a witness for the hypotheses of each statement. -/

namespace Sys2Proof.Tests

open Sys2Proof Sys2Proof.Machine

set_option Elab.async false

/-! ### A small image and small states -/

/-- The bank of the worked cases of 1.7, 3.3 and 5.9. -/
def bank : Bank where
  pedal := ⟨400, 8, [0, 60, 130, 200, 270, 340, 410, 480, 550, 620, 690, 760, 800]⟩
  feed := ⟨0, 7, [300, 700, 1050, 1380, 1700, 2000]⟩
  brush := ⟨0, 6, [900, 1300, 1800, 2200, 2500, 2700, 2850, 2950, 3000]⟩
  water := ⟨0, 6, [800, 1100, 1500, 1800, 2100, 2300, 2450, 2550, 2600]⟩
  drvTimes := ⟨200, 140⟩
  brTimes := ⟨250, 250⟩
  wtrTimes := ⟨100, 100⟩
  drvPair := ⟨50, 350⟩
  brPair := ⟨100, 400⟩
  wtrPair := ⟨50, 250⟩
  blindShare := 128
  brRule := ⟨.travelAbs, 40, .lt, .max, .a⟩
  wtrRule := ⟨.tankLevel, 1000, .lt, .min, .sum⟩
  waterTrim := 200
  primeCommand := 3000
  pattern := [1, 2, 4, 8, 1, 2, 4, 8, 1, 2, 4, 8, 1, 2, 4, 8]
  blindCommand := 1400

/-- An image with one used switch slot: SW0 on, ARM_MOVE WORK of ARM1 at station 5. -/
def image : StartBlock where
  line := ⟨5, 500, 100, 3, 2400, 450, 420, 12⟩
  drive := ⟨300, 1500, 300, 120, 40, 500, 10, 1000, 500, 50, 8, 100, 380, 30, 40⟩
  arms := ⟨3600, 900, 3600, 900, 6000, 3000, 20, 30, 400⟩
  water := ⟨400, 900, 600, 4000, 1500, 10000, 50⟩
  bank0 := bank
  bank1 := bank
  bank2 := bank
  bank3 := bank
  switchMap := some ⟨5, 2, [1, 1, 0, 0]⟩ :: List.replicate 31 none

/-- The own measurements at v and nE, five buckets closed. -/
def measured (v : Int) (nE : Nat) : Measure := ⟨.reset, .reset, v, nE, 5, some 0⟩

/-- Station 3 with a role, in a station state and mode, its arms stowed and its speeds 150 and 2250. -/
def station (st : StationState) (role : BitVec 3) (m : Mode) : State :=
  { State.reset with
    pins := { Pins.reset with resetN := true, drive := ⟨false, false, 2000, 600, 600⟩ }
    start := ⟨st, 3, role, m, some image, none, ⟨false, [3, 0, 0], 1076⟩⟩
    drive := { Drive.reset with meas := measured 150 2250 }
    arm1 := { Arm.unpopulated with position := 3620 }
    arm2 := { Arm.unpopulated with position := 3620 }
    water := { Water.reset with enable := true, tank := 2500, waterP := 960 } }

/-- A station with every channel in RUNNING and SWEEP_DRY. -/
def run : State := station .running 7 .sweepDry

/-- The same in SWEEP_WET. -/
def wet : State := station .running 7 .sweepWet

/-- A brush station without a drive. -/
def brush : State := station .running 2 .sweepDry

/-- The state after a command. -/
def after (c : Instr) (s : State) : State :=
  match exec c s with
  | .next t => t
  | .fault _ => s
  | .refused _ => s

/-- The state with a drive state and direction. -/
def driving (s : State) (st : DriveState) (last pend : Option Direction) (out : Int) : State :=
  (s.withDrive { s.drive with state := st, lastDir := last, pendDir := pend, brakeApplied := false }).withSp
    { s.sp with drv := { s.sp.drv with ramp := s.sp.drv.ramp.setOut out } }

/-- The state with an arm state, move timer and resume flag. -/
def armed (s : State) (n : ArmId) (st : ArmState) (resume : Bool) (move : Timer) : State :=
  s.withArm n { s.arm n with state := st, resume := resume, moveTimer := move }

/-- The state with a travel speed measured by the station itself. -/
def moving (s : State) (v : Int) : State := s.withDrive { s.drive with meas := measured v 2250 }

/-- The state with a sticky kind. -/
def stuck (s : State) (k : FaultKind) : State := setSticky k s

/-- The state with one frame received. -/
def hearing (s : State) (f : Frame) : State := s.withLine { s.line with rx := [f] }

/-- The values of a report of a drive station. -/
def drvValues : ReportValues :=
  ⟨5, 1, .sweepDry, 150, .good, some .forward, 2250, .good, 311, .good, 0, 0, .stowed, .stowed, .off, 0⟩

/-- An entry with those values. -/
def entry (st : EntryState) (age : Nat) : PeerEntry := ⟨st, 7, drvValues, none, age⟩

/-- The state with an entry for station 1. -/
def knowing (s : State) (e : PeerEntry) : State := s.withPeer 1 (some e)

/-- A request frame from station 12 to station 3, tag 5. -/
def request (kind : Nibble) (args : List Byte) : Frame := ⟨.request, 12, 3, kind, 0x05#8 :: args⟩

/-! ### Operand checks -/

theorem test_check_refuses_long_block :
    (Instr.loadCompletion (List.replicate 16385 false) 0 0 0).wellFormed = false := by decide +kernel

theorem test_check_refuses_long_bits :
    (Instr.frameArrival (List.replicate 164 false)).wellFormed = false := by decide +kernel

theorem test_check_refuses_long_payload :
    (Instr.lineIdle (some ⟨.report, 1, 15, 0, List.replicate 17 0⟩)).wellFormed = false := by
  decide +kernel

theorem test_check_accepts_bounds :
    (Instr.loadCompletion (List.replicate 16384 false) 0 0 0).wellFormed = true
      ∧ (Instr.frameArrival (List.replicate 163 false)).wellFormed = true
      ∧ (Instr.lineIdle (some ⟨.report, 1, 15, 0, List.replicate 16 0⟩)).wellFormed = true := by
  decide +kernel

/-- No row of the table gives bits. -/
theorem test_no_word_spells_a_command :
    decodeTableWord 16 0 = none ∧ State.reset.withFetchWord 16 5 = State.reset := by decide +kernel

/-! ### Worked cases of the setpoint arithmetic -/

/-- The falling curve of 1.2. -/
def falling : Curve := ⟨200, 7, [3000, 1000, 1000]⟩

theorem test_worked_curve_edges :
    curveLookup falling 150 = (3000, .low) ∧ curveLookup falling 200 = (3000, .inside)
      ∧ curveLookup falling 263 = (2016, .inside) ∧ curveLookup falling 455 = (1000, .inside)
      ∧ curveLookup falling 456 = (1000, .high) := by decide +kernel

/-- Outputs and error terms of a ramp under a list of periods. -/
def ramped (full : Nat) : List (RampTimes × Int) → Ramp → List (Int × Int)
  | [], _ => []
  | (times, t) :: rest, r =>
    let r' := r.step full times t
    (r'.out, r'.err) :: ramped full rest r'

theorem test_worked_ramp_retarget :
    ramped 4095 [(⟨250, 250⟩, 1937), (⟨250, 250⟩, 1937), (⟨250, 250⟩, 2100), (⟨250, 250⟩, 2100),
        (⟨500, 500⟩, 1936), (⟨500, 500⟩, 1936), (⟨500, 500⟩, 1936)] (Ramp.reset.setOut 1850)
      = [(1866, 130), (1883, -180), (1899, 10), (1916, -300), (1924, -120), (1932, 70), (1936, 0)] := by
  decide +kernel

theorem test_worked_ramp_through_zero :
    ramped 1500 (List.replicate 14 (⟨300, 140⟩, -200)) (Ramp.reset.setOut 120)
      = [(109, -20), (99, 180), (88, 100), (77, 20), (66, -60), (56, 140), (45, 60), (34, -20),
          (24, 180), (13, 100), (2, 20), (0, 0), (-5, -300), (-10, -300)] := by decide +kernel

theorem test_worked_derating :
    factor ⟨100, 400⟩ 128 (some 0) = 256 ∧ factor ⟨100, 400⟩ 128 (some 150) = 214
      ∧ factor ⟨100, 400⟩ 128 (some 300) = 86 ∧ factor ⟨100, 400⟩ 128 (some 301) = 85
      ∧ factor ⟨100, 400⟩ 128 (some 400) = 0 ∧ factor ⟨100, 400⟩ 128 none = 128
      ∧ factor ⟨300, 300⟩ 128 (some 300) = 256 ∧ factor ⟨300, 300⟩ 128 (some 301) = 0
      ∧ derateInt (-900) 214 = -752 ∧ derateInt (-900) 86 = -302 ∧ derateInt (-900) 85 = -298
      ∧ derateInt (-900) 128 = -450 := by decide +kernel

/-- By the formula of R17 (log 39): 1 × 256 / 512 truncates to 0, 2 × 256 / 512 is 1. -/
theorem test_derating_under_a_wide_span :
    factor ⟨0, 512⟩ 128 (some 1) = 256 ∧ factor ⟨0, 512⟩ 128 (some 2) = 255 := by decide

/-! ### The frame on the wire -/

/-- The bits of the nine ASCII digits, whose check value under this generator and start is 29B1. -/
theorem test_check_sequence :
    crc ([0x31#8, 0x32#8, 0x33#8, 0x34#8, 0x35#8, 0x36#8, 0x37#8, 0x38#8, 0x39#8].flatMap bitsOf)
      = 0x29B1#16 := by decide +kernel

theorem test_frame_layout :
    headerBits (request 2 [1, 1])
      = [true, false] ++ [true, true, false, false] ++ [false, false, true, true]
        ++ [false, false, true, false] ++ [false, false, false, true, true]
      ∧ parseFrame (frameBits (request 2 [1, 1])) = some (request 2 [1, 1])
      ∧ parseFrame ((frameBits (request 2 [1, 1])).set 20 true) = none := by decide +kernel

/-! ### Start and reset -/

/-- The levels of SPI_MISO that carry words, high byte and most significant bit first (R170, 11.4). -/
def levelsOf (ws : List Word) : List Bool := ws.flatMap bitsOf

/-- The words of a block: header, n zeros and the sum word. -/
def paddedWords (bytes sum : Word) (n : Nat) : List Word := [0x0C61#16, bytes] ++ List.replicate n 0 ++ [sum]

/-- The least block, of 1076 bytes. -/
def block : List Bool := levelsOf (paddedWords 1076 0xEF6B 535)

/-- The same with its sum word left at 0. -/
def badBlock : List Bool := levelsOf (paddedWords 1076 0 535)

theorem test_bytes_and_words_are_taken_in_order :
    readBytes 5 (block.take 32) = [0x0C, 0x61, 0x04, 0x34, 0xFF] ∧ headerWords block = [0x0C61, 1076] := by
  decide +kernel

/-- LOADING after a release with strap number 3 and role 7. -/
def loading : State := after (.resetRelease ⟨3, 7⟩) State.reset

theorem test_cold_reset : after .coldReset run = { State.reset with pins := { run.pins with resetN := false } } := by
  decide +kernel

theorem test_reset_release :
    loading.start.number = 3 ∧ loading.start.role = 7 ∧ loading.pins.resetN = true
      ∧ loading.start.spi = ⟨true, [3, 0, 0], 0⟩
      ∧ (outputs loading).spiWave.length = 72
      ∧ ((outputs loading).spiWave.filter SpiLevels.sck).map SpiLevels.mosi
          = ([false, false, false, false, false, false, true, true] ++ List.replicate 16 false).map some := by
  decide +kernel

theorem test_load_accepts :
    let t := after (.loadCompletion block 3700 300 5) loading
    t.start.station = .listening ∧ t.start.image.map (fun b => b.line.period) = some 2
      ∧ t.arm1.state = .stowed ∧ t.arm1.position = 3700
      ∧ t.req.switches.toList.map Debouncer.level = [true, false, true, false, false, false, false, false] := by
  decide +kernel

/-- A read that an absent memory ends after the header clocks its four bytes and raises chip select (R170, R171). -/
theorem test_absent_memory_is_clocked_for_its_header :
    let t := after (.loadCompletion [] 3700 300 5) loading
    t.start.station = .failedStart ∧ t.start.spi = ⟨false, [3, 0, 0], 4⟩
      ∧ ((outputs t).spiWave.filter SpiLevels.sck).length = 24 + 32
      ∧ (outputs t).spiWave.getLast? = some ⟨false, none⟩ := by decide +kernel

/-- The sum word left at 0 fails check 5 (11.4). -/
theorem test_load_fails_on_the_sum :
    let t := after (.loadCompletion badBlock 3700 3700 0) loading
    t.start.station = .failedStart ∧ sticky .configBad t = true
      ∧ t.line.alertSlot = some .configBad ∧ (outputs t).faultLow = true := by decide +kernel

/-- Both first positions BAD: ARM1 hands over first, so the ALERT slot keeps the kind of ARM2 (log 35). -/
theorem test_load_with_bad_positions :
    let t := after (.loadCompletion block 81 4014 0) loading
    t.start.station = .listening ∧ t.arm1.state = .held ∧ t.line.alertSlot = some .arm2Fault
      ∧ sticky .arm1Fault t = true ∧ sticky .arm2Fault t = true := by decide +kernel

/-- LISTENING with the join timer at its time. -/
def listening : State :=
  (station .listening 7 .transport).withStart { (station .listening 7 .transport).start with joinTimer := some 250 }

theorem test_join :
    let t := after .joinTimerExpiry listening
    t.start.station = .running ∧ t.line.reportDue = true ∧ t.line.reportTimer = some 0 := by
  decide +kernel

/-! ### The drive channel -/

/-- The station of 3.3: role 1, two brush stations heard with report byte 97. -/
def driver : State :=
  let e : PeerEntry := ⟨.fresh, 0, { drvValues with mask := 0b000110, arm1 := .working, brush1 := 97 }, none, 0⟩
  let s := driving (station .running 1 .sweepDry) .forward (some .forward) none 262
  let s := s.withDrive { s.drive with trim := 12 }
  (s.withSp { s.sp with drv := { s.sp.drv with ramp := ⟨262, -200, .rising, 200, 7, 200, -200, true⟩ } }).withPeers
    ((s.peers.set 3 (some e)).set 4 (some e))

theorem test_worked_drive_period :
    let t := after (.drvControlPeriod ⟨true, false, 3000, 2800, 600⟩) driver
    t.sp.drv.ramp.out = 269 ∧ t.sp.drv.ramp.err = 0 ∧ t.sp.drv.k = 171 ∧ t.drive.command = 731
      ∧ t.drive.pressure = 311 ∧ t.drive.cut = .none ∧ t.drive.trim = 12
      ∧ (outputs t).pumpFwd = 731 ∧ (outputs t).pumpRev = 0 := by decide +kernel

theorem test_worked_pressure_cut :
    ([360, 391, 396, 384, 372, 355, 344].foldl
      (fun x bar => x ++ [pressureCut image.drive (some bar) 733 (x.getLastD (.none, 731)).2]) [])
      = [(.hold, 731), (.reduce, 691), (.reduce, 651), (.reduce, 611), (.hold, 611), (.hold, 611),
          (.none, 733)] := by decide +kernel

/-- The direction change of 3.2 at its periods 1, 12 and 15: the last leaves the dwell timer running. -/
theorem test_worked_direction_change :
    let i : DriveInputs := ⟨false, true, 3000, 600, 600⟩
    let t := after (.drvControlPeriod i) (driving (station .running 1 .sweepDry) .forward (some .forward) none 120)
    let u := after (.drvControlPeriod i)
      (moving (driving (station .running 1 .sweepDry) .changing (some .forward) (some .reverse) 2) 18)
    let w := after (.drvControlPeriod i) (moving u 8)
    t.drive.state = .changing ∧ t.drive.pendDir = some .reverse ∧ t.sp.drv.ramp.out = 109
      ∧ u.sp.drv.ramp.out = 0 ∧ u.drive.dwellTimer = none ∧ w.drive.dwellTimer = some 0
      ∧ w.drive.command = 0 := by decide +kernel

theorem test_worked_bucket_close :
    let s := run.withDrive { run.drive with
      meas := ⟨⟨13, 13, 12, 13, 12⟩, ⟨9, 9, 9, 9, 9⟩, 0, 0, 4, some 20⟩ }
    let t := after .bucketClose s
    t.drive.meas.v = 150 ∧ t.drive.meas.nE = 2250 ∧ t.drive.meas.closes = 5
      ∧ t.drive.meas.travel = ⟨0, 13, 13, 12, 13⟩ ∧ t.drive.meas.bucketTimer = some 0 := by decide +kernel

/-- The forward sequence of R19. -/
theorem test_speed_edges_forward :
    (after (.speedEdge .b false false) (after (.speedEdge .a false true)
      (after (.speedEdge .b true true) (after (.speedEdge .a true false) run)))).drive.meas.travel.opened
      = 4 := by decide +kernel

theorem test_engine_edge :
    (after .engineEdge (run.withDrive { run.drive with engineSilence := 480 })).drive.engineSilence = 0
      ∧ (after .engineEdge run).drive.meas.engine.opened = 1 := by decide +kernel

/-- A NEUTRAL drive whose park timer has reached its time. -/
def parking : State :=
  let s := driving run .neutral (some .forward) none 0
  s.withDrive { s.drive with parkTimer := some 1000 }

theorem test_park_timer :
    (after .parkTimerExpiry parking).drive.state = .parked
      ∧ (after .parkTimerExpiry parking).drive.brakeApplied = true := by decide +kernel

/-- A CHANGING drive whose dwell timer has reached its time. -/
def dwelling : State :=
  let s := driving run .changing (some .forward) (some .reverse) 0
  s.withDrive { s.drive with dwellTimer := some 500 }

theorem test_dwell_timer :
    (after .dwellTimerExpiry dwelling).drive.state = .reverse
      ∧ (after .dwellTimerExpiry dwelling).drive.lastDir = some .reverse := by decide +kernel

/-- A drive whose pickups are both silent for 500 ms. -/
def silent : State := run.withDrive { run.drive with speedSilence := 500, engineSilence := 500 }

/-- The pickup failure of 3.4: the expiry trips the drive at its next period. -/
theorem test_worked_pickup_failure :
    let s := driving (station .running 1 .sweepDry) .forward (some .forward) none 600
    let t := after .speedSilenceExpiry
      (s.withDrive { s.drive with speedSilence := 500, command := 1800 })
    let u := after (.drvControlPeriod ⟨true, false, 3000, 600, 600⟩) t
    sticky .speedSensor t = true ∧ t.line.alertSlot = some .speedSensor ∧ u.drive.state = .tripped
      ∧ u.sp.drv.ramp.out = 570 ∧ u.drive.brakeApplied = false := by decide +kernel

/-- A drive that trips while its ramp falls under a bank time equal to the fault ramp time sets up afresh (R59). -/
theorem test_trip_sets_up_afresh :
    let ramp : Ramp := ⟨100, 17, .falling, 50, 30, 0, -100, true⟩
    let s := driving run .forward (some .forward) none 100
    let t := after (.drvControlPeriod ⟨true, false, 0, 600, 600⟩)
      (s.withSp { s.sp with drv := { s.sp.drv with ramp := ramp } })
    t.drive.state = .tripped ∧ t.sp.drv.ramp.out = 70 ∧ t.sp.drv.ramp.err = -50 ∧ ramp.err = 17 := by
  decide +kernel

/-- nE is BAD from the ENGINE_SENSOR hand-over on, and no longer from the bucket close or the drive period after the engine
edge that ends the cause (R45, R161, R167). -/
theorem test_engine_sensor_is_bad_while_active_and_to_the_next_close :
    let timed := fun s : State => s.withDrive { s.drive with meas := { s.drive.meas with bucketTimer := some 20 } }
    let s := after .engineSilenceExpiry silent
    let u := after .engineEdge s
    ownEngineQuality silent = .good ∧ ownEngineQuality s = .bad ∧ ownEngineQuality (after .bucketClose (timed s)) = .bad
      ∧ active .engineSensor u = false ∧ ownEngineQuality u = .bad
      ∧ ownEngineQuality (after .bucketClose (timed u)) = .good
      ∧ ownEngineQuality (after (.drvControlPeriod ⟨false, false, 2000, 600, 600⟩) u) = .good := by decide +kernel

theorem test_engine_silence :
    active .engineSensor (after .engineSilenceExpiry silent) = true
      ∧ (after .engineSilenceExpiry silent).line.alertSlot = none := by decide +kernel

/-! ### The arms -/

/-- The brush station of 1.7: ARM1 WORKING, station 1 its travel source. -/
def brushing : State :=
  let s := armed (knowing brush (entry .fresh 0)) .one .working false none
  s.withSp { s.sp with br1 := { s.sp.br1 with ramp := s.sp.br1.ramp.setOut 1850 } }

theorem test_worked_brush_periods :
    let t := after (.armControlPeriod .one 800) brushing
    let u := after (.armControlPeriod .one 800) t
    t.sp.br1.ramp.out = 1866 ∧ t.sp.br1.ramp.err = 130 ∧ t.sp.br1.k = 214 ∧ t.arm1.command = 1559
      ∧ ownBrushByte .one t = 97 ∧ u.sp.br1.ramp.out = 1883 ∧ u.arm1.command = 1574 := by decide +kernel

/-- The reverse lift of 4.3, and its end in REVERSE_LIFTED. -/
theorem test_worked_reverse_lift :
    let s := armed (moving run (-35)) .one .lowering false (some 1200)
    let t := after (.armControlPeriod .one 2000) s
    let u := after (.armControlPeriod .one 3620) t
    t.arm1.state = .lifting ∧ t.arm1.resume = true ∧ t.arm1.moveTimer = some 0
      ∧ (outputs t).arm1.up = true ∧ u.arm1.state = .reverseLifted ∧ u.arm1.moveTimer = none := by
  decide +kernel

theorem test_move_timer :
    let t := after (.moveTimerExpiry .two) (armed run .two .lifting false (some 6000))
    t.arm2.state = .held ∧ sticky .arm2Fault t = true ∧ t.faults.stall2 = true := by decide +kernel

/-- A blind arm whose blind timer has reached its time. -/
def blind : State :=
  let s := armed brush .one .working false none
  s.withArm1 { s.arm1 with blindTimer := some 3000 }

theorem test_blind_timer :
    let t := after (.blindTimerExpiry .one) blind
    t.arm1.state = .lifting ∧ sticky .travelLost t = true ∧ active .travelLost t = false := by
  decide +kernel

/-! ### The water channel -/

/-- A PRIMING channel with its brush working. -/
def priming : State :=
  let s := armed wet .one .working false none
  s.withWater { s.water with state := .priming, primeTimer := some 1200, dryCount := 1, pump := 3000, valves := 1 }

theorem test_worked_first_spraying_period :
    let t := after (.wtrControlPeriod 2500 950) priming
    t.water.state = .spraying ∧ t.sp.wtr.ramp.out = 2959 ∧ t.sp.wtr.k = 128 ∧ t.water.pump = 1479
      ∧ t.water.valves = 1 ∧ t.water.dryCount = 0 ∧ t.water.patternTimer = some 0 := by decide +kernel

/-- A period below the prime pressure goes on priming. -/
theorem test_priming_goes_on :
    let t := after (.wtrControlPeriod 2500 420) priming
    t.water.state = .priming ∧ t.water.pump = 3000 ∧ t.water.primeTimer = some 1200 := by decide +kernel

/-- A SPRAYING channel with both of its timers at their times. -/
def spraying : State :=
  priming.withWater { priming.water with
    state := .spraying, dryCount := 0, slot := 15, primeTimer := none, lossTimer := some 1500,
    patternTimer := some 100 }

theorem test_prime_timer_locks_at_two :
    let s := priming.withWater { priming.water with primeTimer := some 4000 }
    let t := after .primeTimerExpiry s
    t.water.state = .dryLocked ∧ t.water.dryCount = 2 ∧ t.water.pump = 0 ∧ sticky .waterDry t = true
      ∧ t.line.alertSlot = some .waterDry := by decide +kernel

theorem test_loss_timer_waits_at_one :
    let t := after .lossTimerExpiry spraying
    t.water.state = .dryWait ∧ t.water.dryCount = 1 ∧ t.water.dryWaitTimer = some 0 ∧ t.water.valves = 0 := by
  decide +kernel

/-- A waiting channel at the end of its wait. -/
def waiting : State :=
  priming.withWater { priming.water with
    state := .dryWait, primeTimer := none, dryWaitTimer := some 10000, pump := 0, valves := 0 }

theorem test_dry_wait_primes_again :
    let t := after .dryWaitExpiry waiting
    t.water.state = .priming ∧ t.water.dryCount = 1 ∧ t.water.pump = 3000 ∧ t.water.primeTimer = some 0 := by
  decide +kernel

theorem test_pattern_wraps :
    let t := after .patternTimerExpiry spraying
    t.water.slot = 0 ∧ t.water.valves = 1 ∧ t.water.patternTimer = some 0 := by decide +kernel

/-! ### The peer table -/

/-- A report frame of station 1 with a sequence number. -/
def report (seq : Byte) : Frame := ⟨.report, 1, 15, 0, reportBytes seq drvValues⟩

theorem test_worked_entry_classes :
    let first := after .reportArrival (hearing brush (report 40))
    let duplicate := after .reportArrival (hearing (knowing brush (entry .fresh 50)) (report 7))
    let gap := after .reportArrival (hearing (knowing brush (entry .stale 120)) (report 9))
    let lost := after .reportArrival (hearing (knowing brush (entry .lost 730)) (report 0))
    first.peers[1]?.join.map PeerEntry.lastSeq = some 40 ∧ first.line.rx = []
      ∧ first.line.counters = .reset
      ∧ duplicate.peers[1]?.join.map PeerEntry.age = some 50 ∧ duplicate.line.counters.duplicateReports = 1
      ∧ gap.peers[1]?.join.map PeerEntry.status = some .fresh ∧ gap.line.counters.reportGaps = 1
      ∧ lost.peers[1]?.join.map PeerEntry.lastSeq = some 0 ∧ lost.line.counters = .reset := by decide +kernel

/-- The report byte layout of 11.3 for a drive station: mode 1 with mask 1, direction 1, 311 bar as 155. -/
theorem test_report_bytes :
    reportBytes 40 drvValues = [40, 5, 0x41, 0x00, 0x96, 0x01, 0x08, 0xCA, 155, 0, 0, 0, 0, 0, 0] := by
  decide +kernel

theorem test_alert_shortcut :
    let t := after .alertArrival (hearing (knowing brush (entry .fresh 0)) ⟨.alert, 1, 15, 2, []⟩)
    t.peers[1]?.join.map PeerEntry.lastAlert = some (some .speedSensor)
      ∧ (viewTravel t).quality = .bad ∧ active .travelLost t = true
      ∧ t.peers[1]?.join.map (fun e => e.vals.summary) = some 4 := by decide +kernel

theorem test_ageing :
    let stale := after (.staleExpiry 1) (knowing brush (entry .fresh 100))
    let lost := after (.lostExpiry 1) (knowing brush (entry .stale 250))
    (viewTravel stale).quality = .held ∧ (viewTravel lost).quality = .bad
      ∧ active .travelLost lost = true ∧ active .engineLost lost = true
      ∧ after (.staleExpiry 1) (knowing brush (entry .fresh 99)) = knowing brush (entry .fresh 99) := by
  decide +kernel

/-! ### Requests -/

/-- The result and value of the last answer queued. -/
def lastAnswer (s : State) : Option (Result × Word) := s.line.answers.getLast?.map (fun a => (a.result, a.value))

theorem test_set_mode :
    let t := after .setMode (hearing run (request 1 [2]))
    let u := after .setMode (hearing (armed run .one .working false none) (request 1 [0]))
    t.start.mode = .sweepWet ∧ t.water.enable = true ∧ lastAnswer t = some (.done, 2)
      ∧ u.start.mode = .transport ∧ u.arm1.state = .lifting ∧ lastAnswer u = some (.pending, 0)
      ∧ u.req.table.length = 1 := by decide +kernel

theorem test_arm_move :
    let t := after .armMove (hearing run (request 2 [1, 1]))
    let u := after .armMove (hearing t (request 2 [1, 1]))
    let v := after .armMove (hearing t { request 2 [1, 0] with src := 8 })
    t.arm1.state = .lowering ∧ lastAnswer t = some (.pending, 1) ∧ lastAnswer u = some (.pending, 1)
      ∧ u.req.table = t.req.table ∧ lastAnswer v = some (.conflict, 1) := by decide +kernel

/-- A SERVICE of another requester ends the ARM_MOVE WORK of an arm that lifts to resume (R78, R109). -/
theorem test_service_ends_a_resuming_work :
    let t := after .armMove (hearing run (request 2 [1, 1]))
    let t := moving (armed t .one .lifting true (some 9)) 0
    let u := after .setMode (hearing t { request 1 [3] with src := 8 })
    u.start.mode = .service ∧ u.arm1.state = .lifting ∧ u.arm1.resume = false
      ∧ u.req.table.map (fun e => (e.state, e.value, e.claims.arm1)) = [(.failed, 3, false)] := by decide +kernel

/-- The value of an ARM_MOVE that names no arm is 0 above bit 3 (R178). -/
theorem test_unnamed_arm_value :
    (refuseUnnamedArm run).value = 0#12 ++ Config.freeArmCode 0 ∧ (refuseUnnamedArm run).result = .refused :=
  ⟨rfl, rfl⟩

/-- A repeat under a held tag of another kind is a MISMATCH (7.2). -/
theorem test_trim_set :
    let t := after .trimSet (hearing run (request 4 [1, 0x07, 0xD0]))
    let u := after .trimSet (hearing (after .armMove (hearing run (request 2 [1, 1]))) (request 4 [1, 0, 9]))
    t.arm1.trim = 2000 ∧ lastAnswer t = some (.done, 0)
      ∧ lastAnswer (after .trimSet (hearing t (request 4 [1, 0x10, 0]))) = some (.refused, 0)
      ∧ lastAnswer u = some (.mismatch, 0) ∧ u.arm1.trim = 0 := by decide +kernel

theorem test_water_set :
    let t := after .waterSet (hearing priming (request 3 [0]))
    t.water.state = .off ∧ t.water.enable = false ∧ t.water.dryCount = 1 ∧ lastAnswer t = some (.done, 0)
      ∧ lastAnswer (after .waterSet (hearing run (request 3 [1]))) = some (.refused, 1) := by decide +kernel

/-- The clears of 9.4: a kind whose cause is present stays sticky. -/
theorem test_worked_fault_clear :
    let s := stuck (handOver .pedalInput true run) .arm1Fault
    let t := after .faultClear (hearing s (request 5 [0, 0x23]))
    t.faults.sticky = 1 ∧ lastAnswer t = some (.done, 1) ∧ (outputs t).faultLow = true := by decide +kernel

/-- A DRY_LOCKED channel released by a clear while the pressure sensor is broken (5.8). -/
theorem test_worked_clear_of_dry_lock :
    let s := stuck (handOver .waterInput true wet) .waterDry
    let s := s.withWater { s.water with state := .dryLocked, dryCount := 2 }
    let t := after .faultClear (hearing s (request 5 [0x01, 0x80]))
    t.water.state = .off ∧ t.water.dryCount = 0 ∧ sticky .waterDry t = false
      ∧ sticky .waterInput t = true := by decide +kernel

theorem test_query :
    lastAnswer (after .query (hearing run (request 6 [8]))) = some (.done, 0x0301)
      ∧ lastAnswer (after .query (hearing run (request 6 [10]))) = some (.done, 0x0E24)
      ∧ lastAnswer (after .query (hearing run (request 6 [31]))) = some (.refused, 0) := by decide +kernel

theorem test_restart :
    let t := after (.restart ⟨9, 1⟩) (hearing (station .silenced 7 .sweepDry) (request 7 []))
    let u := after (.restart ⟨9, 1⟩) (hearing (station .failedStart 7 .transport) (request 7 []))
    let w := after (.restart ⟨9, 1⟩) (hearing (station .running 7 .service) (request 7 []))
    t.start.station = .listening ∧ t.start.joinTimer = some 0 ∧ t.drive.state = .neutral
      ∧ u.start.station = .loading ∧ u.start.number = 9 ∧ u.start.role = 1
      ∧ lastAnswer w = some (.done, 0) ∧ w.start.station = .running := by decide +kernel

theorem test_unknown_kind :
    lastAnswer (after .unknownRequestKind (hearing run (request 9 [1, 2, 3]))) = some (.unknown, 0)
      ∧ after .unknownRequestKind (hearing run (request 6 [8])) = hearing run (request 6 [8]) := by
  decide +kernel

/-- An entry of the pending table. -/
def pending (st : PendingState) (time : Nat) : PendingEntry :=
  ⟨12, 5, .armMove .one .work, ⟨false, true, false⟩, st, 2, time⟩

/-- The state with one pending entry. -/
def holding (s : State) (e : PendingEntry) : State := s.withReq { s.req with table := [e] }

theorem test_entry_discard :
    let t := after (.entryDiscard 12 5) (holding run (pending .running 500))
    t.req.table = [] ∧ t.line.counters.orphanedOps = 1
      ∧ (after (.entryDiscard 12 5) (holding run (pending .superseded 500))).line.counters = .reset
      ∧ after (.entryDiscard 12 5) (holding run (pending .running 499)) = holding run (pending .running 499) := by
  decide +kernel

/-! ### Switches and the outgoing table -/

/-- The state with the debouncer of SW0. -/
def switched (s : State) (d : Debouncer) : State := s.withSwitch 0 d

theorem test_switch_level :
    let t := after (.switchLevelChange 0 true) run
    t.req.switches[0] = ⟨true, false, some 0⟩
      ∧ (after (.switchLevelChange 0 false) t).req.switches[0] = ⟨false, false, none⟩ := by decide +kernel

/-- The state after the on-edge of SW0: a request for station 5 under tag 0. -/
def asked : State := after (.settlingTimerExpiry 0) (switched run ⟨true, false, some 20⟩)

theorem test_worked_switch_edge :
    asked.req.outgoing = [⟨0, true, 5, 2, [1, 1], 0, 3, .queued, none⟩] ∧ asked.req.nextTag = 1
      ∧ asked.line.requests = [⟨5, 0, 2, [1, 1]⟩] := by decide +kernel

/-- Both slots of an edge name station 5, and the counter has come round to the tag of the entry that slot 0 replaces:
slot 1 leaves the request of slot 0 (R133). -/
theorem test_slots_of_one_edge_keep_each_other :
    let x : SwitchSlot := ⟨5, 2, [1, 1, 0, 0]⟩
    let b := { image with switchMap := some x :: some { x with args := [2, 1, 0, 0] } :: List.replicate 30 none }
    let s := switchEdge b 0 true (asked.withReq { asked.req with nextTag := 0 })
    s.req.outgoing.map (fun e => (e.tag, e.args)) = [(0, [1, 1]), (1, [2, 1])]
      ∧ s.line.requests = [⟨5, 0, 2, [1, 1]⟩, ⟨5, 1, 2, [2, 1]⟩] := by decide +kernel

/-- The state with one outgoing entry under tag 0. -/
def outgoing (st : OutgoingState) (repeats : Nat) (timer : Timer) : State :=
  run.withReq { run.req with outgoing := [⟨0, true, 5, 2, [1, 1], 0, repeats, st, timer⟩] }

/-- An answer from station 5 to tag 0. -/
def answer (code : Byte) : Frame := ⟨.answer, 5, 3, 2, [0xA0#8, code, 0, 2]⟩

theorem test_answers :
    let t := after .answerArrival (hearing (outgoing .awaiting 2 (some 7)) (answer 3))
    let u := after .answerArrival (hearing (outgoing .awaiting 1 (some 7)) (answer 3))
    t.req.outgoing = (outgoing .backingOff 1 (some 0)).req.outgoing
      ∧ u.req.outgoing = [] ∧ sticky .requestLost u = true
      ∧ (after .answerArrival (hearing run (answer 0))).line.counters.unmatchedAnswers = 1 := by
  decide +kernel

theorem test_repeats :
    let t := after (.repeatTimerExpiry 0) (outgoing .awaiting 2 (some 100))
    let u := after (.repeatTimerExpiry 0) (outgoing .backingOff 2 (some 100))
    t.req.outgoing = (outgoing .queued 1 none).req.outgoing ∧ t.line.requests = [⟨5, 0, 2, [1, 1]⟩]
      ∧ u.req.outgoing = (outgoing .queued 2 none).req.outgoing := by decide +kernel

/-! ### The section line -/

theorem test_report_timer :
    let t := after .reportTimerExpiry (run.withLine { run.line with reportTimer := some 50 })
    t.line.reportDue = true ∧ t.line.reportTimer = some 0 := by decide +kernel

theorem test_frame_arrival :
    let t := after (.frameArrival (frameBits (request 6 [8]))) run
    t.line.rx = [request 6 [8]]
      ∧ (after (.frameArrival (frameBits (request 6 [8])).dropLast) run).line.counters.checkErrors = 1 := by
  decide +kernel

/-- The doubled station number of 10.5. -/
theorem test_worked_doubled_number :
    let t := after (.frameArrival (frameBits { request 6 [8] with src := 3 }))
      (armed priming .two .reverseLifted true none)
    t.start.station = .silenced ∧ sticky .lineFault t = true ∧ active .lineFault t = false
      ∧ t.arm1.state = .held ∧ t.arm2.state = .stowed ∧ t.water.state = .off
      ∧ t.line.alertSlot = some .lineFault := by decide +kernel

/-- A running station with its report on the line. -/
def sending (o : Owner) : State :=
  run.withLine { run.line with
    onLine := some ⟨o, report 0⟩, guardTime := 2
    answers := [⟨12, 5, 2, .done, 2, some 0, false⟩], seq := 0 }

theorem test_babble_guard :
    let t := after .babbleGuardCutoff (sending .report)
    t.start.station = .silenced ∧ t.line.onLine = none ∧ t.line.guardArmed = false
      ∧ t.line.reportDue = true ∧ t.line.seq = 0 := by decide +kernel

/-- The idles of 8.2: the report waits behind a free answer, and goes before a held one. -/
theorem test_worked_line_idle :
    let held : Answer := ⟨12, 5, 2, .done, 2, some 17, false⟩
    let s := run.withLine { run.line with reportDue := true, seq := 17, answers := [held] }
    let t := after (.lineIdle none) s
    let u := after (.lineIdle (some ⟨.answer, 1, 2, 0, [0, 0, 0, 0]⟩)) s
    t.line.onLine.map Sending.owner = some .report ∧ t.line.reportDue = false
      ∧ u.line.onLine = none ∧ u.line.reportDue = true
      ∧ (after (.lineIdle none) (s.withLine { s.line with answers := [{ held with mark := none }] })).line.onLine.map
          Sending.owner = some .answer := by decide +kernel

theorem test_frame_sent :
    let t := after .frameSent (sending .report)
    t.line.seq = 1 ∧ t.line.onLine = none ∧ t.line.answers.map Answer.mark = [none] := by decide +kernel

/-- A report that a warm restart or a reload catches on the line is still this station's report: its end steps the sequence
counter (R151, log 33). An answer caught so reaches no block (R153). -/
theorem test_caught_report_steps_the_counter :
    let s := fun (st : StationState) (o : Owner) => hearing ((sending o).withStart { run.start with station := st }) (request 7 [])
    let back := fun (st : StationState) (o : Owner) => after (.restart ⟨9, 1⟩) (s st o)
    (∀ st ∈ [StationState.silenced, .failedStart],
        (back st .report).line.onLine.map Sending.owner = some .report ∧ (back st .report).line.seq = 0
          ∧ (after .frameSent (back st .report)).line.seq = 1 ∧ (after .frameSent (back st .report)).line.onLine = none
          ∧ (back st .answer).line.onLine.map Sending.owner = some .orphan
          ∧ (after .frameSent (back st .answer)).line.seq = 0) := by decide +kernel

/-- The restart of a SERVICE station begins when its answer is sent (R131). -/
theorem test_restart_answer_sent :
    let s := station .running 7 .service
    let s := s.withLine { s.line with
      onLine := some ⟨.answer, report 0⟩, answers := [⟨12, 5, 7, .done, 0, none, true⟩] }
    (after .frameSent s).start.station = .listening ∧ (after .frameSent s).start.mode = .transport := by
  decide +kernel

/-- One millisecond on an empty queue: the blind timer falls due and its expiry joins the queue (log 1). -/
theorem test_empty_queue_passes_time :
    let s := blind.withArm1 { blind.arm1 with blindTimer := some 2999 }
    (tick s).pending = [.blindTimerExpiry .one] ∧ (tick s).arm1.blindTimer = some 3000 := by decide +kernel

/-! ### Witnesses: states and operands that meet the hypotheses of each statement, clause by clause -/

theorem test_meets_StepRunsTheFrontCommand :
    (run.withPending [.coldReset, .query]).pending = .coldReset :: [.query] := by decide +kernel

theorem test_meets_EmptyQueuePassesOneMillisecond : run.pending = [] := by decide +kernel

/-- A station whose timers are one short of their times, but for a dwell timer that is two short. -/
def dueSoon : State :=
  { run with
    drive := { run.drive with
      state := .neutral, parkTimer := some 999, dwellTimer := some 498, speedSilence := 499, engineSilence := 499 }
    arm2 := { run.arm2 with moveTimer := some 5999 }
    water := { run.water with lossTimer := some 1499, patternTimer := some 99 }
    peers := (knowing run (entry .fresh 99)).peers
    req := { (switched run ⟨true, false, some 19⟩).req with
      table := [pending .done 499], outgoing := (outgoing .awaiting 2 (some 99)).req.outgoing }
    line := { (sending .report).line with reportTimer := some 49, guardTime := 1 } }

theorem test_meets_EmptyQueuePassesOneMillisecond_joins :
    dueSoon.pending = [] ∧ (tick dueSoon).pending = [.parkTimerExpiry, .speedSilenceExpiry, .engineSilenceExpiry,
      .moveTimerExpiry .two, .lossTimerExpiry, .patternTimerExpiry, .staleExpiry 1, .entryDiscard 12 5, .repeatTimerExpiry 0,
      .settlingTimerExpiry 0, .reportTimerExpiry, .babbleGuardCutoff] := by decide +kernel

theorem test_meets_ColdResetAndItsRelease : State.reset.pins.resetN = false ∧ run.pins.resetN = true := by
  decide +kernel

/-- The longest block, of 2048 bytes. -/
def longBlock : List Bool := levelsOf (paddedWords 2048 0xEB9F 1021)

/-- The number that sixteen levels spell from level 16 i on. -/
def wordIn (miso : List Bool) (i : Nat) : Nat := numOf ((List.range 16).map (fun k => miso.getD (16 * i + k) true))

theorem wordIn_cons (w : Word) (miso : List Bool) (i : Nat) : wordIn (bitsOf w ++ miso) (i + 1) = wordIn miso i := by
  refine congrArg numOf (List.map_congr_left fun k _ => ?_)
  rw [show 16 * (i + 1) + k = (bitsOf w).length + (16 * i + k) by rw [bitsOf_length]; ring,
    List.getD_append_right _ _ _ _ (by omega), Nat.add_sub_cancel_left]

theorem wordIn_zero (w : Word) (miso : List Bool) : wordIn (bitsOf w ++ miso) 0 = w.toNat := by
  rw [← numOf_bitsOf w, wordIn]
  refine congrArg numOf (List.map_congr_left fun k hk => ?_)
  rw [List.getD_append _ _ _ _ (by simpa using List.mem_range.mp hk)]
  simp [bitsOf, List.mem_range.mp hk]

/-- The words that levels spell, in order: those they were made of. -/
theorem words_of_levelsOf (ws : List Word) :
    (List.range ws.length).map (wordIn (levelsOf ws)) = ws.map BitVec.toNat := by
  induction ws with
  | nil => rfl
  | cons w ws ih =>
    rw [List.length_cons, List.range_succ_eq_map, List.map_cons, List.map_map, List.map_cons, ← ih]
    exact congrArg₂ _ (wordIn_zero w _) (List.map_congr_left (fun i _ => wordIn_cons w _ i))

/-- The word sum of a padded block as the check of R171 takes it. -/
theorem sum_of_padded (bytes sum : Word) (n words : Nat) (h : words = n + 3) :
    ((List.range words).map (wordIn (levelsOf (paddedWords bytes sum n)))).sum
      = 0x0C61 + bytes.toNat + sum.toNat := by
  have hw : words = (paddedWords bytes sum n).length := by simp [paddedWords, h]
  rw [hw, words_of_levelsOf]
  simp [paddedWords, Nat.add_assoc]

/-- The word sums of the least and of the longest block pass the check, and that of the bad block fails it. -/
theorem test_meets_LoadCompletionChecksTheBlock_sums :
    ((List.range (1076 / 2)).map (wordIn block)).sum % 65536 = 0
      ∧ ((List.range (2048 / 2)).map (wordIn longBlock)).sum % 65536 = 0
      ∧ ((List.range (1076 / 2)).map (wordIn badBlock)).sum % 65536 ≠ 0 := by
  have h1 : ((List.range (1076 / 2)).map (wordIn block)).sum = 3169 + 1076 + 61291 :=
    sum_of_padded 1076 0xEF6B 535 (1076 / 2) (by norm_num)
  have h2 : ((List.range (2048 / 2)).map (wordIn longBlock)).sum = 3169 + 2048 + 60319 :=
    sum_of_padded 2048 0xEB9F 1021 (2048 / 2) (by norm_num)
  have h3 : ((List.range (1076 / 2)).map (wordIn badBlock)).sum = 3169 + 1076 + 0 :=
    sum_of_padded 1076 0 535 (1076 / 2) (by norm_num)
  rw [h1, h2, h3]
  norm_num

/-- LOADING; good blocks at both ends of the length range, and a block that each check fails. -/
theorem test_meets_LoadCompletionChecksTheBlock :
    loading.start.station = .loading ∧ loading.pins.resetN = true ∧ loading.start.number ≠ 15
      ∧ (wordIn block 0 = 0x0C61 ∧ wordIn block 1 = 1076)
      ∧ (wordIn longBlock 0 = 0x0C61 ∧ wordIn longBlock 1 = 2048)
      ∧ (populated (armChannel .one) loading = true ∧ inSpan 82 = true ∧ inSpan 81 = false
        ∧ stowPosition (imageOf 3 block) .one ≤ (82 : Raw).toNat ∧ sticky (armFault .one) loading = false)
      ∧ loading.start.spi.taken = 0
      ∧ populated (armChannel .one) (after (.resetRelease ⟨3, 1⟩) State.reset) = false
      ∧ sticky .configBad loading = false
      ∧ (after (.resetRelease ⟨15, 7⟩) State.reset).start.number = 15
      ∧ wordIn [] 0 ≠ 0x0C61 ∧ wordIn badBlock 1 = 1076 := by decide +kernel

/-- Both ends of the length range are accepted, and a stow position at its threshold can be above the count. -/
theorem test_meets_AcceptedParametersAreInRange :
    loadFails 3 block = false ∧ loadFails 3 longBlock = false
      ∧ (81 : Nat) < stowPosition (imageOf 3 block) .one
      ∧ ((Mode.transport, 41) ∈ [(Mode.transport, 41), (.sweepDry, 141), (.sweepWet, 241), (.service, 341)]) := by
  decide +kernel

theorem test_meets_JoinAndReportTimersExpire :
    (listening.start.station = .listening ∧ listening.start.image = some image
        ∧ listening.start.joinTimer = some 250 ∧ 5 * image.line.period * 10 ≤ 250)
      ∧ (∀ st ∈ [StationState.running, .silenced],
          let s := (station st 7 .sweepDry).withLine { run.line with reportTimer := some 50 }
          s.line.reportTimer = some 50 ∧ s.start.image = some image ∧ 50 = 10 * image.line.period)
      ∧ (let s := loading.withStart { loading.start with station := .failedStart }
         let s := s.withLine { s.line with reportTimer := some 100 }
         s.line.reportTimer = some 100 ∧ s.start.image = none ∧ s.start.station = .failedStart) := by
  decide +kernel

/-- A curve in range; inputs below the span, at its start, at its last inner point and at its end. -/
theorem test_meets_CurveLookupCases :
    curveInRange falling ∧ falling.points.length = 2 + 1 ∧ ((199 : Int) < falling.x0)
      ∧ falling.x0 ≤ (200 : Int) ∧ (255 / 2 ^ falling.shift < 2) ∧ 2 ≤ 256 / 2 ^ falling.shift
      ∧ (456 : Int) = falling.x0 + (2 : Nat) * 2 ^ falling.shift
      ∧ falling.points.getD 1 0 = falling.points.getD 2 0 := by
  unfold curveInRange; decide +kernel

theorem test_meets_BlendChoosesAndMixes :
    conditionHolds .lt 39 40 = true ∧ conditionHolds .lt 40 40 = false ∧ (7 : Nat) < 8
      ∧ applyMix .sum 4095 4095 = (4095, true) ∧ applyMix .diff 0 4095 = (0, false) := by decide +kernel

/-- The six quantities at a station with every channel, and at one without a drive, a water channel or a heard peer. -/
theorem test_meets_BlendChoosesAndMixes_quantities :
    let all := [TestQuantity.travelAbs, .engineDroop, .tankLevel, .loopPressure, .armPosition, .brushSum]
    all.map (testQuantity image (moving run (-150)) (some 82)) = [some 150, some 150, some 2500, some 0, some 82, some 0]
      ∧ all.map (testQuantity image brush none) = [none, none, none, none, none, some 0]
      ∧ waterArmPosition run = some 3620 ∧ waterArmPosition (station .running 4 .sweepWet) = none := by decide +kernel

/-- A target beyond, on, and across zero from the output, and a time of 0 in both phases. -/
theorem test_meets_RampStepStopsAtTargetAndZero :
    let r := Ramp.reset.setOut 120
    r.out ≤ effectiveTarget r.out 120 ∧ effectiveTarget r.out (-200) ≤ r.out
      ∧ ((0 < r.out ∧ (-200 : Int) < 0) ∧ ¬((0 < r.out ∧ (200 : Int) < 0) ∨ (r.out < 0 ∧ (0 : Int) < 200)))
      ∧ (r.step 1500 ⟨0, 0⟩ 200).out = 200 ∧ r.out.natAbs < (effectiveTarget r.out 200).natAbs
      ∧ (0 < 300 ∧ (effectiveTarget r.out 50).natAbs ≤ r.out.natAbs ∧ effectiveTarget r.out 50 ≠ r.out)
      ∧ (r.step 1500 ⟨300, 140⟩ 200).out ≠ 200
      ∧ r.out.natAbs ≥ (effectiveTarget r.out (-200)).natAbs
      ∧ (Ramp.reset.setOut (-5)).out < 0 := by decide +kernel

theorem test_meets_RampCoversFullScaleInItsTime :
    (0 : Nat) < 140 ∧ advanceSum 140 (Ramp.reset.setup 1500 .falling 140) = 1500
      ∧ longAdvances 140 (Ramp.reset.setup 1500 .falling 140) = 100 := by decide +kernel

theorem test_meets_DeratingFactorAndCommand :
    bank.drvPair.d0 < bank.drvPair.d1 ∧ (50 ≤ bank.drvPair.d0 ∧ bank.drvPair.d0 < 51)
      ∧ (349 < bank.drvPair.d1 ∧ bank.drvPair.d1 ≤ 350) ∧ (⟨300, 300⟩ : DeratePair).d1 ≤ 300
      ∧ (256 : Nat) ≤ 256 ∧ derateNat 1500 256 = 1500 := by decide +kernel

/-- A droop at the set speed, the floor above it, and none with a BAD nE. -/
theorem test_meets_DeratingFactorAndCommand_droop :
    (∀ x ∈ [(2399, 1), (2400, 0), (2401, 0)],
        droop image (run.withDrive { run.drive with meas := measured 0 x.1 }) = some x.2)
      ∧ (viewEngine run).quality = .good ∧ (viewEngine brush).quality = .bad ∧ droop image brush = none := by
  decide +kernel

/-- An input that the drive period reads as GOOD. -/
def pedalled (f r : Bool) (pedal : Raw) : DriveInputs := ⟨f, r, pedal, 82, 4013⟩

theorem test_meets_DrivePeriodReadsItsInputs :
    run.start.image = some image ∧ driveMeasures run = true
      ∧ inSpan 82 = true ∧ inSpan 4013 = true ∧ inSpan 81 = false ∧ inSpan 4014 = false
      ∧ driveMeasures brush = false
      ∧ active .engineSensor run = false ∧ active .engineSensor (handOver .engineSensor true run) = true := by
  decide +kernel

theorem test_meets_DrivePeriodTrips :
    run.start.image = some image ∧ driveMeasures run = true ∧ run.drive.state ≠ .tripped
      ∧ inSpan 81 = false ∧ sticky .pedalInput (stuck run .pedalInput) = true
      ∧ sticky .speedSensor (stuck run .speedSensor) = true
      ∧ 0 < image.drive.faultRamp
      ∧ driveMeasures (station .silenced 7 .sweepDry) = true
      ∧ (station .silenced 7 .sweepDry).start.station = .silenced := by decide +kernel

/-- A running station, its drive in each state of the clauses, a GOOD pedal at and above the deadband of 300. -/
theorem test_meets_DrivePeriodTakesTheSelector :
    (run.start.image = some image ∧ populated .drv run = true ∧ run.start.station = .running
        ∧ inSpan 301 = true ∧ sticky .pedalInput run = false ∧ sticky .speedSensor run = false)
      ∧ (run.drive.state = .parked ∧ run.start.mode ≠ .service ∧ image.drive.pedalDeadband < 301
        ∧ 300 ≤ image.drive.pedalDeadband ∧ (station .running 7 .service).start.mode = .service)
      ∧ (driving run .forward (some .forward) none 100).drive.state = .forward
      ∧ (driving run .reverse (some .reverse) none (-100)).drive.state = .reverse
      ∧ (let s := moving (driving run .neutral (some .forward) none 0) 10
         s.drive.state = .neutral ∧ s.drive.lastDir = some .forward ∧ s.drive.lastDir ≠ some .reverse
          ∧ s.sp.drv.ramp.out = 0 ∧ s.drive.meas.v.natAbs ≤ image.drive.stopSpeed)
      ∧ (let s := moving (driving run .neutral (some .forward) none 0) 11
         s.drive.lastDir ≠ some .reverse ∧ ownTravelQuality s ≠ .bad ∧ image.drive.stopSpeed < s.drive.meas.v.natAbs)
      ∧ (let s := driving run .changing (some .forward) (some .reverse) 0
         s.drive.state = .changing ∧ s.drive.pendDir = some .reverse ∧ s.drive.pendDir ≠ some .forward
          ∧ s.drive.lastDir = some .forward)
      ∧ (let s := run.withDrive { run.drive with state := .tripped }
         s.drive.state = .tripped ∧ s.drive.brakeApplied = true) := by decide +kernel

/-- FORWARD shown in LISTENING and in SILENCED, and NEUTRAL under a TRIPPED drive whose brake is RELEASED. -/
theorem test_meets_DrivePeriodTakesTheSelector_outside :
    let ahead := fun st : StationState => driving (station st 7 .transport) .forward (some .forward) none 100
    let period := fun s : State => (after (.drvControlPeriod (pedalled true false 3000)) s).drive.state
    let tripped := driving run .tripped (some .forward) none 0
    (ahead .listening).start.image = some image ∧ populated .drv (ahead .listening) = true
      ∧ sticky .pedalInput (ahead .listening) = false ∧ sticky .speedSensor (ahead .listening) = false
      ∧ period (ahead .listening) = .neutral ∧ period (ahead .silenced) = .tripped
      ∧ driveMeasures tripped = true ∧ tripped.drive.state = .tripped ∧ tripped.drive.brakeApplied = false
      ∧ (after (.drvControlPeriod (pedalled false false 82)) tripped).drive.state = .tripped := by decide +kernel

theorem test_meets_DriveTargetStaysWithinItsCaps :
    run.drive.state ≠ .forward ∧ run.drive.state ≠ .reverse
      ∧ (driving run .forward (some .forward) none 100).drive.state = .forward
      ∧ (driving run .reverse (some .reverse) none 0).drive.state = .reverse
      ∧ (inSpan run.pins.drive.pedal = true ∧ image.drive.pedalDeadband < run.pins.drive.pedal.toNat)
      ∧ (station .running 7 .transport).start.mode = .transport
      ∧ armsDown (armed run .one .working false none) = true
      ∧ active .pressureInput (handOver .pressureInput true run) = true
      ∧ (0 : Raw).toNat ≤ image.drive.pedalDeadband := by decide +kernel

/-- A pressure on each side of Pc = 380 and of Pc less the hysteresis of 30; a speed error at each side of 8. -/
theorem test_meets_PumpCommandCutAndTrim :
    (image.drive.cutPressure < 381 ∧ 380 ≤ image.drive.cutPressure
        ∧ (image.drive.cutPressure : Int) - image.drive.cutHysteresis < 351
        ∧ (350 : Int) ≤ image.drive.cutPressure - image.drive.cutHysteresis)
      ∧ (-(image.drive.trimLimit : Int) ≤ 100 ∧ (100 : Int) ≤ image.drive.trimLimit
        ∧ (image.drive.trimDeadband : Int) < 9 ∧ (8 : Int) ≤ image.drive.trimDeadband
        ∧ (-9 : Int) < -(image.drive.trimDeadband : Int))
      ∧ (run.start.station = .running ∧ populated .drv run = true ∧ 0 ≤ run.drive.command ∧ run.drive.command ≤ 0
        ∧ populated .drv brush = false) := by decide +kernel

/-- Periods with a command above and at 400 or below, in FORWARD and beside it, and one that changes the state. -/
theorem test_meets_PumpCommandCutAndTrim_period :
    let ahead := after (.drvControlPeriod ⟨true, false, 3000, 600, 600⟩) (driving run .forward (some .forward) none 600)
    let standing := after (.drvControlPeriod (pedalled false false 82)) run
    let left := after (.drvControlPeriod (pedalled false false 82)) (driving run .forward (some .forward) none 600)
    run.start.image = some image ∧ driveMeasures run = true
      ∧ ahead.drive.state = .forward ∧ 400 < ahead.drive.command.natAbs
      ∧ standing.drive.state = run.drive.state ∧ standing.drive.command.natAbs ≤ 400
      ∧ left.drive.state = .neutral ∧ left.drive.trim = 0 := by decide +kernel

theorem test_meets_MeasurementsCountAndClose :
    (let s := run.withDrive { run.drive with meas := { run.drive.meas with bucketTimer := some 20 } }
     s.start.image = some image ∧ driveMeasures s = true ∧ s.drive.meas.bucketTimer = some 20)
      ∧ active .engineSensor (handOver .engineSensor true run) = true
      ∧ driveMeasures (handOver .engineSensor true run) = true
      ∧ driveMeasures brush = false := by decide +kernel

theorem test_meets_DriveTimersExpire :
    (parking.start.image = some image ∧ parking.drive.parkTimer = some 1000
        ∧ image.drive.parkDelay ≤ 1000 ∧ parking.drive.state = .neutral)
      ∧ (parking.withDrive { parking.drive with state := .tripped }).drive.parkTimer = some 1000
      ∧ (dwelling.drive.dwellTimer = some 500 ∧ image.drive.dwellTime ≤ 500
        ∧ dwelling.drive.state = .changing ∧ dwelling.drive.pendDir = some .reverse)
      ∧ (driveMeasures silent = true ∧ 500 ≤ silent.drive.speedSilence ∧ active .speedSensor silent = false
        ∧ sticky .speedSensor silent = false)
      ∧ (500 ≤ silent.drive.engineSilence ∧ active .engineSensor silent = false) := by decide +kernel

/-- A TRIPPED drive at rest under a park delay of 0 applies its brake in that period (log 11). -/
theorem test_meets_DriveTimersExpire_without_delay :
    let b := { image with drive := { image.drive with parkDelay := 0 } }
    let s := stuck (driving (moving run 0) .tripped (some .forward) none 0) .pedalInput
    let s := s.withStart { s.start with image := some b }
    let t := after (.drvControlPeriod ⟨false, false, 2000, 600, 600⟩) s
    s.start.image = some b ∧ driveMeasures s = true ∧ s.drive.brakeApplied = false ∧ s.drive.parkTimer = none
      ∧ b.drive.parkDelay = 0 ∧ t.drive.state = .tripped ∧ t.sp.drv.ramp.out = 0
      ∧ t.drive.brakeApplied = true ∧ t.drive.parkTimer = none := by decide +kernel

/-- A period of a drive that stands, one that rolls, and one still ramping, in NEUTRAL, CHANGING and TRIPPED. -/
theorem test_meets_DriveTimersExpire_periods :
    let idle : DriveInputs := ⟨false, false, 2000, 600, 600⟩
    let pick : DriveInputs := ⟨false, true, 2000, 600, 600⟩
    let neutral := driving (moving run 10) .neutral (some .forward) none 0
    let rolling := driving (moving run 11) .changing (some .forward) (some .reverse) 0
    let tripped := driving (moving run 0) .tripped (some .forward) none 300
    let held := stuck tripped .pedalInput
    (after (.drvControlPeriod idle) neutral).drive.parkTimer = some 0
      ∧ (after (.drvControlPeriod idle) neutral).drive.state = .neutral
      ∧ (after (.drvControlPeriod pick) (driving (moving run 10) .changing (some .forward) (some .reverse) 0)).drive.dwellTimer
          = some 0
      ∧ (after (.drvControlPeriod pick) rolling).drive.state = .changing
      ∧ (after (.drvControlPeriod pick) rolling).drive.dwellTimer = none
      ∧ (after (.drvControlPeriod idle) held).drive.state = .tripped
      ∧ (after (.drvControlPeriod idle) held).drive.brakeApplied = false
      ∧ (after (.drvControlPeriod idle) held).drive.parkTimer = none
      ∧ (after (.drvControlPeriod idle) (driving held .tripped (some .forward) none 20)).drive.parkTimer = some 0
      ∧ 0 < image.drive.parkDelay := by decide +kernel

theorem test_meets_BadPositionHoldsTheArm :
    brushing.start.image = some image ∧ populated (armChannel .one) brushing = true
      ∧ periodsRun brushing = true ∧ inSpan 81 = false ∧ (brushing.arm .one).state ≠ .held
      ∧ (armed brushing .one .held false none).arm1.state = .held
      ∧ (brushing.arm .one).state = .working ∧ ArmId.two ≠ ArmId.one
      ∧ populated (armChannel .one) driver = false ∧ periodsRun (station .failedStart 7 .transport) = false := by
  decide +kernel

/-- The travel speed is measured by the station itself: 150, and beyond each threshold. -/
theorem test_meets_ArmPeriodMoves :
    (run.start.image = some image ∧ populated (armChannel .one) run = true ∧ periodsRun run = true
        ∧ inSpan 900 = true ∧ (viewTravel run).quality ≠ .bad)
      ∧ ((armed run .one .lowering false (some 9)).arm1.state = .lowering
        ∧ (900 : Raw).toNat ≤ workPosition image .one ∧ workPosition image .one < (901 : Raw).toNat
        ∧ ¬((viewTravel (moving run (-20))).value < -(image.arms.reverseLift : Int)))
      ∧ (viewTravel (moving run (-21))).value < -(image.arms.reverseLift : Int)
      ∧ ((armed run .one .lifting true (some 9)).arm1.state = .lifting
        ∧ stowPosition image .one ≤ (3600 : Raw).toNat ∧ (3599 : Raw).toNat < stowPosition image .one)
      ∧ (let s := armed (moving run 30) .one .reverseLifted true none
         s.arm1.state = .reverseLifted ∧ (image.arms.resume : Int) ≤ (viewTravel s).value
          ∧ lowerAllowed image .one s = true)
      ∧ (viewTravel (moving run 29)).value < image.arms.resume
      ∧ run.arm1.state = .stowed ∧ (armed run .one .held false none).arm1.state = .held
      ∧ ((armed brush .one .lowering false none).arm1.state = .lowering
        ∧ (viewTravel brush).quality = .bad ∧ 0 < image.arms.blindTime)
      ∧ (armed run .one .working false none).arm1.state = .working := by decide +kernel

theorem test_meets_WorkingArmRunsBlind :
    (let s := armed brush .one .working false none
     s.start.image = some image ∧ populated (armChannel .one) s = true ∧ periodsRun s = true
      ∧ s.arm1.state = .working ∧ (viewTravel s).quality = .bad ∧ s.arm1.blindTimer = none)
      ∧ inSpan 900 = true ∧ 0 < image.arms.blindTime ∧ blind.arm1.blindTimer = some 3000
      ∧ ((brushing.arm .one).state = .working ∧ (viewTravel brushing).quality ≠ .bad
        ∧ -(image.arms.reverseLift : Int) ≤ (viewTravel (moving run (-20))).value) := by decide +kernel

/-- A LOWERING arm that reaches its threshold, with a GOOD travel speed and with a BAD one, and a blind time of 0 from
LOWERING and from WORKING (R84). -/
theorem test_meets_WorkingArmRunsBlind_arrival :
    let b := { image with arms := { image.arms with blindTime := 0 } }
    let arriving := armed brush .one .lowering false (some 9)
    let period := fun s : State => (after (.armControlPeriod .one 900) s).arm1
    let atOnce := fun s : State => s.withStart { s.start with image := some b }
    arriving.arm1.state = .lowering ∧ (900 : Raw).toNat ≤ workPosition image .one
      ∧ (viewTravel arriving).quality = .bad ∧ travelSource arriving ≠ .own
      ∧ (period (armed run .one .lowering false (some 9))).state = .working
      ∧ 0 < (period (armed run .one .lowering false (some 9))).command
      ∧ (period arriving).state = .working ∧ (period arriving).blindTimer = some 0
      ∧ (period (atOnce arriving)).state = .lifting
      ∧ (atOnce (armed brush .one .working false none)).arm1.blindTimer = none
      ∧ (period (atOnce (armed brush .one .working false none))).state = .lifting := by decide +kernel

theorem test_meets_ArmTimersExpire :
    (let s := armed run .one .lowering false (some 6000)
     s.start.image = some image ∧ (s.arm .one).moveTimer = some 6000 ∧ image.arms.moveTime ≤ 6000
      ∧ sticky (armFault .one) s = false)
      ∧ (blind.start.image = some image ∧ (blind.arm .one).blindTimer = some 3000
        ∧ image.arms.blindTime ≤ 3000 ∧ (blind.arm .one).state = .working ∧ travelSource blind ≠ .own)
      ∧ travelSource run = .own
      ∧ ((armed run .one .lowering false (some 6000)).arm .one).state ≠ .held
      ∧ populated (armChannel .one) blind = true := by decide +kernel

theorem test_meets_WaterPeriodReadsItsInputs :
    wet.start.image = some image ∧ populated .wtr wet = true ∧ periodsRun wet = true
      ∧ inSpan 82 = true ∧ inSpan 81 = false ∧ wet.start.station = .running
      ∧ priming.water.state.active = true ∧ wet.water.state = .off
      ∧ (wet.withWater { wet.water with state := .dryLocked }).water.state = .dryLocked
      ∧ (400 : Raw).toNat ≤ image.water.empty ∧ populated .wtr brush = false := by decide +kernel

/-- The seven conditions at the edge of the tank and speed thresholds, in each state; the eighth hypothesis fails at 49. -/
theorem test_meets_WaterPeriodMoves :
    (let s := moving priming 50
     s.start.image = some image ∧ populated .wtr s = true ∧ periodsRun s = true ∧ s.start.station = .running
      ∧ s.start.mode = .sweepWet ∧ s.water.enable = true ∧ brushWorking s = true
      ∧ (viewTravel s).quality ≠ .bad ∧ (image.water.sprayMin : Int) ≤ (viewTravel s).value
      ∧ image.water.empty < (401 : Raw).toNat ∧ s.water.state = .priming ∧ s.water.state.active = true)
      ∧ ((viewTravel (moving priming 49)).value < image.water.sprayMin)
      ∧ (image.water.primePressure ≤ (900 : Raw).toNat ∧ (899 : Raw).toNat < image.water.primePressure)
      ∧ (image.water.lossThreshold ≤ (600 : Raw).toNat ∧ (599 : Raw).toNat < image.water.lossThreshold)
      ∧ (priming.withWater wet.water).water.state = .off
      ∧ sticky .waterDry wet = false ∧ sticky .waterInput wet = false
      ∧ sticky .waterDry (stuck wet .waterDry) = true
      ∧ spraying.water.state = .spraying ∧ waiting.water.state = .dryWait
      ∧ (wet.withWater { wet.water with state := .dryLocked }).water.state = .dryLocked := by decide +kernel

theorem test_meets_WaterTimersExpire :
    (let s := priming.withWater { priming.water with primeTimer := some 4000 }
     s.start.image = some image ∧ s.water.state = .priming ∧ s.water.primeTimer = some 4000
      ∧ image.water.primeTime ≤ 4000 ∧ s.water.dryCount = 1 ∧ sticky .waterDry s = false)
      ∧ (spraying.start.image = some image ∧ spraying.water.state = .spraying
        ∧ spraying.water.lossTimer = some 1500 ∧ image.water.lossTime ≤ 1500 ∧ spraying.water.dryCount = 0)
      ∧ (waiting.start.image = some image ∧ waiting.water.state = .dryWait
        ∧ waiting.water.dryWaitTimer = some 10000 ∧ image.water.dryWaitTime ≤ 10000
        ∧ (waiting.start.station = .running ∧ waiting.start.mode = .sweepWet ∧ waiting.water.enable = true
          ∧ brushWorking waiting = true ∧ (viewTravel (moving waiting 50)).quality ≠ .bad
          ∧ (image.water.sprayMin : Int) ≤ (viewTravel (moving waiting 50)).value
          ∧ inSpan waiting.water.tank = true ∧ image.water.empty < waiting.water.tank.toNat)
        ∧ (viewTravel (moving waiting 49)).value < image.water.sprayMin)
      ∧ spraying.water.patternTimer = some 100 := by decide +kernel

/-- Entries in each state, met by sequence numbers that are the same, the next and another one. -/
theorem test_meets_ReportArrivalClasses :
    (hearing brush (report 7)).line.rx = [report 7] ∧ (report 7).cls = .report
      ∧ (1 : Nat) = (report 7).src.toNat ∧ parseReport (report 7).payload = some (7, { drvValues with pressure := 310 })
      ∧ brush.peers[1]?.join = none
      ∧ (knowing brush (entry .lost 0)).peers[1]?.join = some (entry .lost 0)
      ∧ (knowing brush (entry .fresh 0)).peers[1]?.join = some (entry .fresh 0)
      ∧ (7 : Byte) = (entry .fresh 0).lastSeq ∧ (8 : Byte) = (entry .fresh 0).lastSeq + 1
      ∧ ((9 : Byte) ≠ (entry .fresh 0).lastSeq ∧ (9 : Byte) ≠ (entry .fresh 0).lastSeq + 1)
      ∧ ({ report 7 with payload := [] } : Frame).payload.length ≠ 15
      ∧ ({ report 7 with src := 15 } : Frame).src = 15 := by decide +kernel

theorem test_meets_AlertsAndAgeingOfAnEntry :
    (let f : Frame := ⟨.alert, 1, 15, 2, []⟩
     (hearing (knowing brush (entry .fresh 0)) f).line.rx = [f] ∧ f.cls = .alert ∧ (1 : Nat) = f.src.toNat)
      ∧ (knowing brush (entry .fresh 100)).peers[1]?.join = some (entry .fresh 100)
      ∧ 20 * (entry .fresh 100).vals.period ≤ 100
      ∧ (knowing brush (entry .stale 250)).peers[1]?.join = some (entry .stale 250)
      ∧ (entry .stale 250).status ≠ .lost ∧ 50 * (entry .stale 250).vals.period ≤ 250 := by decide +kernel

/-- An accepted report and an expiry test the inherited causes in RUNNING, and in LISTENING neither does (R33). -/
theorem test_meets_InheritedTested :
    let lost := after (.lostExpiry 1) (knowing brush (entry .stale 250))
    let quiet := after (.lostExpiry 1) (knowing (station .listening 2 .sweepDry) (entry .stale 250))
    let back := after .reportArrival (hearing lost (report 7))
    active .travelLost lost = true ∧ active .engineLost lost = true ∧ sticky .travelLost lost = true
      ∧ quiet.faults = brush.faults
      ∧ active .travelLost back = false ∧ sticky .travelLost back = true := by decide +kernel

theorem test_meets_ViewTakesTheSourceQuality :
    (∀ st ∈ [EntryState.fresh, .stale, .lost], travelSource (knowing brush (entry st 0)) = .peer 1)
      ∧ (let e := { entry .fresh 0 with lastAlert := some .speedSensor }
         travelSource (knowing brush e) = .peer 1 ∧ e.lastAlert = some .speedSensor)
      ∧ populated .drv run = true ∧ populated .drv brush = false ∧ travelSource brush = .none
      ∧ viewDirection (knowing brush (entry .stale 0)) = ⟨some .forward, .held⟩
      ∧ viewPressure (knowing brush (entry .stale 0)) = ⟨311, .held⟩
      ∧ driveConflict (knowing run (entry .lost 0)) = true := by decide +kernel

theorem test_meets_SetModeToSweepOrService :
    Takes kindSetMode (request 1 [2]) [] (hearing run (request 1 [2]))
      ∧ modeArg (requestOf (request 1 [2])).args = some .sweepWet
      ∧ modeArg (requestOf (request 1 [1])).args = some .sweepDry
      ∧ modeArg (requestOf (request 1 [3])).args = some .service
      ∧ run.start.station = .running ∧ run.start.image = some image
      ∧ run.drive.state = .parked ∧ image.drive.stopSpeed < (viewTravel run).value.natAbs
      ∧ (viewTravel (moving run (-10))).value.natAbs ≤ image.drive.stopSpeed
      ∧ Takes kindSetMode (request 1 [2]) []
          (holding (hearing run (request 1 [2])) ⟨8, 1, .setTransport, ⟨true, true, true⟩, .running, 0, 0⟩) := by
  decide +kernel

/-- An argument that names no mode, and a SERVICE met by the RUNNING ARM_MOVE WORK of station 8. -/
theorem test_meets_SetModeToSweepOrService_more :
    Takes kindSetMode (request 1 [4]) [] (hearing run (request 1 [4]))
      ∧ (∀ m ∈ [Mode.transport, .sweepDry, .sweepWet, .service], (requestOf (request 1 [4])).args ≠ [BitVec.ofNat 8 m.code])
      ∧ (let e : PendingEntry := ⟨8, 1, .armMove .one .work, ⟨false, true, false⟩, .running, 0, 0⟩
         let s := holding (hearing (moving (armed run .one .lifting true none) 10) (request 1 [3])) e
         Takes kindSetMode (request 1 [3]) [] s ∧ e ∈ s.req.table ∧ e.requester ≠ (request 1 [3]).src
          ∧ s.start.mode ≠ .service ∧ populated (armChannel .one) s = true ∧ s.arm1.state = .lifting
          ∧ s.drive.state = .parked ∧ (viewTravel s).quality ≠ .bad
          ∧ (viewTravel s).value.natAbs ≤ image.drive.stopSpeed
          ∧ s.req.table.any (fun e => e.state = .running && e.requester ≠ 12 && e.claims.stationMode) = false) := by
  decide +kernel

/-- A SERVICE under a running TRANSPORT and a running ARM_MOVE of its requester: the first is superseded, the second
ends with the lift of its arm, and a sweep mode leaves the second. -/
theorem test_meets_SetModeToSweepOrService_superseded :
    let own : PendingEntry := ⟨12, 1, .setTransport, ⟨true, false, false⟩, .running, 0, 9⟩
    let move : PendingEntry := ⟨12, 2, .armMove .one .work, ⟨false, true, false⟩, .running, 0, 9⟩
    let s := fun m : Byte => hearing ((moving (armed run .one .working false none) 10).withReq
      { run.req with table := [own, move] }) (request 1 [m])
    Takes kindSetMode (request 1 [3]) [] (s 3) ∧ (s 3).req.table[0]? = some own ∧ own.claims.stationMode = true
      ∧ (s 3).req.table[1]? = some move ∧ move.op ≠ .setTransport ∧ (s 3).start.mode ≠ .service
      ∧ (after .setMode (s 3)).req.table.map (fun e => (e.state, e.value)) = [(.superseded, 0), (.failed, 3)]
      ∧ (after .setMode (s 2)).req.table.map (fun e => (e.state, e.value)) = [(.superseded, 0), (.running, 0)] := by
  decide +kernel

/-- Arms in each state, on a table with room and no other requester. -/
theorem test_meets_SetModeTransportStowsTheArms :
    Takes kindSetMode (request 1 [0]) [] (hearing run (request 1 [0]))
      ∧ modeArg (requestOf (request 1 [0])).args = some .transport ∧ run.start.station = .running
      ∧ run.req.table.length < 4
      ∧ (∀ n, populated (armChannel n) run = true) ∧ run.arm1.state = .stowed
      ∧ (∀ n, populated (armChannel n) (station .running 1 .sweepDry) = false)
      ∧ (let s := armed (armed run .one .working false none) .two .held false none
         s.arm1.state = .working ∧ sticky (armFault .two) s = false
          ∧ sticky (armFault .two) (stuck s .arm2Fault) = true) := by
  refine ⟨?_, ?_, ?_, ?_, fun n => ?_, ?_, fun n => ?_, ?_⟩ <;> (try cases n) <;> decide +kernel

/-- The table of station 8 with the claim on ARM1 RUNNING, and a full table of finished entries, an arm WORKING. -/
theorem test_meets_SetModeTransportStowsTheArms_refused :
    let e : PendingEntry := ⟨8, 1, .armMove .one .work, ⟨false, true, false⟩, .running, 0, 0⟩
    let done : PendingEntry := ⟨8, 1, .armMove .one .work, ⟨false, false, false⟩, .done, 0, 0⟩
    let s := hearing (armed run .one .working false none) (request 1 [0])
    let full := s.withReq { s.req with table := [done, { done with tag := 2 }, { done with tag := 3 }, { done with tag := 4 }] }
    Takes kindSetMode (request 1 [0]) [] (holding s e) ∧ e.claims.overlap ⟨true, true, true⟩ = true
      ∧ e.requester ≠ (request 1 [0]).src
      ∧ Takes kindSetMode (request 1 [0]) [] full ∧ 4 ≤ full.req.table.length
      ∧ (∀ x ∈ full.req.table, x.state ≠ .running) ∧ full.arm1.state = .working ∧ full.arm2.state ≠ .held
      ∧ lastAnswer (after .setMode (holding s e)) = some (.conflict, 1)
      ∧ lastAnswer (after .setMode full) = some (.busy, 1) := by decide +kernel

/-- A TRANSPORT under another mode and under TRANSPORT, over a running ARM_MOVE of its own requester. -/
theorem test_meets_SetModeTransportStowsTheArms_superseded :
    let move : PendingEntry := ⟨12, 2, .armMove .one .work, ⟨false, true, false⟩, .running, 0, 9⟩
    let s := holding (hearing (armed run .one .working false none) (request 1 [0])) move
    let t := after .setMode s
    Takes kindSetMode (request 1 [0]) [] s ∧ s.start.mode ≠ .transport
      ∧ (station .running 7 .transport).start.mode = .transport
      ∧ t.req.table.map (fun e => (e.state, e.value)) = [(.superseded, 2), (.running, 0)]
      ∧ t.sp.br1.ramp.setUp = false ∧ t.line.reportDue = true ∧ t.water.enable = false := by decide +kernel

/-- An ARM_MOVE STOW over a running ARM_MOVE WORK of its own requester. -/
theorem test_meets_ArmMoveMovesTheArm_superseded :
    let move : PendingEntry := ⟨12, 2, .armMove .one .work, ⟨false, true, false⟩, .running, 0, 9⟩
    let s := holding (hearing (armed run .one .lowering false (some 9)) (request 2 [1, 0])) move
    Takes kindArmMove (request 2 [1, 0]) [] s
      ∧ (after .armMove s).req.table.map (fun e => (e.state, e.value, e.claims.arm1))
        = [(.superseded, 1, false), (.running, 0, true)] := by decide +kernel

/-- An ARM_MOVE in each clause: both targets, an unnamed target, a full table, another requester's claim. -/
theorem test_meets_ArmMoveMovesTheArm :
    let other : PendingEntry := ⟨8, 1, .armMove .one .work, ⟨false, true, false⟩, .running, 0, 0⟩
    let idle : PendingEntry := ⟨8, 1, .armMove .one .work, ⟨false, false, false⟩, .done, 0, 0⟩
    let full := (hearing run (request 2 [1, 1])).withReq
      { run.req with table := [idle, { idle with tag := 2 }, { idle with tag := 3 }, { idle with tag := 4 }] }
    Takes kindArmMove (request 2 [1, 1]) [] (hearing run (request 2 [1, 1]))
      ∧ Takes kindArmMove (request 2 [1, 1]) [] full ∧ full.req.table.length ≥ 4
      ∧ Takes kindArmMove (request 2 [1, 1]) [] (holding (hearing run (request 2 [1, 1])) other)
      ∧ armArg (requestOf (request 2 [1, 1])).args = some .one
      ∧ targetArg (requestOf (request 2 [1, 1])).args = some .work
      ∧ targetArg (requestOf (request 2 [1, 0])).args = some .stow
      ∧ targetArg (requestOf (request 2 [1, 2])).args = none
      ∧ (Takes kindArmMove (request 2 [3, 1]) [] (hearing run (request 2 [3, 1]))
        ∧ armArg (requestOf (request 2 [3, 1])).args = none)
      ∧ populated (armChannel .one) run = true ∧ run.start.image = some image
      ∧ lowerAllowed image .one run = true ∧ lowerAllowed image .one (moving run 401) = false
      ∧ lowerAllowed image .one (moving run 400) = true
      ∧ (armed run .one .reverseLifted true none).arm1.state = .reverseLifted
      ∧ (let s := stuck (armed run .one .held false none) .arm1Fault
         s.arm1.state = .held ∧ sticky (armFault .one) s = true) := by decide +kernel

theorem test_meets_WaterSetWritesTheFlag :
    Takes kindWaterSet (request 3 [0]) [] (hearing priming (request 3 [0]))
      ∧ (requestOf (request 3 [0])).args = [0] ∧ (requestOf (request 3 [1])).args = [1]
      ∧ (∀ args ∈ [[], [2], [1, 0]], Takes kindWaterSet (request 3 args) [] (hearing priming (request 3 args))
        ∧ (requestOf (request 3 args)).args ≠ [0] ∧ (requestOf (request 3 args)).args ≠ [1])
      ∧ populated .wtr priming = true ∧ priming.start.station = .running ∧ priming.start.mode = .sweepWet
      ∧ priming.water.state.active = true ∧ wet.water.state.active = false ∧ run.start.mode ≠ .sweepWet := by
  decide +kernel

theorem test_meets_TrimSetExchangesTheTrim :
    Takes kindTrimSet (request 4 [2, 0x0F, 0xFF]) [] (hearing run (request 4 [2, 0x0F, 0xFF]))
      ∧ (requestOf (request 4 [2, 0x0F, 0xFF])).args = [2, 0x0F, 0xFF]
      ∧ 4095 = 256 * (0x0F : Byte).toNat + (0xFF : Byte).toNat
      ∧ 4095 < 256 * (0x10 : Byte).toNat + (0 : Byte).toNat
      ∧ (∀ args ∈ [[1, 0x10, 0], [3, 0, 0], [1, 0]], Takes kindTrimSet (request 4 args) [] (hearing run (request 4 args))
        ∧ lastAnswer (after .trimSet (hearing run (request 4 args))) = some (.refused, 0))
      ∧ populated (brushChannel .two) run = true ∧ run.start.station = .running := by decide +kernel

theorem test_meets_FaultClearRemovesPassedCauses :
    (let s := hearing (stuck wet .waterDry) (request 5 [0, 0x80])
     Takes kindFaultClear (request 5 [0, 0x80]) [] s
      ∧ (requestOf (request 5 [0, 0x80])).args = [0, 0x80] ∧ s.start.station = .running
      ∧ (0x80#16).toNat = 256 * (0 : Byte).toNat + (0x80 : Byte).toNat
      ∧ (∀ args ∈ [[], [0x80], [0, 0x80, 0]], Takes kindFaultClear (request 5 args) [] (hearing run (request 5 args))
        ∧ (requestOf (request 5 args)).args.length ≠ 2)
      ∧ hasKind 0x80#16 .waterDry = true ∧ hasKind 0x40#16 .waterDry = false
      ∧ sticky .waterDry (after .faultClear s) = false)
      ∧ sticky .waterDry (after .faultClear (hearing (handOver .waterDry true wet) (request 5 [0, 0x80]))) = true
      ∧ (wet.withWater { wet.water with state := .dryLocked }).water.state = .dryLocked := by decide +kernel

/-- Items at the ends of their ranges, with the due flag and the report on the line each way. -/
theorem test_meets_QueryAnswersItsItem :
    Takes kindQuery (request 6 [0]) [] (hearing run (request 6 [0]))
      ∧ (∀ item ∈ [(0 : Byte), 30, 32, 46], (requestOf (request 6 [item])).args = [item]
        ∧ lastAnswer (after .query (hearing run (request 6 [item]))) = some (.done, itemValue item.toNat run))
      ∧ (∀ args ∈ [[31], [47], [], [0, 0]], Takes kindQuery (request 6 args) [] (hearing run (request 6 args))
        ∧ lastAnswer (after .query (hearing run (request 6 args))) = some (.refused, 0))
      ∧ run.line.onLine.map Sending.owner ≠ some .report
      ∧ (sending .report).line.onLine.map Sending.owner = some .report ∧ run.line.reportDue = false
      ∧ (makeDue run).line.reportDue = true := by decide +kernel

theorem test_meets_QueryItemLayout :
    countersHeld run.line.counters ∧ run.start.station ≠ .failedStart
      ∧ (station .failedStart 7 .transport).start.station = .failedStart
      ∧ (0 ≤ run.sp.drv.ramp.out ∧ run.sp.drv.ramp.out ≤ 1500)
      ∧ (let s := driving run .reverse (some .reverse) none (-1500)
         (-1500 : Int) ≤ s.sp.drv.ramp.out ∧ s.sp.drv.ramp.out < 0)
      ∧ run.water.dryCount ≤ 2
      ∧ (knowing brush (entry .lost 0)).peers[1]?.join = some (entry .lost 0) := by
  unfold countersHeld; decide +kernel

theorem test_meets_RestartByStationState :
    (∀ st ∈ [StationState.running, .listening, .silenced, .failedStart],
        Takes kindRestart (request 7 []) [] (hearing (station st 7 .sweepDry) (request 7 []))
          ∧ (station st 7 .sweepDry).start.station = st)
      ∧ (requestOf (request 7 [])).args = [] ∧ run.start.mode ≠ .service
      ∧ Takes kindRestart (request 7 []) [] (hearing (station .running 7 .service) (request 7 []))
      ∧ populated .drv run = true ∧ populated .wtr run = true ∧ populated (armChannel .two) run = true := by
  decide +kernel

/-- A RESTART over a full answer queue, which needs no place in it in SILENCED and FAILED_START, and one with an argument. -/
theorem test_meets_RestartByStationState_full :
    let a : Answer := ⟨12, 5, 2, .done, 2, none, false⟩
    let full := fun st => let s := hearing (station st 7 .sweepDry) (request 7 [])
      s.withLine { s.line with answers := [a, a, a, a] }
    (∀ st ∈ [StationState.silenced, .failedStart], Reaches kindRestart (request 7 []) [] (full st)
        ∧ findEntry 12 (requestOf (request 7 [])).tag (full st) = none ∧ 4 ≤ (full st).line.answers.length)
      ∧ (after (.restart ⟨9, 1⟩) (full .silenced)).start.station = .listening
      ∧ (after (.restart ⟨9, 1⟩) (full .failedStart)).start.station = .loading
      ∧ Reaches kindRestart (request 7 [0]) [] (hearing run (request 7 [0])) ∧ (requestOf (request 7 [0])).args ≠ []
      ∧ run.line.answers.length < 4 := by decide +kernel

theorem test_meets_UnsupportedRequestsAreUnknown_kinds :
    Takes 0 (request 0 []) [] (hearing run (request 0 []))
      ∧ Takes 8 (request 8 []) [] (hearing run (request 8 []))
      ∧ Takes 15 (request 15 []) [] (hearing run (request 15 []))
      ∧ (0 : Nibble).toNat = 0 ∧ 8 ≤ (8 : Nibble).toNat ∧ 8 ≤ (15 : Nibble).toNat := by decide +kernel

theorem test_meets_UnsupportedRequestsAreUnknown_channels :
    let s := station .listening 1 .sweepDry
    Takes kindArmMove (request 2 [1, 1]) [] (hearing s (request 2 [1, 1]))
      ∧ armArg (requestOf (request 2 [1, 1])).args = some .one ∧ populated (armChannel .one) s = false
      ∧ Takes kindWaterSet (request 3 [1]) [] (hearing s (request 3 [1])) ∧ populated .wtr s = false
      ∧ Takes kindTrimSet (request 4 [2, 0, 0]) [] (hearing s (request 4 [2, 0, 0]))
      ∧ brushArg (requestOf (request 4 [2, 0, 0])).args = some .two
      ∧ populated (brushChannel .two) s = false := by decide +kernel

theorem test_meets_RequestsOutsideRunningAreRefused :
    let s := station .listening 7 .transport
    s.start.station ≠ .running ∧ Takes kindSetMode (request 1 [1]) [] (hearing s (request 1 [1]))
      ∧ Takes kindArmMove (request 2 [1, 1]) [] (hearing s (request 2 [1, 1]))
      ∧ populated (armChannel .one) s = true
      ∧ Takes kindArmMove (request 2 [3, 1]) [] (hearing s (request 2 [3, 1]))
      ∧ armArg (requestOf (request 2 [3, 1])).args = none
      ∧ Takes kindWaterSet (request 3 [1]) [] (hearing s (request 3 [1])) ∧ populated .wtr s = true
      ∧ Takes kindTrimSet (request 4 [1, 0, 0]) [] (hearing s (request 4 [1, 0, 0]))
      ∧ Takes kindFaultClear (request 5 [0, 0]) [] (hearing s (request 5 [0, 0])) := by decide +kernel

/-- A repeat of tag 5 of station 12 met by its entry in each state, and by an answer queue that is full. -/
theorem test_meets_PendingEntriesAnswerAndExpire :
    (∀ st ∈ [PendingState.running, .done, .failed, .superseded],
        findEntry 12 (requestOf (request 2 [1, 1])).tag (holding run (pending st 500)) = some (pending st 500)
          ∧ (pending st 500).op = .armMove .one .work)
      ∧ (request 2 [1, 1]).cls = .request ∧ (request 2 [1, 1]).kind = kindArmMove
      ∧ armArg (requestOf (request 2 [1, 1])).args = some .one
      ∧ targetArg (requestOf (request 2 [1, 1])).args = some .work
      ∧ targetArg (requestOf (request 2 [1, 0])).args ≠ some .work
      ∧ (let a : Answer := ⟨12, 5, 2, .done, 2, none, false⟩
         (run.withLine { run.line with answers := [a, a, a, a] }).line.answers.length ≥ 4)
      ∧ run.start.image = some image ∧ image.line.discardTime ≤ 500 := by decide +kernel

/-- The entry of a SET_MODE TRANSPORT under tag 5 of station 12, met by its repeat and by a request of each kind. -/
theorem test_meets_PendingEntriesAnswerAndExpire_kinds :
    let e : PendingEntry := ⟨12, 5, .setTransport, ⟨true, true, true⟩, .running, 0, 9⟩
    let meets := fun (f : Frame) => decide ((hearing (holding run e) f).line.rx = [f] ∧ f.cls = .request ∧ f.dst ≠ 15
      ∧ f.src ≠ 15 ∧ f.payload ≠ [] ∧ findEntry f.src (requestOf f).tag (hearing (holding run e) f) = some e)
    meets (request 1 [0]) = true ∧ (requestOf (request 1 [0])).args = [0] ∧ meets (request 1 [1]) = true
      ∧ meets (request 2 [1, 1]) = true ∧ meets (request 3 [1]) = true ∧ meets (request 4 [1, 0, 0]) = true
      ∧ meets (request 5 [0, 0]) = true ∧ meets (request 6 [8]) = true ∧ meets (request 7 []) = true
      ∧ meets (request 0 []) = true ∧ meets (request 15 []) = true
      ∧ findEntry 12 (requestOf (request 1 [0])).tag (holding run (pending .running 0)) = some (pending .running 0)
      ∧ (pending .running 0).op ≠ .setTransport := by decide +kernel

/-- A frame to 15, one from 15 and one without a tag byte; and a request of each kind over a full answer queue. -/
theorem test_meets_PendingEntriesAnswerAndExpire_discards :
    let a : Answer := ⟨12, 5, 2, .done, 2, none, false⟩
    let full := fun f : Frame => run.withLine { run.line with rx := [f], answers := [a, a, a, a] }
    (∀ x ∈ [(Instr.setMode, (1 : Nibble)), (.armMove, 2), (.waterSet, 3), (.trimSet, 4), (.faultClear, 5), (.query, 6),
        (.restart ⟨9, 1⟩, 7), (.unknownRequestKind, 0), (.unknownRequestKind, 8), (.unknownRequestKind, 15)],
        (request x.2 []).dst ≠ 15 ∧ (request x.2 []).src ≠ 15 ∧ (request x.2 []).payload ≠ []
          ∧ after x.1 (full (request x.2 [])) = (full (request x.2 [])).withLine { run.line with
            answers := [a, a, a, a], counters := { run.line.counters with missedFrames := 1 } }
          ∧ (∀ f ∈ [{ request x.2 [] with dst := 15 }, { request x.2 [] with src := 15 },
              { request x.2 [] with payload := [] }], after x.1 (hearing run f) = run))
      ∧ (hearing run (request 2 [1, 1])).line.rx = [request 2 [1, 1]]
      ∧ (station .silenced 7 .sweepDry).start.station = .silenced := by decide +kernel

/-- A switch with a raw level that differs or returns, and an edge with its slot used, unused, and a full table. -/
theorem test_meets_SwitchesSettleAndMakeRequests :
    periodsRun run = true ∧ periodsRun (station .failedStart 7 .transport) = false
      ∧ run.req.switches[0] = ⟨false, false, none⟩
      ∧ (let s := switched run ⟨true, false, some 20⟩
         s.start.image = some image ∧ (s.req.switches[0]).settle = some 20
          ∧ (s.req.outgoing.map OutgoingEntry.tag).Nodup ∧ s.start.station = .running
          ∧ image.switchMap.getD 0 none = some ⟨5, 2, [1, 1, 0, 0]⟩ ∧ image.switchMap.getD 1 none = none
          ∧ image.switchMap.getD 2 none = none ∧ image.switchMap.getD 3 none = none)
      ∧ (let e : OutgoingEntry := ⟨1, true, 5, 2, [], 0, 3, .queued, none⟩
         let table := [e, { e with tag := 1 }, { e with tag := 2 }, { e with tag := 3 }]
         4 ≤ (table.filter (fun x => !(x.switch = 0 && x.dest = 5))).length
          ∧ (table.map OutgoingEntry.tag).Nodup)
      ∧ (station .silenced 7 .sweepDry).start.station ≠ .running := by decide +kernel

/-- An edge whose slot 1 alone is used, one with both used, and what is left of a table at each length they meet. -/
theorem test_meets_SwitchesSettleAndMakeRequests_slots :
    let x : SwitchSlot := ⟨5, 2, [1, 1, 0, 0]⟩
    let one := { image with switchMap := none :: some x :: List.replicate 30 none }
    let both := { image with switchMap := some x :: some { x with dest := 6 } :: List.replicate 30 none }
    let s := fun b : StartBlock => (switched run ⟨true, false, some 20⟩).withStart { run.start with image := some b }
    let e : OutgoingEntry := ⟨1, true, 5, 2, [], 0, 3, .queued, none⟩
    let mine : OutgoingEntry := { e with switch := 0, dest := 6, tag := 3 }
    let kept := fun (d : Nibble) (l : List OutgoingEntry) => l.filter (fun x => !(x.switch = 0 && x.dest = d))
    let full := [e, { e with tag := 1 }, { e with tag := 2 }, mine]
    (s one).start.image = some one ∧ one.switchMap.getD 0 none = none ∧ one.switchMap.getD 1 none = some x
      ∧ (s both).start.image = some both ∧ both.switchMap.getD 0 none = some x
      ∧ both.switchMap.getD 1 none = some { x with dest := 6 } ∧ ((s both).req.switches[0]).settle = some 20
      ∧ (s both).req.outgoing = [] ∧ (full.map OutgoingEntry.tag).Nodup
      ∧ 4 ≤ (kept 5 full).length ∧ (kept 6 (kept 5 full)).length < 4
      ∧ (kept 5 full.dropLast).length < 4 ∧ 3 ≤ (kept 6 (kept 5 full.dropLast)).length
      ∧ 4 ≤ (kept 6 (kept 5 [e, { e with tag := 1 }, { e with tag := 2 }, { e with tag := 3 }])).length := by
  decide +kernel

/-- Edges of a switch with both slots used, to 5 and to 6. The counter stands at a tag that is held and the next one is held
too; a removed entry's frame leaves the queue and another one stays; and the REQUEST_LOST of each slot leaves a queue too
(R133, R134). -/
theorem test_meets_SwitchesSettleAndMakeRequests_queue :
    let x : SwitchSlot := ⟨5, 2, [1, 1, 0, 0]⟩
    let both := { image with switchMap := some x :: some { x with dest := 6 } :: List.replicate 30 none }
    let e : OutgoingEntry := ⟨1, true, 5, 2, [], 15, 3, .queued, none⟩
    let mine : OutgoingEntry := { e with switch := 0, tag := 2 }
    let q := fun tag : Nibble => (⟨5, tag, 2, []⟩ : QueuedRequest)
    let edge := fun (l : List OutgoingEntry) => switchEdge both 0 true ((run.withReq
      { run.req with outgoing := l, nextTag := 15 }).withLine { run.line with requests := l.map (fun e => q e.tag) })
    let shape := fun s : State => (s.req.outgoing.map OutgoingEntry.tag, s.line.requests.map QueuedRequest.tag, s.req.nextTag,
      sticky .requestLost s)
    shape (edge [e, { e with tag := 0 }, mine]) = ([15, 0, 1, 2], [15, 0, 1, 2], 3, false)
      ∧ shape (edge [e, { e with tag := 0 }, { e with tag := 1 }, mine]) = ([15, 0, 1, 2], [15, 0, 1, 2], 3, true)
      ∧ shape (edge [e, { e with tag := 0 }, { e with tag := 1 }, { mine with dest := 6 }])
        = ([15, 0, 1, 2], [15, 0, 1, 2], 3, true)
      ∧ shape (edge [e, { e with tag := 0 }, { e with tag := 1 }, { e with tag := 2 }])
        = ([15, 0, 1, 2], [15, 0, 1, 2], 15, true) := by decide +kernel

theorem test_meets_AnswersActOnTheirEntry :
    (∀ code ∈ [(0 : Byte), 1, 2, 3, 4, 9],
        (hearing (outgoing .awaiting 2 (some 7)) (answer code)).line.rx = [answer code]
          ∧ (answer code).cls = .answer ∧ (answer code).dst ≠ 15 ∧ (answer code).payload.length = 4
          ∧ (answer code).src = 5 ∧ (answer code).kind = 2 ∧ ((answer code).payload.getD 0 0).toNat % 16 = 0)
      ∧ ((outgoing .awaiting 2 (some 7)).req.outgoing.map OutgoingEntry.tag).Nodup
      ∧ (∀ e ∈ (outgoing .awaiting 2 (some 7)).req.outgoing, e.dest = 5 ∧ e.kind = 2 ∧ e.tag = 0)
      ∧ run.req.outgoing = []
      ∧ ({ answer 0 with payload := [0xA0, 0, 0] } : Frame).payload.length ≠ 4
      ∧ ({ answer 0 with dst := 15 } : Frame).dst = 15 := by decide +kernel

theorem test_meets_RepeatTimersRequeueOrGiveUp :
    (∀ repeats ∈ [1, 2], ∀ st ∈ [OutgoingState.awaiting, .backingOff],
        let s := outgoing st repeats (some 100)
        s.start.image = some image ∧ (∀ e ∈ s.req.outgoing, e.tag = 0 ∧ e.timer = some 100) ∧ s.req.outgoing ≠ []
          ∧ (s.req.outgoing.map OutgoingEntry.tag).Nodup)
      ∧ image.line.repeatInterval ≤ 100 := by decide +kernel

theorem test_meets_FrameArrivalSortsTheFrame :
    parseFrame (frameBits (request 6 [8])) = some (request 6 [8]) ∧ parseFrame [] = none
      ∧ (request 6 [8]).src ≠ run.start.number ∧ (request 6 [8]).dst = run.start.number
      ∧ ({ request 6 [8] with dst := 4 } : Frame).dst ≠ run.start.number
      ∧ (report 0).dst = 15
      ∧ run.line.onLine = none ∧ run.line.rx.length < 4 ∧ (sending .answer).line.onLine.isSome = true
      ∧ 4 ≤ (run.withLine { run.line with rx := List.replicate 4 (report 0) }).line.rx.length
      ∧ ({ request 6 [8] with src := 3 } : Frame).src = run.start.number
      ∧ loading.start.station = .loading ∧ run.start.station = .running
      ∧ (station .silenced 7 .sweepDry).start.station ≠ .listening := by decide +kernel

/-- The entry to SILENCED: a moving arm ends an ARM_MOVE WORK, a STOW and a TRANSPORT, an arm that is REVERSE_LIFTED ends a
WORK and finishes a TRANSPORT, and one that stands leaves its entries (R78, R111, R174). -/
theorem test_meets_FrameArrivalSortsTheFrame_silenced :
    let own := frameBits { request 6 [8] with src := 3 }
    let move := fun (t : Target) (n : ArmId) => (⟨12, 2, .armMove n t, match n with
      | .one => ⟨false, true, false⟩
      | .two => ⟨false, false, true⟩, .running, 0, 9⟩ : PendingEntry)
    let demand : PendingEntry := ⟨12, 5, .setTransport, ⟨true, true, true⟩, .running, 0, 9⟩
    let ends := fun (s : State) (l : List PendingEntry) =>
      (after (.frameArrival own) (s.withReq { s.req with table := l })).req.table.map (fun e => (e.state, e.value))
    parseFrame own = some { request 6 [8] with src := 3 }
      ∧ ends (armed (armed run .one .working false none) .two .reverseLifted true none) [move .work .one, move .work .two]
        = [(.failed, 5), (.failed, 0)]
      ∧ ends (armed run .one .lifting false (some 9)) [move .stow .one, move .stow .two] = [(.failed, 5), (.running, 0)]
      ∧ ends (armed run .one .lifting false (some 9)) [demand] = [(.failed, 0)]
      ∧ ends (armed run .two .reverseLifted true none) [demand] = [(.done, 0)] ∧ ends run [demand] = [(.running, 0)]
      ∧ demand.claims = ⟨true, populated .arm1 run, populated .arm2 run⟩ := by decide +kernel

theorem test_meets_BabbleGuardCutsTheTransmitter :
    (∀ o ∈ [Owner.alert .arm1Fault, .answer, .report, .request 0],
        (sending o).line.onLine = some ⟨o, report 0⟩ ∧ (sending o).line.guardArmed = true
          ∧ 2 ≤ (sending o).line.guardTime)
      ∧ (∀ st ∈ [StationState.listening, .running, .failedStart, .silenced],
        (station st 7 .sweepDry).start.station = st) := by decide +kernel

/-- A report cut off with an answer held for the number after it, in RUNNING, SILENCED and LOADING; and LINE_FAULT sticky
before the cut, which leaves the ALERT slot (R146, R163). -/
theorem test_meets_BabbleGuardCutsTheTransmitter_marks :
    let held : Answer := ⟨12, 5, 2, .done, 2, some 1, false⟩
    let s := fun st : StationState => ((sending .report).withLine { (sending .report).line with answers := [held] }).withStart
      { run.start with station := st }
    let marks := fun st : StationState => (after .babbleGuardCutoff (s st)).line.answers.map Answer.mark
    (s .running).line.seq = 0 ∧ held.mark = some ((s .running).line.seq + 1)
      ∧ marks .running = [some 0] ∧ marks .silenced = [some 0] ∧ marks .loading = [some 0]
      ∧ (after .babbleGuardCutoff (sending (.request 0))).line.answers = (sending (.request 0)).line.answers
      ∧ (after .babbleGuardCutoff (sending .report)).line.alertSlot = some .lineFault
      ∧ (after .babbleGuardCutoff
          (sending .report |>.withFaults { run.faults with sticky := FaultKind.bit .lineFault })).line.alertSlot = none := by
  decide +kernel

theorem test_meets_ArbiterOffersInOrder :
    run.line.onLine = none ∧ run.start.station = .running
      ∧ (run.line.alertSlot = none ∧ run.line.answers = [] ∧ run.line.requests = []
        ∧ run.line.reportDue = false)
      ∧ (stuck run .arm1Fault).line.alertSlot = some .arm1Fault
      ∧ (makeDue run).line.reportDue = true ∧ (makeDue run).line.alertSlot = none
      ∧ asked.line.requests = [⟨5, 0, 2, [1, 1]⟩] ∧ asked.line.reportDue = false
      ∧ asked.line.onLine = none ∧ asked.start.station = .running
      ∧ (station .silenced 7 .sweepDry).start.station = .silenced
      ∧ ((station .failedStart 7 .transport).start.station = .failedStart
        ∧ (station .failedStart 7 .transport).line.heldOff = false) := by decide +kernel

/-- Priority words 9, 21, 44 and 50 of the idles of 8.2; an offer that wins and one that loses. -/
theorem test_meets_ContestsGoToTheLowerWord :
    (classCode FrameClass.alert).toNat * 16 + 9 < (classCode FrameClass.answer).toNat * 16 + 5
      ∧ (classCode FrameClass.request).toNat * 16 + 12 < (classCode FrameClass.report).toNat * 16 + 2
      ∧ (makeDue run).line.onLine = none ∧ run.line.onLine = none ∧ after (.lineIdle none) run = run
      ∧ (let t := after (.lineIdle none) (makeDue run)
         t.line.onLine.map Sending.owner = some .report
          ∧ t.line.onLine.map (fun x => winsContest (frameBits x.frame) (frameBits (request 6 [8]))) = some false
          ∧ t.line.onLine.map (fun x => winsContest (frameBits x.frame) (frameBits { report 0 with src := 9 }))
            = some true) := by decide +kernel

theorem test_meets_FrameSentReachesItsBlock :
    (∀ o ∈ [Owner.alert .arm1Fault, .answer, .report, .request 0, .orphan],
        (sending o).line.onLine = some ⟨o, report 0⟩)
      ∧ (sending .answer).line.answers = [⟨12, 5, 2, .done, 2, some 0, false⟩]
      ∧ (sending .answer).start.station = .running := by decide +kernel

theorem test_meets_FaultUnitHoldsItsSets :
    FaultKind.isTrip .arm1Fault = true ∧ sticky .arm1Fault run = false
      ∧ FaultKind.isTrip .tankLow = false ∧ sticky .arm1Fault (stuck run .arm1Fault) = true
      ∧ FaultKind.lineFault ≠ .tankLow := by decide +kernel

/-- The longest payload; bits that are read as a frame; a cut end and a length above 16, which are not. -/
theorem test_meets_FramesReadBackFromTheirBits :
    ({ report 0 with payload := List.replicate 16 0xFF } : Frame).payload.length ≤ 16
      ∧ (let bits := frameBits (request 2 [1, 1])
         parseFrame (bits ++ [true]) = some (request 2 [1, 1]) ∧ parseFrame bits.dropLast = none
          ∧ parseFrame (bits.set 14 true) = none) := by decide +kernel

/-- Values at the ends of their ranges. -/
theorem test_meets_ReportsReadBackFromTheirBytes :
    reportFits drvValues ∧ reportFits { drvValues with period := 20, travel := -1500, engine := 4000, pressure := 500 } := by
  unfold reportFits between; decide +kernel

/-- A report of the running station, one without an image, and a payload of awkward values. -/
theorem test_meets_ReportsReadBackFromTheirBytes_content :
    (reportValues run).travel = 150 ∧ run.start.image = some image ∧ loading.start.image = none
      ∧ populated .drv run = true ∧ populated .drv brush = false
      ∧ (parseReport [0, 1, 0, 0x7F, 0, 0xFF, 0xFF, 0, 251, 0, 0, 0x5F, 5, 0, 0]).map Prod.snd
          = some ⟨2, 0, .transport, 1500, .bad, none, 4000, .bad, 500, .bad, 0, 0, .held, .held, .off, 0⟩ := by
  decide +kernel

/-! ### Witnesses of the laws: a state that keeps the law and takes a step -/

/-- A state with a command in front. -/
def facing (c : Instr) (s : State) : State := s.withPending [c]

theorem test_meets_EveryStepKeepsTheDriveLaw :
    DriveLaw (facing (.drvControlPeriod (pedalled true false 3000)) driver)
      ∧ step (facing (.drvControlPeriod (pedalled true false 3000)) driver)
        = .next (after (.drvControlPeriod (pedalled true false 3000)) driver) := by
  unfold DriveLaw; exact ⟨by decide +kernel, rfl⟩

theorem test_meets_EveryStepKeepsTheArmsLaw :
    ArmsLaw (facing (.armControlPeriod .one 800) brushing) := by
  refine ⟨by unfold resetLaw; decide +kernel, fun n => ?_⟩
  cases n <;> (unfold armLaw sweeping; decide +kernel)

theorem test_meets_EveryStepKeepsTheWaterLaw :
    WaterLaw (facing (.wtrControlPeriod 2500 950) priming) := by
  unfold WaterLaw resetLaw; decide +kernel

theorem test_meets_EveryStepKeepsThePendingLaw :
    PendingLaw (facing .armMove (hearing (holding run (pending .running 3)) (request 2 [2, 1]))) := by
  unfold PendingLaw PendingEntry.sameKey; decide +kernel

theorem test_meets_EveryStepKeepsTheOutgoingLaw :
    OutgoingLaw (facing (.settlingTimerExpiry 0) (switched asked ⟨true, false, some 20⟩)) := by
  unfold OutgoingLaw; decide +kernel

theorem test_meets_EveryStepKeepsTheLineLaw :
    LineLaw (facing .reportArrival (hearing brush (report 40))) := by
  unfold LineLaw resetLaw countersHeld; decide +kernel

end Sys2Proof.Tests
end

section
/-! SUPPORT. Truncation toward zero of a share of a value: what the curve stage (R5) and the derating stage (R17) have in
common. -/

namespace Sys2Proof.Machine

/-- The share f / n of a value at or above 0, truncated toward zero, lies between 0 and the value, and at or below the
untruncated share. -/
theorem tdiv_share_of_nonneg {d : Int} {f n : Nat} (hd : 0 ≤ d) (hn : 0 < n) (hf : f ≤ n) :
    0 ≤ Int.tdiv (d * f) n ∧ Int.tdiv (d * f) n ≤ d ∧ Int.tdiv (d * f) n * n ≤ d * f := by
  have hprod : 0 ≤ d * (f : Int) := mul_nonneg hd (Int.natCast_nonneg f)
  have hle : d * (f : Int) ≤ d * n := mul_le_mul_of_nonneg_left (by exact_mod_cast hf) hd
  have hpos : (0 : Int) < n := by exact_mod_cast hn
  rw [Int.tdiv_eq_ediv_of_nonneg hprod]
  exact ⟨Int.ediv_nonneg hprod hpos.le, Int.ediv_le_of_le_mul hpos hle, Int.ediv_mul_le _ hpos.ne'⟩

/-- The share of a value at or below 0 is the mirror image: it lies between the value and 0, at or above the untruncated
share. -/
theorem tdiv_share_of_nonpos {d : Int} {f n : Nat} (hd : d ≤ 0) (hn : 0 < n) (hf : f ≤ n) :
    Int.tdiv (d * f) n ≤ 0 ∧ d ≤ Int.tdiv (d * f) n ∧ d * f ≤ Int.tdiv (d * f) n * n := by
  obtain ⟨hlow, hhigh, hline⟩ := tdiv_share_of_nonneg (Int.neg_nonneg_of_nonpos hd) hn hf
  rw [Int.neg_mul, Int.neg_tdiv] at hlow hhigh hline
  rw [Int.neg_mul] at hline
  omega

end Sys2Proof.Machine
end

section
/-! SUPPORT. The curve lookup by its cases (R5). -/

namespace Sys2Proof.Machine

/-- A point of a curve in range, and the 0 read past its last one, lies within 0 to 4095 (R4). -/
theorem curvePoint_le {c : Curve} (h : curveInRange c) (i : Nat) : curvePoint c i ≤ 4095 := by
  obtain ⟨-, -, -, -, -, hpoints⟩ := h
  unfold curvePoint
  rw [List.getD_eq_getElem?_getD]
  cases hi : c.points[i]? with
  | none => simp
  | some y => exact hpoints y (List.mem_of_getElem? hi)

theorem curveSegments_of_length {c : Curve} {m : Nat} (h : c.points.length = m + 1) :
    curveSegments c = m := by
  simp [curveSegments, h]

/-- Below the span the lookup gives the first point (R5). -/
theorem curveLookup_of_lt {c : Curve} {x : Nat} (h : (x : Int) < c.x0) :
    curveLookup c x = (curvePoint c 0, .low) := by
  simp [curveLookup, h]

/-- At the end of the span and above it the lookup gives the last point (R5). -/
theorem curveLookup_of_segments_le {c : Curve} {x : Nat} (h : c.x0 ≤ (x : Int))
    (hi : curveSegments c ≤ ((x : Int) - c.x0).toNat / 2 ^ c.shift) :
    curveLookup c x = (curvePoint c (curveSegments c), .high) := by
  simp [curveLookup, h.not_gt, hi]

/-- Inside the span the lookup interpolates in segment i, at the offset that the division by the segment width leaves
(R5). -/
theorem curveLookup_of_lt_segments {c : Curve} {x : Nat} (h : c.x0 ≤ (x : Int))
    (hi : ((x : Int) - c.x0).toNat / 2 ^ c.shift < curveSegments c) :
    curveLookup c x = (interpolate c (((x : Int) - c.x0).toNat / 2 ^ c.shift)
      (((x : Int) - c.x0).toNat % 2 ^ c.shift), .inside) := by
  simp [curveLookup, h.not_gt, hi.not_ge, Nat.mod_eq_sub_div_mul]

/-- The offset's share of the segment's rise, which the interpolation adds to the segment's first point (R5). -/
def segmentShare (c : Curve) (i f : Nat) : Int :=
  Int.tdiv (((curvePoint c (i + 1) : Int) - curvePoint c i) * f) (2 ^ c.shift)

/-- On a rising segment the share lies between 0 and the rise, at or below the straight line (R5). -/
theorem segmentShare_of_rising {c : Curve} {i f : Nat} (hf : f < 2 ^ c.shift)
    (h : curvePoint c i ≤ curvePoint c (i + 1)) :
    0 ≤ segmentShare c i f ∧ segmentShare c i f ≤ (curvePoint c (i + 1) : Int) - curvePoint c i
      ∧ segmentShare c i f * 2 ^ c.shift ≤ ((curvePoint c (i + 1) : Int) - curvePoint c i) * f := by
  have hshare := tdiv_share_of_nonneg (d := (curvePoint c (i + 1) : Int) - curvePoint c i) (by omega)
    c.shift.two_pow_pos hf.le
  push_cast at hshare
  exact hshare

/-- On a falling segment the share lies between the fall and 0, at or above the straight line (R5). -/
theorem segmentShare_of_falling {c : Curve} {i f : Nat} (hf : f < 2 ^ c.shift)
    (h : curvePoint c (i + 1) ≤ curvePoint c i) :
    segmentShare c i f ≤ 0 ∧ (curvePoint c (i + 1) : Int) - curvePoint c i ≤ segmentShare c i f
      ∧ ((curvePoint c (i + 1) : Int) - curvePoint c i) * f ≤ segmentShare c i f * 2 ^ c.shift := by
  have hshare := tdiv_share_of_nonpos (d := (curvePoint c (i + 1) : Int) - curvePoint c i) (by omega)
    c.shift.two_pow_pos hf.le
  push_cast at hshare
  exact hshare

/-- The interpolated value is its first point plus the share: the sum never falls below 0 (R5). -/
theorem interpolate_eq {c : Curve} {i f : Nat} (hf : f < 2 ^ c.shift) :
    (interpolate c i f : Int) = curvePoint c i + segmentShare c i f := by
  have hnonneg : 0 ≤ (curvePoint c i : Int) + segmentShare c i f := by
    rcases Nat.le_total (curvePoint c i) (curvePoint c (i + 1)) with h | h
    · have := segmentShare_of_rising hf h; omega
    · have := segmentShare_of_falling hf h; omega
  have hdef : interpolate c i f = ((curvePoint c i : Int) + segmentShare c i f).toNat := by
    simp [interpolate, segmentShare]
  rw [hdef, Int.toNat_of_nonneg hnonneg]

/-- Inside the span the value lies between the two points of its segment, whichever is the larger (R5). -/
theorem interpolate_between {c : Curve} {i f : Nat} (hf : f < 2 ^ c.shift) :
    min (curvePoint c i) (curvePoint c (i + 1)) ≤ interpolate c i f
      ∧ interpolate c i f ≤ max (curvePoint c i) (curvePoint c (i + 1)) := by
  have hval := interpolate_eq (c := c) (i := i) hf
  rcases Nat.le_total (curvePoint c i) (curvePoint c (i + 1)) with h | h
  · obtain ⟨hlow, hhigh, -⟩ := segmentShare_of_rising hf h
    omega
  · obtain ⟨hhigh, hlow, -⟩ := segmentShare_of_falling hf h
    omega

/-- On a rising segment the value lies at or below the straight line (R5). -/
theorem interpolate_le_line {c : Curve} {i f : Nat} (hf : f < 2 ^ c.shift)
    (h : curvePoint c i ≤ curvePoint c (i + 1)) :
    (interpolate c i f : Int) * 2 ^ c.shift
      ≤ curvePoint c i * 2 ^ c.shift + ((curvePoint c (i + 1) : Int) - curvePoint c i) * f := by
  obtain ⟨-, -, hline⟩ := segmentShare_of_rising hf h
  rw [interpolate_eq hf, add_mul]
  exact add_le_add_right hline _

/-- On a falling segment the value lies at or above the straight line (R5). -/
theorem line_le_interpolate {c : Curve} {i f : Nat} (hf : f < 2 ^ c.shift)
    (h : curvePoint c (i + 1) ≤ curvePoint c i) :
    (curvePoint c i : Int) * 2 ^ c.shift + ((curvePoint c (i + 1) : Int) - curvePoint c i) * f
      ≤ (interpolate c i f : Int) * 2 ^ c.shift := by
  obtain ⟨-, -, hline⟩ := segmentShare_of_falling hf h
  rw [interpolate_eq hf, add_mul]
  exact add_le_add_right hline _

/-- On a flat segment the value is its first point, whatever the offset (R5). -/
theorem interpolate_of_flat {c : Curve} {i f : Nat} (hf : f < 2 ^ c.shift)
    (h : curvePoint c i = curvePoint c (i + 1)) : interpolate c i f = curvePoint c i := by
  have hbetween := interpolate_between (i := i) hf
  omega

/-- Every output of a curve in range lies within 0 to 4095 (R5). -/
theorem curveLookup_le {c : Curve} (h : curveInRange c) (x : Nat) : (curveLookup c x).1 ≤ 4095 := by
  rcases lt_or_ge (x : Int) c.x0 with hlow | hge
  · simpa [curveLookup_of_lt hlow] using curvePoint_le h 0
  rcases Nat.lt_or_ge (((x : Int) - c.x0).toNat / 2 ^ c.shift) (curveSegments c) with hin | hhigh
  · rw [curveLookup_of_lt_segments hge hin]
    obtain ⟨-, hhigh⟩ := interpolate_between (c := c) (Nat.mod_lt _ c.shift.two_pow_pos)
    exact hhigh.trans (max_le (curvePoint_le h _) (curvePoint_le h _))
  · simpa [curveLookup_of_segments_le hge hhigh] using curvePoint_le h _

/-- The input m segments above the start is the first one with the upper clamp (R5). -/
theorem curveLookup_at_end {c : Curve} {x : Nat}
    (h : (x : Int) = c.x0 + (curveSegments c : Int) * 2 ^ c.shift) :
    curveLookup c x = (curvePoint c (curveSegments c), .high) := by
  have hdx : (x : Int) - c.x0 = ((curveSegments c * 2 ^ c.shift : Nat) : Int) := by
    push_cast
    omega
  have hge : c.x0 ≤ (x : Int) := by omega
  apply curveLookup_of_segments_le hge
  rw [hdx, Int.toNat_natCast, Nat.mul_div_cancel _ c.shift.two_pow_pos]

/-- Settles O9, by the three cases of the lookup; inside the span by the sign of the segment's rise. -/
theorem curveLookupCases : Obligations.CurveLookupCases := by
  intro c m x hrange hlen y i f
  obtain rfl : curveSegments c = m := curveSegments_of_length hlen
  have hf : f < 2 ^ c.shift := Nat.mod_lt _ c.shift.two_pow_pos
  refine ⟨curveLookup_of_lt, curveLookup_of_segments_le, fun hge hin => ?_, curveLookup_le hrange x,
    curveLookup_at_end, fun hge hin hflat => ?_⟩
  · rw [curveLookup_of_lt_segments hge hin]
    exact ⟨rfl, interpolate_eq hf, hf, interpolate_le_line hf, line_le_interpolate hf, interpolate_between hf⟩
  · rw [curveLookup_of_lt_segments hge hin]
    exact interpolate_of_flat hf hflat

end Sys2Proof.Machine
end

section
/-! SUPPORT. The derating factor, the derated commands, and what a channel's period makes of them (R16, R17). -/

namespace Sys2Proof.Machine

/-! ### The factor k -/

/-- A BAD droop gives the blind share (R17). -/
@[simp] theorem factor_none (p : DeratePair) (share : Nat) : factor p share none = share := rfl

/-- Up to D0 the factor is 256, whichever way the pair stands (R17). -/
theorem factor_of_le_d0 {p : DeratePair} {d : Nat} (share : Nat) (h : d ≤ p.d0) :
    factor p share (some d) = 256 := by
  simp [factor, h]

/-- Above D0 and from D1 on the factor is 0, whichever way the pair stands (R17). -/
theorem factor_of_d1_le {p : DeratePair} {d : Nat} (share : Nat) (h0 : p.d0 < d) (h1 : p.d1 ≤ d) :
    factor p share (some d) = 0 := by
  simp [factor, h0.not_ge, h1]

/-- Between the thresholds the factor falls by the truncated quotient (R17). -/
theorem factor_of_between {p : DeratePair} {d : Nat} (share : Nat) (h0 : p.d0 < d) (h1 : d < p.d1) :
    factor p share (some d) = 256 - (d - p.d0) * 256 / (p.d1 - p.d0) := by
  simp [factor, h0.not_ge, h1.not_ge]

/-- Below D1 the quotient stays below 256 (R17). -/
theorem factorQuotient_le {p : DeratePair} {d : Nat} (h0 : p.d0 < d) (h1 : d < p.d1) :
    (d - p.d0) * 256 / (p.d1 - p.d0) ≤ 255 := by
  have hspan : 0 < p.d1 - p.d0 := by omega
  have hquot : (d - p.d0) * 256 / (p.d1 - p.d0) < 256 := by
    rw [Nat.div_lt_iff_lt_mul hspan]
    omega
  omega

/-- Between the thresholds the factor is never 0: the quotient truncates (R17). -/
theorem one_le_factor_of_between {p : DeratePair} {d : Nat} (share : Nat) (h0 : p.d0 < d) (h1 : d < p.d1) :
    1 ≤ factor p share (some d) := by
  have hquot := factorQuotient_le h0 h1
  rw [factor_of_between share h0 h1]
  omega

/-- Every factor lies in 0 to 256 where the blind share does (R17). -/
theorem factor_le {share : Nat} (p : DeratePair) (q : Option Nat) (h : share ≤ 256) :
    factor p share q ≤ 256 := by
  cases q with
  | none => simpa using h
  | some d =>
    rcases Nat.lt_or_ge p.d0 d with h0 | h0
    · rcases Nat.lt_or_ge d p.d1 with h1 | h1
      · exact (factor_of_between share h0 h1).trans_le (Nat.sub_le ..)
      · simp [factor_of_d1_le share h0 h1]
    · exact (factor_of_le_d0 share h0).le

/-! ### The derated command -/

/-- Truncation toward zero treats both signs alike (R17). -/
theorem derateInt_neg (x : Int) (k : Nat) : derateInt (-x) k = -derateInt x k := by
  unfold derateInt
  rw [Int.neg_mul, Int.neg_tdiv]

/-- A factor of at most 256 leaves a command at or above 0 between 0 and itself (R17). -/
theorem derateInt_between {x : Int} {k : Nat} (hx : 0 ≤ x) (hk : k ≤ 256) :
    0 ≤ derateInt x k ∧ derateInt x k ≤ x := by
  obtain ⟨hlow, hhigh, -⟩ := tdiv_share_of_nonneg (n := 256) hx (by decide) hk
  exact ⟨hlow, hhigh⟩

/-- A derated command is no larger in magnitude than the command before derating (R17). -/
theorem derateInt_natAbs_le (x : Int) {k : Nat} (hk : k ≤ 256) : (derateInt x k).natAbs ≤ x.natAbs := by
  rcases Int.le_total 0 x with hx | hx
  · have hbetween := derateInt_between hx hk
    omega
  · have hbetween := derateInt_between (Int.neg_nonneg_of_nonpos hx) hk
    rw [derateInt_neg] at hbetween
    omega

/-- Derating keeps the sign of a command at or above 0, whatever the factor. -/
theorem derateInt_nonneg {x : Int} (k : Nat) (h : 0 ≤ x) : 0 ≤ derateInt x k :=
  Int.tdiv_nonneg (mul_nonneg h (Int.natCast_nonneg k)) (by decide)

/-- Derating keeps the sign of a command at or below 0, whatever the factor. -/
theorem derateInt_nonpos {x : Int} (k : Nat) (h : x ≤ 0) : derateInt x k ≤ 0 := by
  have hneg := derateInt_nonneg k (Int.neg_nonneg_of_nonpos h)
  rw [derateInt_neg] at hneg
  omega

@[simp] theorem derateInt_full (x : Int) : derateInt x 256 = x :=
  Int.mul_tdiv_cancel x (by decide)

@[simp] theorem derateInt_zero (x : Int) : derateInt x 0 = 0 := by
  simp [derateInt]

/-- The unsigned command of BR1, BR2 and WTR is the signed one of an output at or above 0 (R17). -/
theorem derateNat_eq {x : Int} (k : Nat) (h : 0 ≤ x) : (derateNat x k : Int) = derateInt x k :=
  Int.toNat_of_nonneg (derateInt_nonneg k h)

/-! ### The channels -/

/-- A period in WORKING derates the ramp output it leaves, and keeps the arm's state (R17, R86). -/
theorem brushPeriod_working {b : StartBlock} {n : ArmId} {s : State} (h : (s.arm n).state = .working) :
    ((brushPeriod b n s).arm n).command
        = derateNat ((brushPeriod b n s).sp.brush n).ramp.out (brushFactor b s)
      ∧ ((brushPeriod b n s).arm n).state = .working := by
  simp [brushPeriod, h]

/-- The outputs of SPRAYING derate the ramp output they leave, and keep the channel's state (R17, R98). -/
theorem waterOutputs_spraying {b : StartBlock} {s : State} (h : s.water.state = .spraying) :
    (waterOutputs b s).water.pump = derateNat (waterOutputs b s).sp.wtr.ramp.out (waterFactor b s)
      ∧ (waterOutputs b s).water.state = .spraying := by
  simp [waterOutputs, h]

/-! ### The droop -/

/-- A BAD engine speed gives a BAD droop (R16). -/
theorem droop_of_bad {b : StartBlock} {s : State} (h : (viewEngine s).quality = .bad) :
    droop b s = none := by
  simp [droop, h]

/-- A GOOD or HELD engine speed gives the droop nS − nE, floored at 0 (R16). -/
theorem droop_of_not_bad {b : StartBlock} {s : State} (h : (viewEngine s).quality ≠ .bad) :
    droop b s = some (b.line.setSpeed - (viewEngine s).value) := by
  simp [droop, h]

/-- Settles O13: the factor by its clauses, the derated command by its sign, and each channel's period by the lemma on
it; the drive chain and the bank's choice are the model's definitions as they stand. -/
theorem deratingFactorAndCommand : Obligations.DeratingFactorAndCommand := by
  refine ⟨fun p share d => ?_, fun x k => ?_, fun b s => ?_, fun b s => ?_⟩
  · exact ⟨fun _ => factor_of_le_d0 share,
      fun _ h0 h1 => ⟨factor_of_between share h0 h1, factorQuotient_le h0 h1, one_le_factor_of_between share h0 h1⟩,
      fun hp h1 => factor_of_d1_le share (hp.trans_le h1) h1, fun _ => factor_of_le_d0 share,
      fun hp h0 => factor_of_d1_le share h0 (hp.trans h0.le), factor_none p share, factor_le p⟩
  · exact ⟨rfl, derateInt_natAbs_le x, derateInt_nonneg k, derateInt_nonpos k, derateInt_full x,
      derateInt_zero x, derateNat_eq k⟩
  · exact ⟨rfl, rfl, rfl, fun _ => brushPeriod_working, waterOutputs_spraying, rfl, rfl⟩
  · refine ⟨droop_of_bad, fun hq hle => ⟨_, droop_of_not_bad hq, Int.ofNat_sub hle⟩, fun hq hlt => ?_, ?_⟩
    · rw [droop_of_not_bad hq, Nat.sub_eq_zero_of_le hlt.le]
    · unfold activeBank
      cases s.start.mode <;> rfl

end Sys2Proof.Machine
end

section
/-! SUPPORT. The blend stage: its condition codes, its mixes and its test quantities (R8, R9, R10). -/

namespace Sys2Proof.Machine

/-- A code compares Q with C as R9's table says. -/
theorem conditionHolds_cases (q c : Nat) :
    (conditionHolds .always q c = true) ∧ (conditionHolds .never q c = false)
    ∧ (conditionHolds .gt q c = true ↔ q > c) ∧ (conditionHolds .ge q c = true ↔ q ≥ c)
    ∧ (conditionHolds .eq q c = true ↔ q = c) ∧ (conditionHolds .ne q c = true ↔ q ≠ c)
    ∧ (conditionHolds .lt q c = true ↔ q < c) ∧ (conditionHolds .le q c = true ↔ q ≤ c) :=
  ⟨rfl, rfl, decide_eq_true_iff, decide_eq_true_iff, decide_eq_true_iff, decide_eq_true_iff,
    decide_eq_true_iff, decide_eq_true_iff⟩

/-- The eight codes name the conditions in the order of R9's table. -/
theorem conditionOf_eq_getD : ∀ n : Nat, n < 8 →
    conditionOf n = [.always, .gt, .eq, .lt, .never, .ge, .ne, .le].getD n .always := by
  decide

/-- A true condition applies the foreground mix (R9). -/
theorem blend_of_holds {r : BlendRule} {q : Nat} (a b : Nat) (h : conditionHolds r.code q r.compare = true) :
    blend r (some q) a b = applyMix r.fg a b := by
  simp [blend, h]

/-- A false condition applies the background mix (R9). -/
theorem blend_of_not_holds {r : BlendRule} {q : Nat} (a b : Nat)
    (h : conditionHolds r.code q r.compare = false) : blend r (some q) a b = applyMix r.bg a b := by
  simp [blend, h]

/-- A BAD test quantity applies the background mix, whatever the code (R9). -/
@[simp] theorem blend_none (r : BlendRule) (a b : Nat) : blend r none a b = applyMix r.bg a b := rfl

/-- A rule whose two mixes are equal applies that mix under every test quantity (R9). -/
theorem blend_of_equal_mixes {r : BlendRule} (q : Option Nat) (a b : Nat) (h : r.fg = r.bg) :
    blend r q a b = applyMix r.bg a b := by
  cases q with
  | none => rfl
  | some q =>
    cases hc : conditionHolds r.code q r.compare with
    | true => rw [blend_of_holds a b hc, h]
    | false => exact blend_of_not_holds a b hc

/-- SUM gives 4095 and saturates where the sum is above it (R10). -/
theorem applyMix_sum (a b : Nat) :
    applyMix .sum a b = if 4095 < a + b then (4095, true) else (a + b, false) := by
  unfold applyMix
  split_ifs with h
  · simp [h, h.le]
  · simp [h, not_lt.mp h]

/-- DIFF is the difference, floored at 0 (R10). -/
theorem applyMix_diff (a b : Nat) :
    applyMix .diff a b = if b ≤ a then (a - b, false) else (0, false) := by
  unfold applyMix
  split_ifs with h
  · rfl
  · rw [Nat.sub_eq_zero_of_le (Nat.le_of_not_le h)]

/-- Every mix of two values within 0 to 4095 gives a result within 0 to 4095 (R10). -/
theorem applyMix_le {a b : Nat} (ha : a ≤ 4095) (hb : b ≤ 4095) (m : Mix) : (applyMix m a b).1 ≤ 4095 := by
  cases m <;> simp only [applyMix] <;> omega

/-- The span test on a raw count, as the two bounds of R8's table. -/
theorem rawQuantity_eq (r : Raw) :
    rawQuantity r = if 82 ≤ r.toNat ∧ r.toNat ≤ 4013 then some r.toNat else none := by
  simp [rawQuantity, inSpan]

/-- Settles O10: the choice of the mix by the blend's cases, the results mix by mix, and the six test quantities, which
the model states as R8's table does but for the span test on a raw count. -/
theorem blendChoosesAndMixes : Obligations.BlendChoosesAndMixes := by
  refine ⟨⟨conditionHolds_cases, conditionOf_eq_getD, fun _ a b _ => ⟨blend_of_holds a b, blend_of_not_holds a b⟩,
    blend_none, fun r a b q q' h => ?_, fun _ => ⟨rfl, rfl, rfl⟩⟩, fun a b ha hb => ?_, fun b s arm => ?_⟩
  · rw [blend_of_equal_mixes q a b h, blend_of_equal_mixes q' a b h]
  · exact ⟨rfl, rfl, rfl, rfl, applyMix_sum a b, applyMix_diff a b, rfl, rfl, applyMix_le ha hb⟩
  · refine ⟨rfl, rfl, ?_, rfl, rfl, rfl, ?_⟩
    · simp only [testQuantity, rawQuantity_eq]
    · simp only [waterArmPosition, rawQuantity_eq]

end Sys2Proof.Machine
end

section
/-! SUPPORT. What a command can do: one inversion lemma for the requests and one for the whole of `exec`. -/

namespace Sys2Proof.Machine

-- One thread elaborates this section, so that the check's memory limit holds the stacks.
set_option Elab.async false

/-! ### What a reply leaves -/

/-- A SET_MODE TRANSPORT demands every arm up, with the mode change where the mode is another one (R110). -/
def demandTransport (s : State) : State :=
  if s.start.mode = .transport then forArms stowDemand s else changeMode .transport s

/-- The states a reply to the request `r` can leave, with the tests of R122 that it has passed. -/
inductive Acts (r : Request) (s : State) : State → Prop
  | nothing : Acts r s s
  | free : Acts r s (s.withFree (s.free + 1))
  | refresh (src tag : Nibble) : Acts r s (refreshEntry src tag s)
  | release (src tag : Nibble) : Acts r s (freeEntry src tag s)
  | mode (m : Mode) (running : s.start.station = .running) (other : m ≠ .transport)
      (allowed : m = .service → serviceAllowed s = true)
      (clear : conflicts r.src (modeClaims m s) s = false) :
      Acts r s (takeMode m (supersede r.src (modeClaims m s) s))
  | stow (running : s.start.station = .running)
      (clear : conflicts r.src (modeClaims .transport s) s = false) :
      Acts r s (demandTransport (supersede r.src (modeClaims .transport s) s))
  | stowPending (running : s.start.station = .running) (fresh : findEntry r.src r.tag s = none)
      (clear : conflicts r.src (modeClaims .transport s) s = false)
      (room : transportNeedsEntry s = true → tableFull s = false)
      (notStowed : allStowed (demandTransport (supersede r.src (modeClaims .transport s) s)) = false)
      (notTripped : someArmTripped (demandTransport (supersede r.src (modeClaims .transport s) s)) = false) :
      Acts r s (makeEntry r .setTransport (modeClaims .transport s)
        (demandTransport (supersede r.src (modeClaims .transport s) s)))
  | arm (n : ArmId) (target : Target) (running : s.start.station = .running)
      (has : populated (armChannel n) s = true) (allowed : moveAllowed n target s = true)
      (clear : conflicts r.src (armClaims n) s = false) :
      Acts r s (armToTarget n target (supersede r.src (armClaims n) s))
  | armPending (n : ArmId) (target : Target) (running : s.start.station = .running)
      (has : populated (armChannel n) s = true) (allowed : moveAllowed n target s = true)
      (clear : conflicts r.src (armClaims n) s = false) (fresh : findEntry r.src r.tag s = none)
      (room : tableFull s = false) :
      Acts r s (makeEntry r (.armMove n target) (armClaims n)
        (armToTarget n target (supersede r.src (armClaims n) s)))
  | water (on : Bool) (has : populated .wtr s = true) (running : s.start.station = .running)
      (wet : s.start.mode = .sweepWet) : Acts r s (writeEnable on s)
  | trim (n : ArmId) (v : Nat) : Acts r s (s.withArm n { s.arm n with trim := v })
  | clear (mask : FaultSet) (running : s.start.station = .running) : Acts r s (clearFaults mask s)

/-- What the answer from an entry leaves (R123). -/
theorem answerFromEntry_acts (r : Request) (e : PendingEntry) (s : State) :
    Acts r s (answerFromEntry r e s).state := by
  unfold answerFromEntry
  split
  · split
    · exact .refresh _ _
    all_goals exact .release _ _
  · exact .nothing

theorem actTransport_acts {r : Request} {s : State} (running : s.start.station = .running)
    (fresh : findEntry r.src r.tag s = none) (clear : conflicts r.src (modeClaims .transport s) s = false)
    (room : transportNeedsEntry s = true → tableFull s = false) :
    Acts r s (actTransport r (modeClaims .transport s) (supersede r.src (modeClaims .transport s) s)).state := by
  have hdemand : ∀ u : State, (if u.start.mode = .transport then forArms stowDemand u
      else changeMode .transport u) = demandTransport u := fun _ => rfl
  simp only [actTransport, hdemand]
  split
  · exact .stow running clear
  · split
    · exact .stow running clear
    · next hs ht => exact .stowPending running fresh clear room (by simpa using hs) (by simpa using ht)

theorem actSetMode_acts {r : Request} {s : State} (fresh : findEntry r.src r.tag s = none) :
    Acts r s (actSetMode r s).state := by
  unfold actSetMode
  split
  · exact .nothing
  · next m _ =>
    split
    · exact .nothing
    · next hrun =>
      have running : s.start.station = .running := by simpa using hrun
      split
      · exact .nothing
      · next hserv =>
        simp only [claimMode]
        split
        · exact .nothing
        · next hconf =>
          have clear : conflicts r.src (modeClaims m s) s = false := by simpa using hconf
          split
          · exact .nothing
          · next hroom =>
            split
            · next hm =>
              subst hm
              exact actTransport_acts running fresh clear (by simpa using hroom)
            · next hm => exact .mode m running hm (by simpa using hserv) clear

theorem actArmMove_acts {r : Request} {s : State} (fresh : findEntry r.src r.tag s = none) :
    Acts r s (actArmMove r s).state := by
  unfold actArmMove
  split
  · exact .free
  · next n _ =>
    split
    · exact .nothing
    · next hpop =>
      split
      · exact .nothing
      · next target _ =>
        split
        · exact .nothing
        · next hrun =>
          have running : s.start.station = .running := by simpa using hrun
          have has : populated (armChannel n) s = true := by simpa using hpop
          simp only [claimArm]
          split
          · exact .nothing
          · split
            · exact .nothing
            · next hallow =>
              split
              · exact .nothing
              · next hconf =>
                have allowed : moveAllowed n target s = true := by simpa using hallow
                have clear : conflicts r.src (armClaims n) s = false := by simpa using hconf
                split
                · exact .nothing
                · next hroom =>
                  split
                  · exact .arm n target running has allowed clear
                  · next honce => exact .armPending n target running has allowed clear fresh (by simp_all)

theorem actWaterSet_acts (r : Request) (s : State) : Acts r s (actWaterSet r s).state := by
  unfold actWaterSet
  split
  · exact .nothing
  · next hpop =>
    split
    · exact .nothing
    · next on _ =>
      split
      · exact .nothing
      · next h =>
        push Not at h
        exact .water on (by simpa using hpop) h.1 h.2

theorem actTrimSet_acts (r : Request) (s : State) : Acts r s (actTrimSet r s).state := by
  unfold actTrimSet
  split
  · exact .nothing
  · next n _ =>
    split
    · exact .nothing
    · split
      · exact .nothing
      · next v _ =>
        split
        · exact .nothing
        · exact .trim n v

theorem actFaultClear_acts (r : Request) (s : State) : Acts r s (actFaultClear r s).state := by
  unfold actFaultClear
  split
  · exact .nothing
  · next mask _ =>
    split
    · exact .nothing
    · next hrun => exact .clear mask (by simpa using hrun)

theorem actQuery_state (r : Request) (s : State) : (actQuery r s).state = s := by
  unfold actQuery
  split <;> rfl

theorem actRestart_state (r : Request) (s : State) : (actRestart r s).state = s := by
  unfold actRestart
  split
  · rfl
  · split <;> rfl

/-! ### What a command leaves -/

/-- The states a command can leave, with the tests it has passed. -/
inductive Does (s : State) : State → Prop
  | nothing : Does s s
  | coldReset : Does s (coldState s)
  | release (straps : Straps) (low : s.pins.resetN = false) : Does s (beginLoading straps s)
  | failStart (miso : List Bool) (runs : loadRuns s = true) : Does s (failStart (endRead miso s))
  | acceptStart (miso : List Bool) (arm1 arm2 : Raw) (levels : BitVec 8) (runs : loadRuns s = true) :
      Does s (acceptStart (imageOf s.start.number miso) arm1 arm2 levels (endRead miso s))
  | join (due : joinDue s = true) : Does s (enterRunning s)
  | pins (p : Pins) (reset : p.resetN = s.pins.resetN) : Does s (s.withPins p)
  | drivePeriod (b : StartBlock) (i : DriveInputs) (image : s.start.image = some b)
      (measures : driveMeasures s = true) :
      Does s (drivePeriod b (s.withPins { s.pins with drive := i }))
  | armPeriod (b : StartBlock) (n : ArmId) (raw : Raw) (image : s.start.image = some b)
      (has : populated (armChannel n) s = true) (runs : periodsRun s = true) :
      Does s (armPeriod b n (setPositionPin n raw s))
  | waterPeriod (b : StartBlock) (tank waterP : Raw) (image : s.start.image = some b)
      (has : populated .wtr s = true) (runs : periodsRun s = true) :
      Does s (waterPeriod b (s.withPins { s.pins with tank := tank, waterP := waterP }))
  | bucketClose (b : StartBlock) : Does s (s.withDrive { takeEngineSensor s with meas := s.drive.meas.close b })
  | speedEdge (p : Pins) (m : Measure) (reset : p.resetN = s.pins.resetN) :
      Does s (restartSpeedSilence ((s.withPins p).withDrive { s.drive with meas := m }))
  | engineEdge (bad : Bool) (m : Measure) :
      Does s (handOver .engineSensor false
        (s.withDrive { s.drive with engineSilence := 0, engineBad := bad, meas := m }))
  | park (due : parkDue s = true) : Does s (s.withDrive (parkExpired s.drive))
  | dwell (due : dwellDue s = true) : Does s (s.withDrive (dwellExpired s.drive))
  | speedSilence : Does s (handOver .speedSensor true s)
  | engineSilence : Does s (handOver .engineSensor true s)
  | stall (n : ArmId) (due : moveDue n s = true) : Does s (stall n s)
  | blind (n : ArmId) (working : (s.arm n).state = .working) : Does s (blindExpired n s)
  | failedPrime (active : s.water.state = .priming ∨ s.water.state = .spraying) : Does s (failedPrime s)
  | dryWaitEnded (b : StartBlock) (waits : s.water.state = .dryWait) : Does s (dryWaitEnded b s)
  | pattern (b : StartBlock) (spraying : s.water.state = .spraying) : Does s (advancePattern b s)
  | age (n : Fin 15) (st : EntryState) : Does s (markEntry n st s)
  | entryDiscard (src tag : Nibble) : Does s (freeEntry src tag s)
  | entryOrphaned (src tag : Nibble) : Does s (countOrphan (freeEntry src tag s))
  | repeatExpiry (tag : Nibble) (e : OutgoingEntry) (found : findOutgoing tag s = some e) :
      Does s (repeatExpired e s)
  | switch (i : Fin 8) (d : Debouncer) : Does s (s.withSwitch i d)
  | edge (b : StartBlock) (i : Fin 8) (d : Debouncer) (onEdge : Bool) :
      Does s (switchEdge b i onEdge (s.withSwitch i d))
  | reportTimer : Does s (makeDue
      (s.withLine { s.line with reportTimer := s.line.reportTimer.map (· - reportPeriod s) }))
  | checkError : Does s (countCheckError s)
  | frame (f : Frame) (on : s.start.station ≠ .loading) : Does s (sortFrame f s)
  | cutOff (due : guardDue s = true) : Does s (cutOff s)
  | popRx : Does s (popRx s)
  | report (f : Frame) (n : Fin 15) (seq : Byte) (v : ReportValues) (front : f ∈ s.line.rx)
      (source : entryIndex f.src = some n) : Does s (takeReport n seq v (popRx s))
  | alert (n : Fin 15) (k : FaultKind) : Does s (takeAlert n k (popRx s))
  | answer (f : Frame) : Does s (takeAnswer f (popRx s))
  | missed : Does s (countMissed (popRx s))
  | reply (r : Request) (u : State) (res : Result) (value : Word) (restarts : Bool)
      (room : s.line.answers.length < 4) (acts : Acts r (popRx s) u) :
      Does s (queueAnswer r.src r.tag r.kind res value restarts u)
  | restart (straps : Straps) (ends : s.start.station = .silenced ∨ s.start.station = .failedStart) :
      Does s (restartNow straps (popRx s))
  | lost : Does s (s.withFree (s.free + 1))
  | offer (o : Offer) (f : Frame) : Does s (putOnLine o f (s.withFree (s.free + 1)))
  | frameSent (x : Sending) (sending : s.line.onLine = some x) :
      Does s (frameEnded x.owner (s.withLine { s.line with onLine := none, guardTime := 0 }))

/-- A request with a place for its answer, or without one. -/
theorem answerRequest_does {act : Request → State → Reply} {r : Request} {s : State}
    (hact : findEntry r.src r.tag (popRx s) = none → Acts r (popRx s) (act r (popRx s)).state) :
    Does s (answerRequest act r (popRx s)) := by
  unfold answerRequest
  split
  · exact .missed
  · next hroom =>
    have room : s.line.answers.length < 4 := by simpa [popRx] using hroom
    split
    · exact .reply r _ _ _ _ room (answerFromEntry_acts r _ _)
    · next hnone => exact .reply r _ _ _ _ room (hact hnone)

theorem serve_does {kinds : Nibble → Bool} {act : Request → State → Reply} {s : State}
    (hact : ∀ r, findEntry r.src r.tag (popRx s) = none → Acts r (popRx s) (act r (popRx s)).state) :
    Does s (serve kinds act s) := by
  unfold serve
  split
  · exact .nothing
  · split
    · exact .popRx
    · exact answerRequest_does (hact _)

theorem execRestart_does {straps : Straps} {s t : State} (h : execRestart straps s = .next t) : Does s t := by
  simp only [execRestart] at h
  split at h
  · cases h; exact .nothing
  · split at h
    · cases h; exact .popRx
    · split at h
      · next hs =>
        cases h
        refine .restart straps ?_
        simp only [restartsSilently, popRx_start, Bool.and_eq_true, Bool.or_eq_true, decide_eq_true_eq] at hs
        exact hs.1.1
      · cases h
        exact answerRequest_does (fun _ => actRestart_state _ _ ▸ .nothing)

theorem frontOf_mem {c : FrameClass} {f : Frame} {s : State} (h : frontOf c s = some f) : f ∈ s.line.rx := by
  unfold frontOf at h
  split at h
  · next heq =>
    split at h
    · cases h; simp [heq]
    · cases h
  · cases h

theorem execResetRelease_does {straps : Straps} {s t : State}
    (h : execResetRelease straps s = .next t) : Does s t := by
  simp only [execResetRelease] at h
  split at h <;> cases h
  · exact .nothing
  · next hl => exact .release straps (by simpa using hl)

theorem execLoadCompletion_does {miso : List Bool} {arm1 : Raw} {arm2 : Raw} {levels : BitVec 8} {s t : State}
    (h : execLoadCompletion miso arm1 arm2 levels s = .next t) : Does s t := by
  simp only [execLoadCompletion] at h
  split at h
  · next hr =>
    split at h <;> cases h
    · exact .failStart miso hr
    · exact .acceptStart miso arm1 arm2 levels hr
  · cases h; exact .nothing

theorem execJoinTimerExpiry_does {s t : State}
    (h : execJoinTimerExpiry s = .next t) : Does s t := by
  simp only [execJoinTimerExpiry] at h
  split at h <;> cases h
  · next hd => exact .join hd
  · exact .nothing

theorem execDrvControlPeriod_does {i : DriveInputs} {s t : State}
    (h : execDrvControlPeriod i s = .next t) : Does s t := by
  simp only [execDrvControlPeriod] at h
  split at h
  · next b hb =>
    split at h
    · next hm =>
      rw [← Host.Outcome.next.inj h]
      exact .drivePeriod b i hb hm
    · cases h; exact .pins _ rfl
  · cases h; exact .pins _ rfl

theorem execArmControlPeriod_does {n : ArmId} {raw : Raw} {s t : State}
    (h : execArmControlPeriod n raw s = .next t) : Does s t := by
  have hp : Does s (setPositionPin n raw s) := by cases n <;> exact .pins _ rfl
  have hstart : (setPositionPin n raw s).start = s.start := by cases n <;> rfl
  simp only [execArmControlPeriod] at h
  split at h
  · next b hb =>
    split at h <;> cases h
    · next hm =>
      simp only [populated, periodsRun, hstart, Bool.and_eq_true] at hm
      rw [hstart] at hb
      exact .armPeriod b n raw hb hm.1 hm.2
    · exact hp
  · cases h; exact hp

theorem execWtrControlPeriod_does {tank : Raw} {waterP : Raw} {s t : State}
    (h : execWtrControlPeriod tank waterP s = .next t) : Does s t := by
  simp only [execWtrControlPeriod] at h
  split at h
  · next b hb =>
    split at h <;> cases h
    · next hm =>
      rw [Bool.and_eq_true] at hm
      exact .waterPeriod b tank waterP hb hm.1 hm.2
    · exact .pins _ rfl
  · cases h; exact .pins _ rfl

theorem execBucketClose_does {s t : State}
    (h : execBucketClose s = .next t) : Does s t := by
  simp only [execBucketClose] at h
  split at h
  · split at h <;> cases h
    · exact .bucketClose _
    · exact .nothing
  · cases h; exact .nothing

theorem execSpeedEdge_does {track : Track} {a : Bool} {b : Bool} {s t : State}
    (h : execSpeedEdge track a b s = .next t) : Does s t := by
  simp only [execSpeedEdge] at h
  split at h <;> cases h
  · exact .speedEdge _ _ rfl
  · exact .pins _ rfl

theorem execEngineEdge_does {s t : State}
    (h : execEngineEdge s = .next t) : Does s t := by
  simp only [execEngineEdge] at h
  split at h <;> cases h
  · exact .engineEdge _ _
  · exact .nothing

theorem execParkTimerExpiry_does {s t : State}
    (h : execParkTimerExpiry s = .next t) : Does s t := by
  simp only [execParkTimerExpiry] at h
  split at h <;> cases h
  · next hd => exact .park hd
  · exact .nothing

theorem execDwellTimerExpiry_does {s t : State}
    (h : execDwellTimerExpiry s = .next t) : Does s t := by
  simp only [execDwellTimerExpiry] at h
  split at h <;> cases h
  · next hd => exact .dwell hd
  · exact .nothing

theorem execSpeedSilenceExpiry_does {s t : State}
    (h : execSpeedSilenceExpiry s = .next t) : Does s t := by
  simp only [execSpeedSilenceExpiry] at h
  split at h <;> cases h
  · exact .speedSilence
  · exact .nothing

theorem execEngineSilenceExpiry_does {s t : State}
    (h : execEngineSilenceExpiry s = .next t) : Does s t := by
  simp only [execEngineSilenceExpiry] at h
  split at h <;> cases h
  · exact .engineSilence
  · exact .nothing

theorem execMoveTimerExpiry_does {n : ArmId} {s t : State}
    (h : execMoveTimerExpiry n s = .next t) : Does s t := by
  simp only [execMoveTimerExpiry] at h
  split at h <;> cases h
  · next hd => exact .stall n hd
  · exact .nothing

theorem execBlindTimerExpiry_does {n : ArmId} {s t : State}
    (h : execBlindTimerExpiry n s = .next t) : Does s t := by
  simp only [execBlindTimerExpiry] at h
  split at h <;> cases h
  · next hd => exact .blind n hd.2
  · exact .nothing

theorem execPrimeTimerExpiry_does {s t : State}
    (h : execPrimeTimerExpiry s = .next t) : Does s t := by
  simp only [execPrimeTimerExpiry] at h
  split at h <;> cases h
  · next hd => exact .failedPrime (.inl hd.2)
  · exact .nothing

theorem execLossTimerExpiry_does {s t : State}
    (h : execLossTimerExpiry s = .next t) : Does s t := by
  simp only [execLossTimerExpiry] at h
  split at h <;> cases h
  · next hd => exact .failedPrime (.inr hd.2)
  · exact .nothing

theorem execDryWaitExpiry_does {s t : State}
    (h : execDryWaitExpiry s = .next t) : Does s t := by
  simp only [execDryWaitExpiry] at h
  split at h
  · split at h <;> cases h
    · next hd => exact .dryWaitEnded _ hd.2
    · exact .nothing
  · cases h; exact .nothing

theorem execPatternTimerExpiry_does {s t : State}
    (h : execPatternTimerExpiry s = .next t) : Does s t := by
  simp only [execPatternTimerExpiry] at h
  split at h
  · split at h <;> cases h
    · next hd => exact .pattern _ hd.2
    · exact .nothing
  · cases h; exact .nothing

theorem execStaleExpiry_does {n : Fin 15} {s t : State}
    (h : execStaleExpiry n s = .next t) : Does s t := by
  simp only [execStaleExpiry] at h
  split at h <;> cases h
  · exact .age n _
  · exact .nothing

theorem execLostExpiry_does {n : Fin 15} {s t : State}
    (h : execLostExpiry n s = .next t) : Does s t := by
  simp only [execLostExpiry] at h
  split at h <;> cases h
  · exact .age n _
  · exact .nothing

theorem execEntryDiscard_does {src : Nibble} {tag : Nibble} {s t : State}
    (h : execEntryDiscard src tag s = .next t) : Does s t := by
  simp only [execEntryDiscard] at h
  split at h
  · split at h <;> cases h
    · exact .entryOrphaned src tag
    · exact .entryDiscard src tag
  · cases h; exact .nothing

theorem execRepeatTimerExpiry_does {tag : Nibble} {s t : State}
    (h : execRepeatTimerExpiry tag s = .next t) : Does s t := by
  simp only [execRepeatTimerExpiry] at h
  split at h
  · next e he =>
    split at h <;> cases h
    · exact .repeatExpiry tag e he
    · exact .nothing
  · cases h; exact .nothing

theorem execSwitchLevelChange_does {i : Fin 8} {level : Bool} {s t : State}
    (h : execSwitchLevelChange i level s = .next t) : Does s t := by
  simp only [execSwitchLevelChange] at h
  split at h <;> cases h <;> exact .switch i _

theorem execSettlingTimerExpiry_does {i : Fin 8} {s t : State}
    (h : execSettlingTimerExpiry i s = .next t) : Does s t := by
  simp only [execSettlingTimerExpiry] at h
  split at h
  · split at h
    · split at h <;> cases h
      · exact .edge _ i _ _
      · exact .switch i _
    · cases h; exact .switch i _
  · cases h; exact .nothing

theorem execReportTimerExpiry_does {s t : State}
    (h : execReportTimerExpiry s = .next t) : Does s t := by
  simp only [execReportTimerExpiry] at h
  split at h <;> cases h
  · exact .reportTimer
  · exact .nothing

theorem execFrameArrival_does {bits : List Bool} {s t : State}
    (h : execFrameArrival bits s = .next t) : Does s t := by
  simp only [execFrameArrival] at h
  split at h
  · cases h; exact .nothing
  · next hon =>
    have on : s.start.station ≠ .loading := by
      push Not at hon
      simpa [receiverOn] using hon.1
    split at h <;> cases h
    · exact .checkError
    · exact .frame _ on

theorem execBabbleGuardCutoff_does {s t : State}
    (h : execBabbleGuardCutoff s = .next t) : Does s t := by
  simp only [execBabbleGuardCutoff] at h
  split at h <;> cases h
  · next hd => exact .cutOff hd
  · exact .nothing

theorem execReportArrival_does {s t : State}
    (h : execReportArrival s = .next t) : Does s t := by
  simp only [execReportArrival] at h
  split at h
  · cases h; exact .nothing
  · next f hf =>
    split at h <;> cases h
    · next hn _ => exact .report f _ _ _ (frontOf_mem hf) hn
    · exact .popRx

theorem execAlertArrival_does {s t : State}
    (h : execAlertArrival s = .next t) : Does s t := by
  simp only [execAlertArrival] at h
  split at h
  · cases h; exact .nothing
  · split at h <;> cases h
    · exact .alert _ _
    · exact .popRx

theorem execAnswerArrival_does {s t : State}
    (h : execAnswerArrival s = .next t) : Does s t := by
  simp only [execAnswerArrival] at h
  split at h
  · cases h; exact .nothing
  · split at h <;> cases h
    · exact .popRx
    · exact .answer _

theorem execLineIdle_does {rival : Option Frame} {s t : State}
    (h : execLineIdle rival s = .next t) : Does s t := by
  simp only [execLineIdle] at h
  split at h
  · cases h; exact .nothing
  · split at h
    · cases h; exact .nothing
    · split at h <;> cases h
      · exact .offer _ _
      · exact .lost

theorem execFrameSent_does {s t : State}
    (h : execFrameSent s = .next t) : Does s t := by
  simp only [execFrameSent] at h
  split at h <;> cases h
  · exact .nothing
  · next x hx => exact .frameSent x hx

/-- What a command can do: it answers one of these states. -/
theorem exec_does {c : Instr} {s t : State} (h : exec c s = .next t) : Does s t := by
  cases c with
  | coldReset => cases h; exact .coldReset
  | resetRelease _ => exact execResetRelease_does h
  | loadCompletion _ _ _ _ => exact execLoadCompletion_does h
  | joinTimerExpiry => exact execJoinTimerExpiry_does h
  | drvControlPeriod _ => exact execDrvControlPeriod_does h
  | armControlPeriod _ _ => exact execArmControlPeriod_does h
  | wtrControlPeriod _ _ => exact execWtrControlPeriod_does h
  | bucketClose => exact execBucketClose_does h
  | speedEdge _ _ _ => exact execSpeedEdge_does h
  | engineEdge => exact execEngineEdge_does h
  | parkTimerExpiry => exact execParkTimerExpiry_does h
  | dwellTimerExpiry => exact execDwellTimerExpiry_does h
  | speedSilenceExpiry => exact execSpeedSilenceExpiry_does h
  | engineSilenceExpiry => exact execEngineSilenceExpiry_does h
  | moveTimerExpiry _ => exact execMoveTimerExpiry_does h
  | blindTimerExpiry _ => exact execBlindTimerExpiry_does h
  | primeTimerExpiry => exact execPrimeTimerExpiry_does h
  | lossTimerExpiry => exact execLossTimerExpiry_does h
  | dryWaitExpiry => exact execDryWaitExpiry_does h
  | patternTimerExpiry => exact execPatternTimerExpiry_does h
  | staleExpiry _ => exact execStaleExpiry_does h
  | lostExpiry _ => exact execLostExpiry_does h
  | entryDiscard _ _ => exact execEntryDiscard_does h
  | repeatTimerExpiry _ => exact execRepeatTimerExpiry_does h
  | switchLevelChange _ _ => exact execSwitchLevelChange_does h
  | settlingTimerExpiry _ => exact execSettlingTimerExpiry_does h
  | reportTimerExpiry => exact execReportTimerExpiry_does h
  | frameArrival _ => exact execFrameArrival_does h
  | babbleGuardCutoff => exact execBabbleGuardCutoff_does h
  | reportArrival => exact execReportArrival_does h
  | alertArrival => exact execAlertArrival_does h
  | answerArrival => exact execAnswerArrival_does h
  | setMode => cases h; exact serve_does fun _ => actSetMode_acts
  | armMove => cases h; exact serve_does fun _ => actArmMove_acts
  | waterSet => cases h; exact serve_does fun _ _ => actWaterSet_acts _ _
  | trimSet => cases h; exact serve_does fun _ _ => actTrimSet_acts _ _
  | faultClear => cases h; exact serve_does fun _ _ => actFaultClear_acts _ _
  | query => cases h; exact serve_does fun _ _ => actQuery_state _ _ ▸ .nothing
  | restart straps => exact execRestart_does h
  | unknownRequestKind => cases h; exact serve_does fun _ _ => .nothing
  | lineIdle _ => exact execLineIdle_does h
  | frameSent => exact execFrameSent_does h

/-- A property that holds of the queue's rest, of one millisecond and of every effect of a command is kept by every
step. -/
theorem step_keeps {P : State → Prop} (rest : ∀ s x, P s → P (s.withPending x))
    (millisecond : ∀ s, P s → P (elapse s)) (command : ∀ s t, P s → Does s t → P t) :
    ∀ s t : State, P s → step s = .next t → P t := by
  intro s t hs h
  unfold step at h
  split at h
  · cases h
    exact rest _ _ (millisecond s hs)
  · exact command _ t (rest _ _ hs) (exec_does h)

end Sys2Proof.Machine
end

section
/-! SUPPORT. The parts each shared operation leaves unchanged: one lemma per operation, stated with `KeepsAllBut`. -/

namespace Sys2Proof.Machine

-- One thread elaborates this section, so that the check's memory limit holds the stacks.
set_option Elab.async false

/-! ### Reading a frame -/

namespace KeepsAllBut

variable {l l' : List Part} {s t u : State}

theorem refl (l : List Part) (s : State) : KeepsAllBut l s s := by
  intro p _
  cases p <;> rfl

theorem mono (h : KeepsAllBut l s t) (sub : l ⊆ l' := by decide) : KeepsAllBut l' s t :=
  fun p hp => h p fun hl => hp (sub hl)

theorem trans (h : KeepsAllBut l s t) (h' : KeepsAllBut l t u) : KeepsAllBut l s u := by
  intro p hp
  have h1 := h p hp
  have h2 := h' p hp
  cases p <;> exact h2.trans h1

theorem pending (h : KeepsAllBut l s t) (hp : Part.pending ∉ l := by decide) : t.pending = s.pending := h _ hp
theorem free (h : KeepsAllBut l s t) (hp : Part.free ∉ l := by decide) : t.free = s.free := h _ hp
theorem pins (h : KeepsAllBut l s t) (hp : Part.pins ∉ l := by decide) : t.pins = s.pins := h _ hp
theorem start (h : KeepsAllBut l s t) (hp : Part.start ∉ l := by decide) : t.start = s.start := h _ hp
theorem line (h : KeepsAllBut l s t) (hp : Part.line ∉ l := by decide) : t.line = s.line := h _ hp
theorem peers (h : KeepsAllBut l s t) (hp : Part.peers ∉ l := by decide) : t.peers = s.peers := h _ hp
theorem req (h : KeepsAllBut l s t) (hp : Part.req ∉ l := by decide) : t.req = s.req := h _ hp
theorem sp (h : KeepsAllBut l s t) (hp : Part.sp ∉ l := by decide) : t.sp = s.sp := h _ hp
theorem drive (h : KeepsAllBut l s t) (hp : Part.drive ∉ l := by decide) : t.drive = s.drive := h _ hp
theorem arm1 (h : KeepsAllBut l s t) (hp : Part.arm1 ∉ l := by decide) : t.arm1 = s.arm1 := h _ hp
theorem arm2 (h : KeepsAllBut l s t) (hp : Part.arm2 ∉ l := by decide) : t.arm2 = s.arm2 := h _ hp
theorem water (h : KeepsAllBut l s t) (hp : Part.water ∉ l := by decide) : t.water = s.water := h _ hp
theorem faults (h : KeepsAllBut l s t) (hp : Part.faults ∉ l := by decide) : t.faults = s.faults := h _ hp

theorem arm (h : KeepsAllBut l s t) (n : ArmId) (hp : armPart n ∉ l) : t.arm n = s.arm n := by
  cases n
  · exact h.arm1 hp
  · exact h.arm2 hp

end KeepsAllBut

/-! ### Updates of one block -/

theorem State.withPending_keeps (s : State) (x : List Instr) : KeepsAllBut [.pending] s (s.withPending x) := by
  intro p hp
  cases p <;> first | rfl | simp at hp

theorem State.withFree_keeps (s : State) (x : Nat) : KeepsAllBut [.free] s (s.withFree x) := by
  intro p hp
  cases p <;> first | rfl | simp at hp

theorem State.withPins_keeps (s : State) (x : Pins) : KeepsAllBut [.pins] s (s.withPins x) := by
  intro p hp
  cases p <;> first | rfl | simp at hp

theorem State.withStart_keeps (s : State) (x : StartUnit) : KeepsAllBut [.start] s (s.withStart x) := by
  intro p hp
  cases p <;> first | rfl | simp at hp

theorem State.withLine_keeps (s : State) (x : LinePort) : KeepsAllBut [.line] s (s.withLine x) := by
  intro p hp
  cases p <;> first | rfl | simp at hp

theorem State.withPeers_keeps (s : State) (x : Vector (Option PeerEntry) 15) : KeepsAllBut [.peers] s (s.withPeers x) := by
  intro p hp
  cases p <;> first | rfl | simp at hp

theorem State.withReq_keeps (s : State) (x : RequestUnit) : KeepsAllBut [.req] s (s.withReq x) := by
  intro p hp
  cases p <;> first | rfl | simp at hp

theorem State.withSp_keeps (s : State) (x : Setpoint) : KeepsAllBut [.sp] s (s.withSp x) := by
  intro p hp
  cases p <;> first | rfl | simp at hp

theorem State.withDrive_keeps (s : State) (x : Drive) : KeepsAllBut [.drive] s (s.withDrive x) := by
  intro p hp
  cases p <;> first | rfl | simp at hp

theorem State.withWater_keeps (s : State) (x : Water) : KeepsAllBut [.water] s (s.withWater x) := by
  intro p hp
  cases p <;> first | rfl | simp at hp

theorem State.withFaults_keeps (s : State) (x : Faults) : KeepsAllBut [.faults] s (s.withFaults x) := by
  intro p hp
  cases p <;> first | rfl | simp at hp

theorem State.withArm_keeps (s : State) (n : ArmId) (a : Arm) : KeepsAllBut [armPart n] s (s.withArm n a) := by
  intro p hp
  cases n <;> cases p <;> first | rfl | simp [armPart] at hp

theorem State.withBrush_keeps (s : State) (n : ArmId) (x : BlendSite) : KeepsAllBut [.sp] s (s.withBrush n x) := by
  intro p hp
  cases n <;> cases p <;> first | rfl | simp at hp

/-! ### The fault unit -/

theorem setSticky_keeps (k : FaultKind) (s : State) : KeepsAllBut [.line, .faults] s (setSticky k s) := by
  intro p hp
  cases p <;> simp_all [Same]

theorem handOver_keeps (k : FaultKind) (present : Bool) (s : State) :
    KeepsAllBut [.line, .faults] s (handOver k present s) := by
  intro p hp
  cases p <;> simp_all [Same]

theorem handOverStall_keeps (n : ArmId) (present : Bool) (s : State) :
    KeepsAllBut [.line, .faults] s (handOverStall n present s) := by
  intro p hp
  cases p <;> simp_all [Same]

theorem raiseOnce_keeps (k : FaultKind) (s : State) : KeepsAllBut [.line, .faults] s (raiseOnce k s) :=
  setSticky_keeps k s

theorem makeDue_keeps (s : State) : KeepsAllBut [.line] s (makeDue s) := by
  intro p hp
  cases p <;> simp_all [Same]

theorem testInherited_keeps (s : State) : KeepsAllBut [.line, .faults] s (testInherited s) := by
  intro p hp
  cases p <;> simp_all [Same]

theorem dropInherited_keeps (s : State) : KeepsAllBut [.faults] s (dropInherited s) := by
  intro p hp
  cases p <;> simp_all [Same]

/-! ### Arms -/

theorem endOperations_keeps (n : ArmId) (s : State) : KeepsAllBut [.req] s (endOperations n s) := by
  intro p hp
  cases p <;> simp_all [Same]

theorem stopBrush_keeps (n : ArmId) (s : State) : KeepsAllBut [.sp, armPart n] s (stopBrush n s) := by
  unfold stopBrush
  exact ((State.withArm_keeps s n _).mono (by simp)).trans ((State.withBrush_keeps _ n _).mono (by simp))

theorem enterArm_keeps (n : ArmId) (st : ArmState) (r : Bool) (s : State) :
    KeepsAllBut [.line, .req, .sp, armPart n] s (enterArm n st r s) := by
  have henter := (State.withArm_keeps s n ((s.arm n).entered st r)).mono
    (l' := [.line, .req, .sp, armPart n]) (by simp)
  have hends : ∀ u, KeepsAllBut [.line, .req, .sp, armPart n] u (endOperations n u) :=
    fun u => (endOperations_keeps n u).mono (by simp)
  have hdue : ∀ u, KeepsAllBut [.line, .req, .sp, armPart n] u (makeDue u) :=
    fun u => (makeDue_keeps u).mono (by simp)
  unfold enterArm
  simp only
  split
  · exact henter.trans (hends _)
  · split
    · exact ((henter.trans ((stopBrush_keeps n _).mono (by simp))).trans (hdue _)).trans (hends _)
    · exact (henter.trans (hdue _)).trans (hends _)

/-- A stow demand does nothing, or enters LIFTING or STOWED with the resume flag clear (R79). -/
theorem stowDemand_cases (n : ArmId) (s : State) :
    stowDemand n s = s ∨ stowDemand n s = enterArm n .lifting false s
      ∨ ((s.arm n).state = .reverseLifted ∧ stowDemand n s = enterArm n .stowed false s) := by
  unfold stowDemand
  split
  case h_5 h => exact .inr (.inr ⟨h, rfl⟩)
  case h_6 h => split <;> simp
  all_goals simp

theorem stowDemand_keeps (n : ArmId) (s : State) :
    KeepsAllBut [.line, .req, .sp, armPart n] s (stowDemand n s) := by
  rcases stowDemand_cases n s with h | h | ⟨_, h⟩ <;> rw [h]
  · exact .refl _ _
  all_goals exact enterArm_keeps _ _ _ _

/-- Entry to SILENCED leaves an arm alone, holds it, or stows it out of REVERSE_LIFTED (R80). -/
theorem silenceArm_cases (n : ArmId) (s : State) :
    silenceArm n s = s ∨ silenceArm n s = enterArm n .held false s
      ∨ ((s.arm n).state = .reverseLifted ∧ silenceArm n s = enterArm n .stowed false s) := by
  unfold silenceArm
  split
  case h_4 h => exact .inr (.inr ⟨h, rfl⟩)
  all_goals simp

theorem silenceArm_keeps (n : ArmId) (s : State) :
    KeepsAllBut [.line, .req, .sp, armPart n] s (silenceArm n s) := by
  rcases silenceArm_cases n s with h | h | ⟨_, h⟩ <;> rw [h]
  · exact .refl _ _
  all_goals exact enterArm_keeps _ _ _ _

/-- What both arms' turns keep, an operation on the arms keeps. -/
theorem forArms_keeps {f : ArmId → State → State} (hf : ∀ n s, KeepsAllBut [.line, .req, .sp, armPart n] s (f n s))
    (s : State) : KeepsAllBut [.line, .req, .sp, .arm1, .arm2] s (forArms f s) := by
  have h1 : ∀ u, KeepsAllBut [.line, .req, .sp, .arm1, .arm2] u (f .one u) :=
    fun u => (hf .one u).mono (by decide)
  have h2 : ∀ u, KeepsAllBut [.line, .req, .sp, .arm1, .arm2] u (f .two u) :=
    fun u => (hf .two u).mono (by decide)
  unfold forArms
  simp only
  split_ifs
  · exact (h1 _).trans (h2 _)
  · exact h2 _
  · exact h1 _
  · exact .refl _ _

/-! ### The water channel -/

theorem quietWater_keeps (s : State) : KeepsAllBut [.sp, .water] s (quietWater s) := by
  intro p hp
  cases p <;> simp_all [Same]

theorem enterWater_keeps (st : WaterState) (s : State) : KeepsAllBut [.line, .water] s (enterWater st s) := by
  intro p hp
  cases p <;> simp_all [Same]

theorem waterOff_keeps (s : State) : KeepsAllBut [.line, .sp, .water] s (waterOff s) :=
  ((quietWater_keeps s).mono).trans ((enterWater_keeps _ _).mono)

theorem stopWater_keeps (s : State) : KeepsAllBut [.line, .sp, .water] s (stopWater s) := by
  unfold stopWater
  split
  · exact waterOff_keeps s
  · exact .refl _ _

theorem waterModeChange_keeps (m : Mode) (s : State) :
    KeepsAllBut [.line, .sp, .water] s (waterModeChange m s) := by
  unfold waterModeChange
  simp only
  split_ifs
  · exact ((s.withWater_keeps _).mono)
  · exact ((s.withWater_keeps _).mono).trans (stopWater_keeps _)
  · exact .refl _ _

/-! ### The mode -/

theorem changeMode_keeps (m : Mode) (s : State) :
    KeepsAllBut [.start, .line, .req, .sp, .arm1, .arm2, .water] s (changeMode m s) := by
  have hswitch : KeepsAllBut [.start, .line, .req, .sp, .arm1, .arm2, .water] s
      ((s.withStart { s.start with mode := m }).withSp (bankSwitch s.sp)) :=
    ((s.withStart_keeps _).mono).trans ((State.withSp_keeps _ _).mono)
  have hstow : ∀ u, KeepsAllBut [.start, .line, .req, .sp, .arm1, .arm2, .water] u
      (if stowsArms m then forArms stowDemand u else u) := by
    intro u
    split
    · exact (forArms_keeps stowDemand_keeps u).mono
    · exact .refl _ _
  exact ((hswitch.trans (hstow _)).trans ((waterModeChange_keeps m _).mono)).trans ((makeDue_keeps _).mono)

theorem takeMode_keeps (m : Mode) (s : State) :
    KeepsAllBut [.start, .line, .req, .sp, .arm1, .arm2, .water] s (takeMode m s) := by
  unfold takeMode
  split
  · exact .refl _ _
  · exact changeMode_keeps m s

theorem demandTransport_keeps (s : State) :
    KeepsAllBut [.start, .line, .req, .sp, .arm1, .arm2, .water] s (demandTransport s) := by
  unfold demandTransport
  split
  · exact (forArms_keeps stowDemand_keeps s).mono
  · exact changeMode_keeps _ s

/-- An ARM_MOVE leaves the arm alone or enters LOWERING, LIFTING or, out of REVERSE_LIFTED, STOWED (R74, R75). -/
theorem armToTarget_cases (n : ArmId) (target : Target) (s : State) :
    armToTarget n target s = s
      ∨ (target = .work ∧ armToTarget n target s = enterArm n .lowering false s)
      ∨ (target = .stow ∧ armToTarget n target s = enterArm n .lifting false s)
      ∨ ((s.arm n).state = .reverseLifted ∧ target = .stow ∧ armToTarget n target s = enterArm n .stowed false s) := by
  cases target
  · unfold armToTarget armToStow
    simp only
    split <;> simp_all
  · unfold armToTarget armToWork
    simp only
    split <;> simp_all

theorem armToTarget_keeps (n : ArmId) (target : Target) (s : State) :
    KeepsAllBut [.line, .req, .sp, armPart n] s (armToTarget n target s) := by
  rcases armToTarget_cases n target s with h | ⟨_, h⟩ | ⟨_, h⟩ | ⟨_, _, h⟩ <;> rw [h]
  · exact .refl _ _
  all_goals exact enterArm_keeps _ _ _ _

/-! ### The request unit and the line port -/

theorem supersede_keeps (src : Nibble) (c : Claims) (s : State) : KeepsAllBut [.req] s (supersede src c s) := by
  intro p hp
  cases p <;> simp_all [Same]

theorem makeEntry_keeps (r : Request) (o : Operation) (c : Claims) (s : State) :
    KeepsAllBut [.req] s (makeEntry r o c s) := by
  intro p hp
  cases p <;> simp_all [Same]

theorem refreshEntry_keeps (src tag : Nibble) (s : State) : KeepsAllBut [.req] s (refreshEntry src tag s) := by
  intro p hp
  cases p <;> simp_all [Same]

theorem freeEntry_keeps (src tag : Nibble) (s : State) : KeepsAllBut [.req] s (freeEntry src tag s) := by
  intro p hp
  cases p <;> simp_all [Same]

theorem queueAnswer_keeps (d t k : Nibble) (r : Result) (v : Word) (x : Bool) (s : State) :
    KeepsAllBut [.line] s (queueAnswer d t k r v x s) := by
  intro p hp
  cases p <;> simp_all [Same]

theorem popRx_keeps (s : State) : KeepsAllBut [.line] s (popRx s) := by
  intro p hp
  cases p <;> simp_all [Same]

theorem withdrawFrame_keeps (tag : Nibble) (s : State) : KeepsAllBut [.line] s (withdrawFrame tag s) := by
  intro p hp
  cases p <;> simp_all [Same]

theorem mapOutgoing_keeps (tag : Nibble) (f : OutgoingEntry → OutgoingEntry) (s : State) :
    KeepsAllBut [.req] s (mapOutgoing tag f s) := by
  intro p hp
  cases p <;> simp_all [Same]

theorem removeOutgoing_keeps (tag : Nibble) (s : State) : KeepsAllBut [.line, .req] s (removeOutgoing tag s) := by
  intro p hp
  cases p <;> simp_all [Same]

theorem requeue_keeps (e : OutgoingEntry) (s : State) : KeepsAllBut [.line, .req] s (requeue e s) := by
  intro p hp
  cases p <;> simp_all [Same]

theorem giveUp_keeps (tag : Nibble) (s : State) : KeepsAllBut [.line, .req, .faults] s (giveUp tag s) :=
  ((removeOutgoing_keeps tag s).mono).trans ((raiseOnce_keeps _ _).mono)

theorem backOffOrGiveUp_keeps (e : OutgoingEntry) (s : State) :
    KeepsAllBut [.line, .req, .faults] s (backOffOrGiveUp e s) := by
  unfold backOffOrGiveUp
  split
  · exact giveUp_keeps _ s
  · exact (mapOutgoing_keeps _ _ s).mono

theorem answered_keeps (code : Nat) (e : OutgoingEntry) (s : State) :
    KeepsAllBut [.line, .req, .faults] s (answered code e s) := by
  unfold answered
  split_ifs
  · exact .refl _ _
  · exact (mapOutgoing_keeps _ _ s).mono
  · exact .refl _ _
  · exact backOffOrGiveUp_keeps e s
  · exact (removeOutgoing_keeps _ s).mono

theorem takeAnswer_keeps (f : Frame) (s : State) : KeepsAllBut [.line, .req, .faults] s (takeAnswer f s) := by
  unfold takeAnswer
  split
  · exact answered_keeps _ _ s
  · exact (State.withLine_keeps s _).mono

theorem repeatExpired_keeps (e : OutgoingEntry) (s : State) :
    KeepsAllBut [.line, .req, .faults] s (repeatExpired e s) := by
  unfold repeatExpired
  split
  · split
    · exact giveUp_keeps _ s
    · exact ((mapOutgoing_keeps _ _ s).mono).trans ((requeue_keeps _ _).mono)
  · exact (requeue_keeps _ s).mono
  · exact .refl _ _

/-- Removing a list of tags keeps what one removal keeps. -/
theorem removeAll_keeps (tags : List Nibble) (s : State) :
    KeepsAllBut [.line, .req] s (tags.foldl (fun t tag => removeOutgoing tag t) s) := by
  induction tags generalizing s with
  | nil => exact .refl _ _
  | cons tag tags ih => exact (removeOutgoing_keeps tag s).trans (ih _)

theorem makeOutgoing_keeps (b : StartBlock) (i : Fin 8) (onEdge : Bool) (x : SwitchSlot) (s : State) :
    KeepsAllBut [.line, .req] s (makeOutgoing b i onEdge x s) :=
  ((State.withReq_keeps s _).mono).trans ((State.withLine_keeps _ _).mono)

theorem serveSlot_keeps (b : StartBlock) (i : Fin 8) (onEdge : Bool) (made : List Nibble)
    (slot : Option SwitchSlot) (s : State) : KeepsAllBut [.line, .req, .faults] s (serveSlot b i onEdge made slot s) := by
  cases slot with
  | none => exact .refl _ _
  | some x =>
    have hremove : KeepsAllBut [.line, .req, .faults] s (removeEarlier i x.dest made s) :=
      (removeAll_keeps _ s).mono
    simp only [serveSlot]
    split
    · exact hremove.trans ((raiseOnce_keeps _ _).mono)
    · exact hremove.trans ((makeOutgoing_keeps _ _ _ _ _).mono)

theorem switchEdge_keeps (b : StartBlock) (i : Fin 8) (onEdge : Bool) (s : State) :
    KeepsAllBut [.line, .req, .faults] s (switchEdge b i onEdge s) :=
  (serveSlot_keeps _ _ _ _ _ s).trans (serveSlot_keeps _ _ _ _ _ _)

/-! ### SILENCED and the cut-off -/

theorem enterSilenced_keeps (s : State) :
    KeepsAllBut [.start, .line, .req, .sp, .arm1, .arm2, .water, .faults] s (enterSilenced s) :=
  (((((raiseOnce_keeps .lineFault s).mono).trans ((State.withStart_keeps _ _).mono)).trans
    ((State.withLine_keeps _ _).mono)).trans ((forArms_keeps silenceArm_keeps _).mono)).trans
      ((stopWater_keeps _).mono)

theorem queueFrame_keeps (f : Frame) (s : State) : KeepsAllBut [.line] s (queueFrame f s) := by
  unfold queueFrame
  split <;> exact State.withLine_keeps s _

theorem sortFrame_keeps (f : Frame) (s : State) :
    KeepsAllBut [.start, .line, .req, .sp, .arm1, .arm2, .water, .faults] s (sortFrame f s) := by
  unfold sortFrame duplicateStation
  split_ifs
  · exact enterSilenced_keeps s
  · exact .refl _ _
  · exact (queueFrame_keeps f s).mono
  · exact .refl _ _

theorem cutOff_keeps (s : State) :
    KeepsAllBut [.start, .line, .req, .sp, .arm1, .arm2, .water, .faults] s (cutOff s) := by
  have hlose : ∀ x, KeepsAllBut [.start, .line, .req, .sp, .arm1, .arm2, .water, .faults] s (s.withLine x) :=
    fun x => (State.withLine_keeps s x).mono
  unfold cutOff
  simp only
  split
  · exact (hlose _).trans (enterSilenced_keeps _)
  · exact (hlose _).trans (enterSilenced_keeps _)
  · exact ((hlose _).trans ((State.withLine_keeps _ _).mono)).trans ((raiseOnce_keeps _ _).mono)
  · exact hlose _
  · exact hlose _

/-! ### The peer table -/

theorem State.withPeer_keeps (s : State) (n : Fin 15) (e : Option PeerEntry) :
    KeepsAllBut [.peers] s (s.withPeer n e) := State.withPeers_keeps s _

theorem acceptReport_keeps (n : Fin 15) (seq : Byte) (v : ReportValues) (last : Option FaultKind) (s : State) :
    KeepsAllBut [.line, .peers, .faults] s (acceptReport n seq v last s) :=
  ((State.withPeer_keeps s n _).mono).trans ((testInherited_keeps _).mono)

theorem takeReport_keeps (n : Fin 15) (seq : Byte) (v : ReportValues) (s : State) :
    KeepsAllBut [.line, .peers, .faults] s (takeReport n seq v s) := by
  unfold takeReport
  split
  · exact acceptReport_keeps _ _ _ _ s
  · split_ifs
    · exact acceptReport_keeps _ _ _ _ s
    · exact (State.withLine_keeps s _).mono
    · exact acceptReport_keeps _ _ _ _ s
    · exact ((State.withLine_keeps s _).mono).trans (acceptReport_keeps _ _ _ _ _)

theorem takeAlert_keeps (n : Fin 15) (k : FaultKind) (s : State) :
    KeepsAllBut [.line, .peers, .faults] s (takeAlert n k s) := by
  unfold takeAlert
  split
  · exact .refl _ _
  · exact ((State.withPeer_keeps s n _).mono).trans ((testInherited_keeps _).mono)

theorem markEntry_keeps (n : Fin 15) (st : EntryState) (s : State) :
    KeepsAllBut [.line, .peers, .faults] s (markEntry n st s) := by
  unfold markEntry
  split
  · exact ((State.withPeer_keeps s n _).mono).trans ((testInherited_keeps _).mono)
  · exact .refl _ _

/-! ### Start, load and join -/

theorem enterRunning_keeps (s : State) : KeepsAllBut [.start, .line, .faults] s (enterRunning s) :=
  ((((State.withStart_keeps s _).mono).trans ((State.withLine_keeps _ _).mono)).trans
    ((makeDue_keeps _).mono)).trans ((testInherited_keeps _).mono)

theorem failStart_keeps (s : State) : KeepsAllBut [.start, .line, .faults] s (failStart s) :=
  (((State.withStart_keeps s _).mono).trans ((State.withLine_keeps _ _).mono)).trans ((handOver_keeps _ _ _).mono)

theorem setPositionPin_keeps (n : ArmId) (raw : Raw) (s : State) :
    KeepsAllBut [.pins] s (setPositionPin n raw s) := by
  cases n <;> exact State.withPins_keeps s _

theorem firstPosition_keeps (b : StartBlock) (n : ArmId) (raw : Raw) (s : State) :
    KeepsAllBut [.pins, .line, .req, .sp, armPart n, .faults] s (firstPosition b n raw s) := by
  have hpin := (setPositionPin_keeps n raw s).mono (l' := [.pins, .line, .req, .sp, armPart n, .faults]) (by simp)
  have harm : ∀ u a, KeepsAllBut [.pins, .line, .req, .sp, armPart n, .faults] u (u.withArm n a) :=
    fun u a => (State.withArm_keeps u n a).mono (by simp)
  unfold firstPosition
  simp only
  split_ifs
  · exact (hpin.trans (harm _ _)).trans ((enterArm_keeps _ _ _ _).mono (by simp))
  · exact hpin.trans (harm _ _)
  · exact (hpin.trans (harm _ _)).trans ((handOver_keeps _ _ _).mono (by simp))
  · exact hpin

/-! ### The arm period -/

theorem readPosition_keeps (n : ArmId) (s : State) :
    KeepsAllBut [.line, armPart n, .faults] s (readPosition n s) :=
  (((State.withArm_keeps s n _).mono (by simp)).trans ((handOverStall_keeps _ _ _).mono (by simp))).trans
    ((handOver_keeps _ _ _).mono (by simp))

/-- The tests of step 2 and 3 leave the arm alone or enter a state. -/
theorem positionFaultMove_keeps (n : ArmId) (s : State) :
    KeepsAllBut [.line, .req, .sp, armPart n] s (positionFaultMove n s) := by
  unfold positionFaultMove
  split
  · exact enterArm_keeps _ _ _ _
  · exact .refl _ _

theorem arrivalTest_cases (b : StartBlock) (n : ArmId) (s : State) :
    arrivalTest b n s = s
      ∨ ((s.arm n).state = .lowering ∧ arrivalTest b n s = enterArm n .working false s)
      ∨ ((s.arm n).state = .lifting ∧ arrivalTest b n s = enterArm n .reverseLifted true s)
      ∨ ((s.arm n).state = .lifting ∧ arrivalTest b n s = enterArm n .stowed false s) := by
  unfold arrivalTest
  simp only
  split
  · exact .inl rfl
  · split
    case h_1 h => split <;> simp_all
    case h_2 h =>
      split
      · split <;> simp_all
      · exact .inl rfl
    all_goals exact .inl rfl

theorem reverseLiftTest_cases (b : StartBlock) (n : ArmId) (s : State) :
    reverseLiftTest b n s = s
      ∨ (((s.arm n).state = .lowering ∨ (s.arm n).state = .working)
        ∧ reverseLiftTest b n s = enterArm n .lifting true s) := by
  unfold reverseLiftTest
  split
  · next h => exact .inr ⟨h.1, rfl⟩
  · exact .inl rfl

theorem resumeTest_cases (b : StartBlock) (n : ArmId) (stood : ArmState) (s : State) :
    resumeTest b n stood s = s
      ∨ ((s.arm n).state = .reverseLifted ∧ lowerAllowed b n s = true
        ∧ resumeTest b n stood s = enterArm n .lowering false s) := by
  unfold resumeTest
  simp only
  split
  · next h => exact .inr ⟨h.2.1, h.2.2.2.2, rfl⟩
  · exact .inl rfl

/-- The blind test leaves the arm alone, ends blind running, or sets the blind timer of a WORKING arm (R83, R84). -/
theorem blindTest_cases (b : StartBlock) (n : ArmId) (s : State) :
    blindTest b n s = s
      ∨ ((s.arm n).state = .working ∧ blindTest b n s = blindExpired n s)
      ∨ ((s.arm n).state = .working ∧ ∃ timer, blindTest b n s = s.withArm n { s.arm n with blindTimer := timer }) := by
  unfold blindTest
  simp only
  split_ifs with hw hq ht hz
  · exact .inl rfl
  · exact .inl rfl
  · exact .inr (.inl ⟨by simpa using hw, rfl⟩)
  · exact .inr (.inr ⟨by simpa using hw, _, rfl⟩)
  · exact .inr (.inr ⟨by simpa using hw, _, rfl⟩)

theorem arrivalTest_keeps (b : StartBlock) (n : ArmId) (s : State) :
    KeepsAllBut [.line, .req, .sp, armPart n] s (arrivalTest b n s) := by
  rcases arrivalTest_cases b n s with h | ⟨_, h⟩ | ⟨_, h⟩ | ⟨_, h⟩ <;> rw [h]
  · exact .refl _ _
  all_goals exact enterArm_keeps _ _ _ _

theorem reverseLiftTest_keeps (b : StartBlock) (n : ArmId) (s : State) :
    KeepsAllBut [.line, .req, .sp, armPart n] s (reverseLiftTest b n s) := by
  rcases reverseLiftTest_cases b n s with h | ⟨_, h⟩ <;> rw [h]
  · exact .refl _ _
  · exact enterArm_keeps _ _ _ _

theorem resumeTest_keeps (b : StartBlock) (n : ArmId) (stood : ArmState) (s : State) :
    KeepsAllBut [.line, .req, .sp, armPart n] s (resumeTest b n stood s) := by
  rcases resumeTest_cases b n stood s with h | ⟨_, _, h⟩ <;> rw [h]
  · exact .refl _ _
  · exact enterArm_keeps _ _ _ _

theorem blindExpired_keeps (n : ArmId) (s : State) :
    KeepsAllBut [.line, .req, .sp, armPart n, .faults] s (blindExpired n s) := by
  have hlift := (enterArm_keeps n .lifting false s).mono (l' := [.line, .req, .sp, armPart n, .faults]) (by simp)
  unfold blindExpired
  simp only
  split
  · exact hlift
  · exact hlift.trans ((raiseOnce_keeps _ _).mono (by simp))

theorem blindTest_keeps (b : StartBlock) (n : ArmId) (s : State) :
    KeepsAllBut [.line, .req, .sp, armPart n, .faults] s (blindTest b n s) := by
  rcases blindTest_cases b n s with h | ⟨_, h⟩ | ⟨_, _, h⟩ <;> rw [h]
  · exact .refl _ _
  · exact blindExpired_keeps n s
  · exact (State.withArm_keeps s n _).mono (by simp)

theorem armTests_keeps (b : StartBlock) (n : ArmId) (s : State) :
    KeepsAllBut [.line, .req, .sp, armPart n, .faults] s (armTests b n s) :=
  ((((arrivalTest_keeps b n s).mono (by simp)).trans ((reverseLiftTest_keeps b n _).mono (by simp))).trans
    ((resumeTest_keeps b n _ _).mono (by simp))).trans (blindTest_keeps b n _)

theorem brushPeriod_keeps (b : StartBlock) (n : ArmId) (s : State) :
    KeepsAllBut [.sp, armPart n] s (brushPeriod b n s) := by
  have hsite : ∀ x, KeepsAllBut [.sp, armPart n] s (s.withBrush n x) :=
    fun x => (State.withBrush_keeps s n x).mono (by simp)
  unfold brushPeriod
  simp only
  split
  · exact (hsite _).trans ((State.withArm_keeps _ n _).mono (by simp))
  · exact (hsite _).trans ((State.withArm_keeps _ n _).mono (by simp))

theorem armPeriod_keeps (b : StartBlock) (n : ArmId) (s : State) :
    KeepsAllBut [.line, .req, .sp, armPart n, .faults] s (armPeriod b n s) :=
  ((((readPosition_keeps n s).mono (by simp)).trans ((positionFaultMove_keeps n _).mono (by simp))).trans
    (armTests_keeps b n _)).trans ((brushPeriod_keeps b n _).mono (by simp))

theorem stall_keeps (n : ArmId) (s : State) :
    KeepsAllBut [.line, .req, .sp, armPart n, .faults] s (stall n s) :=
  ((enterArm_keeps n .held false s).mono (by simp)).trans ((handOverStall_keeps n true _).mono (by simp))

/-! ### The water period -/

theorem readWaterInputs_keeps (b : StartBlock) (s : State) :
    KeepsAllBut [.line, .water, .faults] s (readWaterInputs b s) :=
  ((((State.withWater_keeps s _).mono).trans ((handOver_keeps _ _ _).mono)).trans
    ((handOver_keeps _ _ _).mono)).trans ((handOver_keeps _ _ _).mono)

theorem waterInputMove_keeps (s : State) : KeepsAllBut [.line, .sp, .water] s (waterInputMove s) := by
  unfold waterInputMove
  split
  · exact stopWater_keeps s
  · exact .refl _ _

theorem enterPriming_keeps (s : State) : KeepsAllBut [.line, .water] s (enterPriming s) :=
  ((State.withWater_keeps s _).mono).trans (enterWater_keeps _ _)

theorem State.withWaterSite_keeps (s : State) (x : BlendSite) : KeepsAllBut [.sp] s (s.withWaterSite x) :=
  State.withSp_keeps s _

theorem enterSpraying_keeps (b : StartBlock) (s : State) :
    KeepsAllBut [.line, .sp, .water] s (enterSpraying b s) :=
  (((State.withWater_keeps s _).mono).trans ((State.withWaterSite_keeps _ _).mono)).trans ((enterWater_keeps _ _).mono)

theorem lossTest_keeps (b : StartBlock) (s : State) : KeepsAllBut [.water] s (lossTest b s) := by
  unfold lossTest
  split_ifs
  · exact .refl _ _
  · exact State.withWater_keeps s _
  · exact State.withWater_keeps s _

/-- What step 3 of a water period can do (R93). -/
theorem waterTests_cases (b : StartBlock) (s : State) :
    waterTests b s = s
      ∨ (s.water.state = .off ∧ sprayConditions b s = true ∧ waterTests b s = enterPriming s)
      ∨ (s.water.state = .priming ∧ sprayConditions b s = true ∧ waterTests b s = enterSpraying b s)
      ∨ (s.water.state = .spraying ∧ sprayConditions b s = true ∧ waterTests b s = lossTest b s)
      ∨ (s.water.state.active = true ∧ waterTests b s = waterOff s) := by
  unfold waterTests
  split
  case h_1 h => split <;> simp_all
  case h_2 h =>
    split
    · split <;> simp_all
    · simp_all [WaterState.active]
  case h_3 h => split <;> simp_all [WaterState.active]
  case h_4 h => split <;> simp_all [WaterState.active]
  case h_5 h => exact .inl rfl

theorem waterTests_keeps (b : StartBlock) (s : State) :
    KeepsAllBut [.line, .sp, .water] s (waterTests b s) := by
  rcases waterTests_cases b s with h | ⟨_, _, h⟩ | ⟨_, _, h⟩ | ⟨_, _, h⟩ | ⟨_, h⟩ <;> rw [h]
  · exact .refl _ _
  · exact (enterPriming_keeps s).mono
  · exact enterSpraying_keeps b s
  · exact (lossTest_keeps b s).mono
  · exact waterOff_keeps s

theorem primeOutputs_keeps (b : StartBlock) (s : State) : KeepsAllBut [.water] s (primeOutputs b s) :=
  State.withWater_keeps s _

theorem waterOutputs_keeps (b : StartBlock) (s : State) : KeepsAllBut [.sp, .water] s (waterOutputs b s) := by
  unfold waterOutputs
  split
  · exact (primeOutputs_keeps b s).mono
  · exact ((State.withWaterSite_keeps s _).mono).trans ((State.withWater_keeps _ _).mono)
  all_goals exact (State.withWater_keeps s _).mono

theorem waterRecompute_keeps (b : StartBlock) (s : State) : KeepsAllBut [.sp] s (waterRecompute b s) :=
  State.withWaterSite_keeps s _

theorem waterPeriod_keeps (b : StartBlock) (s : State) :
    KeepsAllBut [.line, .sp, .water, .faults] s (waterPeriod b s) :=
  (((((readWaterInputs_keeps b s).mono).trans ((waterInputMove_keeps _).mono)).trans
    ((waterTests_keeps b _).mono)).trans ((waterOutputs_keeps b _).mono)).trans ((waterRecompute_keeps b _).mono)

theorem failedPrime_keeps (s : State) : KeepsAllBut [.line, .sp, .water, .faults] s (failedPrime s) := by
  have hquiet : ∀ w, KeepsAllBut [.line, .sp, .water, .faults] s ((quietWater s).withWater w) :=
    fun w => ((quietWater_keeps s).mono).trans ((State.withWater_keeps _ w).mono)
  unfold failedPrime
  simp only
  split
  · exact ((hquiet _).trans ((State.withWater_keeps _ _).mono)).trans ((enterWater_keeps _ _).mono)
  · exact ((hquiet _).trans ((enterWater_keeps _ _).mono)).trans ((handOver_keeps _ _ _).mono)

theorem dryWaitEnded_keeps (b : StartBlock) (s : State) :
    KeepsAllBut [.line, .sp, .water] s (dryWaitEnded b s) := by
  unfold dryWaitEnded
  split
  · exact ((enterPriming_keeps s).mono).trans ((primeOutputs_keeps b _).mono)
  · exact waterOff_keeps s

theorem writeEnable_keeps (on : Bool) (s : State) : KeepsAllBut [.line, .sp, .water] s (writeEnable on s) := by
  unfold writeEnable
  simp only
  split
  · exact (State.withWater_keeps s _).mono
  · exact ((State.withWater_keeps s _).mono).trans (stopWater_keeps _)

theorem releaseDry_keeps (mask : FaultSet) (s : State) : KeepsAllBut [.line, .sp, .water] s (releaseDry mask s) := by
  unfold releaseDry
  simp only
  split_ifs
  · exact ((State.withWater_keeps s _).mono).trans (waterOff_keeps _)
  · exact (State.withWater_keeps s _).mono
  · exact .refl _ _

theorem clearFaults_keeps (mask : FaultSet) (s : State) :
    KeepsAllBut [.line, .sp, .water, .faults] s (clearFaults mask s) :=
  ((State.withFaults_keeps s _).mono).trans ((releaseDry_keeps mask _).mono)

/-! ### The drive period -/

theorem restartSpeedSilence_keeps (s : State) :
    KeepsAllBut [.line, .drive, .faults] s (restartSpeedSilence s) :=
  ((State.withDrive_keeps s _).mono).trans ((handOver_keeps _ _ _).mono)

theorem readDriveInputs_keeps (b : StartBlock) (s : State) :
    KeepsAllBut [.line, .drive, .faults] s (readDriveInputs b s) := by
  have hover : ∀ k p u, KeepsAllBut [.line, .drive, .faults] u (handOver k p u) :=
    fun k p u => (handOver_keeps k p u).mono
  have hpressure : ∀ u : State, ∀ d, KeepsAllBut [.line, .drive, .faults] u
      (if pressureValid u then u.withDrive d else u) := by
    intro u d
    split
    · exact (State.withDrive_keeps u d).mono
    · exact .refl _ _
  exact (((((State.withDrive_keeps s _).mono).trans (hover _ _ _)).trans (hover _ _ _)).trans
    (hpressure _ _)).trans (hover _ _ _)

theorem tripTest_keeps (s : State) : KeepsAllBut [.sp, .drive] s (tripTest s) := by
  rcases tripTest_cases s with h | ⟨_, h⟩ <;> rw [h]
  · exact .refl _ _
  · exact ((State.withDrive_keeps s _).mono).trans ((State.withSp_keeps _ _).mono)

theorem driveTransition_keeps (b : StartBlock) (s : State) :
    KeepsAllBut [.sp, .drive] s (driveTransition b s) := by
  intro p hp
  cases p <;> simp_all [Same]

theorem driveChain_keeps (b : StartBlock) (s : State) : KeepsAllBut [.sp, .drive] s (driveChain b s) :=
  ((State.withSp_keeps s _).mono).trans ((State.withDrive_keeps _ _).mono)

theorem standTest_keeps (b : StartBlock) (stood : DriveState) (s : State) :
    KeepsAllBut [.drive] s (standTest b stood s) := by
  unfold standTest
  split
  · exact State.withDrive_keeps s _
  · exact .refl _ _

theorem updateTrim_keeps (b : StartBlock) (s : State) : KeepsAllBut [.drive] s (updateTrim b s) := by
  unfold updateTrim
  split
  · exact State.withDrive_keeps s _
  · exact .refl _ _

theorem quietPeriod_keeps (s : State) : KeepsAllBut [.line, .drive, .faults] s (quietPeriod s) := by
  unfold quietPeriod
  split
  · exact restartSpeedSilence_keeps s
  · exact .refl _ _

theorem drivePeriod_keeps (b : StartBlock) (s : State) :
    KeepsAllBut [.line, .sp, .drive, .faults] s (drivePeriod b s) :=
  (((((((readDriveInputs_keeps b s).mono).trans ((tripTest_keeps _).mono)).trans
    ((driveTransition_keeps b _).mono)).trans ((driveChain_keeps b _).mono)).trans
      ((standTest_keeps b _ _).mono)).trans ((updateTrim_keeps b _).mono)).trans ((quietPeriod_keeps _).mono)

/-! ### The setpoint sites an operation leaves -/

theorem stopBrush_sp (n : ArmId) (s : State) :
    (stopBrush n s).sp.drv = s.sp.drv ∧ (stopBrush n s).sp.wtr = s.sp.wtr := by
  cases n <;> exact ⟨rfl, rfl⟩

/-- Entering an arm state stops at most this arm's brush. -/
theorem enterArm_sp (n : ArmId) (st : ArmState) (r : Bool) (s : State) :
    (enterArm n st r s).sp.drv = s.sp.drv ∧ (enterArm n st r s).sp.wtr = s.sp.wtr := by
  simp only [enterArm]
  split_ifs <;> simp [stopBrush_sp]

@[simp] theorem enterArm_drv (n : ArmId) (st : ArmState) (r : Bool) (s : State) :
    (enterArm n st r s).sp.drv = s.sp.drv := (enterArm_sp n st r s).1

@[simp] theorem enterArm_wtr (n : ArmId) (st : ArmState) (r : Bool) (s : State) :
    (enterArm n st r s).sp.wtr = s.sp.wtr := (enterArm_sp n st r s).2

@[simp] theorem stowDemand_drv (n : ArmId) (s : State) : (stowDemand n s).sp.drv = s.sp.drv := by
  rcases stowDemand_cases n s with h | h | ⟨_, h⟩ <;> simp [h]

@[simp] theorem stowDemand_wtr (n : ArmId) (s : State) : (stowDemand n s).sp.wtr = s.sp.wtr := by
  rcases stowDemand_cases n s with h | h | ⟨_, h⟩ <;> simp [h]

@[simp] theorem silenceArm_drv (n : ArmId) (s : State) : (silenceArm n s).sp.drv = s.sp.drv := by
  rcases silenceArm_cases n s with h | h | ⟨_, h⟩ <;> simp [h]

@[simp] theorem silenceArm_wtr (n : ArmId) (s : State) : (silenceArm n s).sp.wtr = s.sp.wtr := by
  rcases silenceArm_cases n s with h | h | ⟨_, h⟩ <;> simp [h]

@[simp] theorem armToTarget_drv (n : ArmId) (x : Target) (s : State) : (armToTarget n x s).sp.drv = s.sp.drv := by
  rcases armToTarget_cases n x s with h | ⟨_, h⟩ | ⟨_, h⟩ | ⟨_, _, h⟩ <;> simp [h]

@[simp] theorem armToTarget_wtr (n : ArmId) (x : Target) (s : State) : (armToTarget n x s).sp.wtr = s.sp.wtr := by
  rcases armToTarget_cases n x s with h | ⟨_, h⟩ | ⟨_, h⟩ | ⟨_, _, h⟩ <;> simp [h]

@[simp] theorem waterOff_drv (s : State) : (waterOff s).sp.drv = s.sp.drv := by simp [waterOff, quietWater]

@[simp] theorem waterOff_brush (n : ArmId) (s : State) : (waterOff s).sp.brush n = s.sp.brush n := by
  cases n <;> simp [waterOff, quietWater, Setpoint.brush]

@[simp] theorem stopWater_drv (s : State) : (stopWater s).sp.drv = s.sp.drv := by
  unfold stopWater
  split <;> simp

@[simp] theorem stopWater_brush (n : ArmId) (s : State) : (stopWater s).sp.brush n = s.sp.brush n := by
  unfold stopWater
  split <;> simp

@[simp] theorem waterModeChange_drv (m : Mode) (s : State) : (waterModeChange m s).sp.drv = s.sp.drv := by
  simp only [waterModeChange]
  split_ifs <;> simp

@[simp] theorem waterModeChange_brush (m : Mode) (n : ArmId) (s : State) :
    (waterModeChange m s).sp.brush n = s.sp.brush n := by
  simp only [waterModeChange]
  split_ifs <;> simp

end Sys2Proof.Machine
end

section
/-! SUPPORT. The law of the drive along every step (R50 to R55, R63). -/

namespace Sys2Proof.Machine

-- One thread elaborates this section, so that the check's memory limit holds the stacks.
set_option Elab.async false

/-! ### What the law reads -/

/-- The law of the drive reads the drive channel and the DRV ramp output alone. -/
theorem DriveLaw.congr {s t : State} (h : DriveLaw s) (hdrive : t.drive = s.drive)
    (hout : t.sp.drv.ramp.out = s.sp.drv.ramp.out) : DriveLaw t := by
  unfold DriveLaw
  rw [hdrive, hout]
  exact h

/-- An operation that keeps the drive channel and the setpoint engine keeps the law. -/
theorem DriveLaw.of_keeps {l : List Part} {s t : State} (h : DriveLaw s) (keeps : KeepsAllBut l s t)
    (hdrive : Part.drive ∉ l := by decide) (hsp : Part.sp ∉ l := by decide) : DriveLaw t :=
  h.congr (keeps.drive hdrive) (by rw [keeps.sp hsp])

/-- An operation that keeps the drive channel and the DRV site keeps the law. -/
theorem DriveLaw.of_keeps_drv {l : List Part} {s t : State} (h : DriveLaw s) (keeps : KeepsAllBut l s t)
    (hdrv : t.sp.drv = s.sp.drv) (hdrive : Part.drive ∉ l := by decide) : DriveLaw t :=
  h.congr (keeps.drive hdrive) (by rw [hdrv])

/-- Fields the law does not read may change. -/
theorem DriveLaw.withDrive_of_eq {s : State} {x : Drive} (h : DriveLaw s) (hstate : x.state = s.drive.state)
    (hlast : x.lastDir = s.drive.lastDir) (hbrake : x.brakeApplied = s.drive.brakeApplied)
    (hpark : x.parkTimer.isSome = s.drive.parkTimer.isSome)
    (hdwell : x.dwellTimer.isSome = s.drive.dwellTimer.isSome) (hcommand : x.command = s.drive.command) :
    DriveLaw (s.withDrive x) := by
  have hnone : ∀ {a b : Timer}, a.isSome = b.isSome → (a = none ↔ b = none) := by
    intro a b hab
    cases a <;> cases b <;> simp_all
  unfold DriveLaw
  simp only [State.withDrive_drive, State.withDrive_sp, hstate, hlast, hbrake, hpark, hdwell, hcommand,
    hnone hpark, hnone hdwell]
  exact h

/-- A drive whose ramp output is 0 gives no command. -/
theorem DriveLaw.command_eq_zero {s : State} (h : DriveLaw s) (hout : s.sp.drv.ramp.out = 0) :
    s.drive.command = 0 := by
  obtain ⟨hpos, hneg, -⟩ := h
  omega

/-- The brake and both timers stand at ramp output 0. -/
theorem DriveLaw.brake_out {s : State} (h : DriveLaw s) : s.drive.brakeApplied = true → s.sp.drv.ramp.out = 0 := by
  obtain ⟨-, -, -, -, hbrake, -⟩ := h
  exact hbrake

theorem DriveLaw.park_out {s : State} (h : DriveLaw s) : s.drive.parkTimer.isSome = true → s.sp.drv.ramp.out = 0 := by
  obtain ⟨-, -, -, -, -, hpark, -⟩ := h
  exact hpark

theorem DriveLaw.dwell_out {s : State} (h : DriveLaw s) : s.drive.dwellTimer.isSome = true → s.sp.drv.ramp.out = 0 := by
  obtain ⟨-, -, -, -, -, -, hdwell, -⟩ := h
  exact hdwell

/-! ### Steps 1 and 2 -/

theorem readDriveInputs_law (b : StartBlock) {s : State} (h : DriveLaw s) : DriveLaw (readDriveInputs b s) := by
  have hover : ∀ k p u, DriveLaw u → DriveLaw (handOver k p u) := fun k p u hu => hu.of_keeps (handOver_keeps k p u)
  unfold readDriveInputs
  simp only
  refine hover _ _ _ ?_
  have hread := hover .pedalInput (!inSpan s.pins.drive.pedal) _ (hover .dirInput
    (decide (s.start.station = .running) && s.pins.drive.dirF && s.pins.drive.dirR) _
      (h.withDrive_of_eq (x := takeEngineSensor s) rfl rfl rfl rfl rfl rfl))
  split
  · exact hread.withDrive_of_eq rfl rfl rfl rfl rfl rfl
  · exact hread

/-- Entry to TRIPPED stops both timers and keeps command, direction and brake (R54). -/
theorem enterTripped_law {s : State} (h : DriveLaw s) : DriveLaw (s.withDrive (enterTripped s.drive)) := by
  obtain ⟨hpos, hneg, hfwd, hrev, hbrake, -⟩ := h
  exact ⟨hpos, hneg, hfwd, hrev, hbrake, by simp [enterTripped], by simp [enterTripped], by simp [enterTripped],
    by simp [enterTripped], by simp [enterTripped]⟩

theorem freshDrvRamp_law {s : State} (h : DriveLaw s) : DriveLaw (freshDrvRamp s) := h.congr rfl rfl

theorem tripTest_law {s : State} (h : DriveLaw s) : DriveLaw (tripTest s) := by
  rcases tripTest_cases s with heq | ⟨_, heq⟩ <;> rw [heq]
  · exact h
  · exact freshDrvRamp_law (enterTripped_law h)

/-! ### Step 3 -/

/-- A direction is entered at rest, or where it is the one last entered (R48, R50, R51, R52). -/
theorem enterDirection_law {s : State} (h : DriveLaw s) (d : Direction)
    (hd : s.sp.drv.ramp.out = 0 ∨ s.drive.lastDir = some d) : DriveLaw (s.withDrive (enterDirection d s.drive)) := by
  obtain ⟨hpos, hneg, hfwd, hrev, -⟩ := h
  refine ⟨hpos, hneg, ?_, ?_, by simp [enterDirection], by simp [enterDirection], by simp [enterDirection],
    ?_, ?_, ?_⟩
  · rintro hout
    rcases hd with hd | hd
    · simp only [State.withDrive_sp] at hout; omega
    · exact hd.symm.trans (hfwd hout)
  · rintro hout
    rcases hd with hd | hd
    · simp only [State.withDrive_sp] at hout; omega
    · exact hd.symm.trans (hrev hout)
  all_goals cases d <;> simp [enterDirection]

/-- CHANGING and NEUTRAL keep command, direction and brake; the park timer stops on the way to CHANGING (R49, R50). -/
theorem enterChanging_law {s : State} (h : DriveLaw s) (d : Direction) :
    DriveLaw (s.withDrive (enterChanging d s.drive)) := by
  obtain ⟨hpos, hneg, hfwd, hrev, hbrake, -, hdwell, -⟩ := h
  exact ⟨hpos, hneg, hfwd, hrev, hbrake, by simp [enterChanging], hdwell, by simp [enterChanging],
    by simp [enterChanging], by simp [enterChanging]⟩

theorem enterNeutral_law {s : State} (h : DriveLaw s) : DriveLaw (s.withDrive (enterNeutral s.drive)) := by
  obtain ⟨hpos, hneg, hfwd, hrev, hbrake, hpark, hdwell, -⟩ := h
  exact ⟨hpos, hneg, hfwd, hrev, hbrake, hpark, hdwell, by simp [enterNeutral], by simp [enterNeutral],
    by simp [enterNeutral]⟩

/-- PARKED is entered at rest (R50, R53, R55). -/
theorem enterParked_law {s : State} (h : DriveLaw s) (hout : s.sp.drv.ramp.out = 0) :
    DriveLaw (s.withDrive (enterParked s.drive)) := by
  obtain ⟨hpos, hneg, hfwd, hrev, -, -, hdwell, -⟩ := h
  exact ⟨hpos, hneg, hfwd, hrev, fun _ => hout, fun _ => hout, hdwell, by simp [enterParked], by simp [enterParked],
    fun _ => rfl⟩

theorem periodParked_law (b : StartBlock) {s : State} (h : DriveLaw s) (hs : s.drive.state = .parked) :
    DriveLaw (s.withDrive (periodParked b s)) := by
  unfold periodParked
  split
  · split
    · refine enterDirection_law h _ (.inl ?_)
      obtain ⟨-, -, -, -, hbrake, -, -, -, -, hparked⟩ := h
      exact hbrake (hparked hs)
    · exact h
  · exact h

theorem periodDriving_law (own : Direction) {s : State} (h : DriveLaw s) :
    DriveLaw (s.withDrive (periodDriving own s)) := by
  unfold periodDriving
  split
  · exact enterNeutral_law h
  · split
    · exact h
    · exact enterChanging_law h _

theorem atRest_out {b : StartBlock} {s : State} (h : atRest b s = true) : s.sp.drv.ramp.out = 0 := by
  simp only [atRest, Bool.and_eq_true, decide_eq_true_eq] at h
  exact h.1

theorem periodNeutral_law (b : StartBlock) {s : State} (h : DriveLaw s) :
    DriveLaw (s.withDrive (periodNeutral b s)) := by
  unfold periodNeutral
  split
  · split_ifs with hlast hrest
    · exact enterDirection_law h _ (.inr hlast)
    · exact enterDirection_law h _ (.inl (atRest_out hrest))
    · exact enterChanging_law h _
  · exact h

theorem periodChanging_law {s : State} (h : DriveLaw s) : DriveLaw (s.withDrive (periodChanging s)) := by
  unfold periodChanging
  split
  · obtain ⟨hpos, hneg, hfwd, hrev, hbrake, hpark, -⟩ := h
    exact ⟨hpos, hneg, hfwd, hrev, hbrake, hpark, by simp, by simp, by simp, by simp⟩
  · split_ifs with hpend hlast
    · exact h
    · exact enterDirection_law h _ (.inr hlast)
    · exact h

theorem periodTripped_law {s : State} (h : DriveLaw s) : DriveLaw (periodTripped s) := by
  unfold periodTripped
  split
  · next hr =>
    simp only [tripReleased, Bool.and_eq_true] at hr
    exact freshDrvRamp_law (enterParked_law h (h.brake_out hr.2))
  · exact h

theorem driveTransition_law (b : StartBlock) {s : State} (h : DriveLaw s) : DriveLaw (driveTransition b s) := by
  unfold driveTransition
  split
  case h_1 hs => exact periodParked_law b h hs
  case h_2 => exact periodDriving_law _ h
  case h_3 => exact periodDriving_law _ h
  case h_4 => exact periodNeutral_law b h
  case h_5 => exact periodChanging_law h
  case h_6 => exact periodTripped_law h

/-! ### Step 4 -/

/-- Outside FORWARD and REVERSE the target is 0, in FORWARD it is not below 0, in REVERSE not above (R57). -/
theorem driveTarget_sign (b : StartBlock) (s : State) :
    (s.drive.state ≠ .forward → s.drive.state ≠ .reverse → driveTarget b s = 0)
      ∧ (s.drive.state ≠ .reverse → 0 ≤ driveTarget b s)
      ∧ (s.drive.state = .reverse → driveTarget b s ≤ 0) := by
  refine ⟨fun hf hr => ?_, fun hr => ?_, fun hr => ?_⟩
  · have hpedal : (pedalSpeed b s).1 = 0 := by simp [pedalSpeed, pedalLooksUp, hf, hr]
    simp only [driveTarget, hr, if_false, hpedal]
    simp [cappedSpeed]
  · simp [driveTarget, hr]
  · simp [driveTarget, hr]

/-- A ramp period leaves the output between where it was and its effective target (R12, R14). -/
theorem Ramp.step_between (r : Ramp) (full : Nat) (times : RampTimes) (t : Int) :
    (r.out ≤ effectiveTarget r.out t → r.out ≤ (r.step full times t).out
        ∧ (r.step full times t).out ≤ effectiveTarget r.out t)
      ∧ (effectiveTarget r.out t ≤ r.out → effectiveTarget r.out t ≤ (r.step full times t).out
        ∧ (r.step full times t).out ≤ r.out) := by
  have hmove : ∀ ph time, (r.out ≤ effectiveTarget r.out t →
        r.out ≤ (r.move full ph time (effectiveTarget r.out t)).out
        ∧ (r.move full ph time (effectiveTarget r.out t)).out ≤ effectiveTarget r.out t)
      ∧ (effectiveTarget r.out t ≤ r.out →
        effectiveTarget r.out t ≤ (r.move full ph time (effectiveTarget r.out t)).out
        ∧ (r.move full ph time (effectiveTarget r.out t)).out ≤ r.out) := by
    intro ph time
    rcases Ramp.move_out r full ph time (effectiveTarget r.out t) with h | h <;> rw [h]
    · omega
    · exact toward_between _ _ _
  simp only [Ramp.step]
  split_ifs
  · exact hmove _ _
  · exact hmove _ _
  · simp only [Ramp.arrive_out]; omega

/-- An output that leaves a ramp period above 0 came from above 0 or follows a target above 0, and so below. -/
theorem Ramp.step_sign (r : Ramp) (full : Nat) (times : RampTimes) (t : Int) :
    (0 < (r.step full times t).out → 0 < r.out ∨ 0 < t)
      ∧ ((r.step full times t).out < 0 → r.out < 0 ∨ t < 0)
      ∧ (r.out = 0 → t = 0 → (r.step full times t).out = 0) := by
  have h := Ramp.step_between r full times t
  rcases effectiveTarget_cases r.out t with ht | ht <;> rw [ht] at h <;> omega

/-- The pressure cut gives a magnitude at most the derated one (R62). -/
theorem pressureCut_le (p : DriveParams) (pressure : Option Nat) (d last : Nat) :
    (pressureCut p pressure d last).2 ≤ d := by
  unfold pressureCut
  split
  · exact le_rfl
  · split_ifs
    · exact min_le_left _ _
    · exact min_le_left _ _
    · exact le_rfl

/-- A pump command has the sign of the ramp output, or is 0 (R60). -/
theorem pumpCommand_sign (o : Int) (feed : Nat) (trim : Int) :
    (0 ≤ o → 0 ≤ pumpCommand o feed trim) ∧ (o ≤ 0 → pumpCommand o feed trim ≤ 0) := by
  unfold pumpCommand
  simp only
  split_ifs <;> omega

/-- The command of the chain: its sign is that of the ramp output it follows (R60, R63). -/
theorem driveChain_command_sign (b : StartBlock) (s : State) :
    (0 < (driveChain b s).drive.command → 0 < (driveChain b s).sp.drv.ramp.out)
      ∧ ((driveChain b s).drive.command < 0 → (driveChain b s).sp.drv.ramp.out < 0) := by
  simp only [driveChain, State.withDrive_drive, State.withDrive_sp, State.withSp_sp]
  generalize s.sp.drv.ramp.step 1500 (driveTimes b s) (driveTarget b s) = r
  generalize factor _ _ _ = k
  generalize (curveLookup _ _).1 = feed
  have hsign := pumpCommand_sign r.out feed s.drive.trim
  generalize hx : pumpCommand r.out feed s.drive.trim = x at hsign ⊢
  have hcut := pressureCut_le b.drive (cutPressureRead s) (derateInt x k).natAbs s.drive.command.natAbs
  have hup : 0 ≤ x → 0 ≤ derateInt x k := derateInt_nonneg k
  have hdown : x ≤ 0 → derateInt x k ≤ 0 := derateInt_nonpos k
  unfold withSign
  split <;> constructor <;> intro h <;> omega

/-- Step 4 keeps the law: the output follows the direction the state shows, and the command follows the output. -/
theorem driveChain_law (b : StartBlock) {s : State} (h : DriveLaw s) : DriveLaw (driveChain b s) := by
  obtain ⟨hpos, hneg⟩ := driveChain_command_sign b s
  obtain ⟨hzero, hup, hdown⟩ := driveTarget_sign b s
  obtain ⟨hgo, hback, hstay⟩ := Ramp.step_sign s.sp.drv.ramp 1500 (driveTimes b s) (driveTarget b s)
  obtain ⟨-, -, hfwd, hrev, hbrake, hpark, hdwell, hf, hr, hp⟩ := h
  have hrest : s.sp.drv.ramp.out = 0 → s.drive.state ≠ .forward → s.drive.state ≠ .reverse →
      (driveChain b s).sp.drv.ramp.out = 0 := fun ho hnf hnr => hstay ho (hzero hnf hnr)
  refine ⟨hpos, hneg, fun ho => ?_, fun ho => ?_, fun hb => ?_, fun ht => ?_, fun ht => ?_, hf, hr, hp⟩
  · rcases hgo ho with ho | ho
    · exact hfwd ho
    · by_cases hs : s.drive.state = .forward
      · exact (hf hs).1
      · by_cases hs' : s.drive.state = .reverse
        · have := hdown hs'; omega
        · have := hzero hs hs'; omega
  · rcases hback ho with ho | ho
    · exact hrev ho
    · by_cases hs : s.drive.state = .reverse
      · exact (hr hs).1
      · have := hup hs; omega
  · have hb' : s.drive.brakeApplied = true := hb
    exact hrest (hbrake hb') (fun hs => by simp [hf hs] at hb') (fun hs => by simp [hr hs] at hb')
  · have ht' : s.drive.parkTimer.isSome = true := ht
    exact hrest (hpark ht') (fun hs => by simp [hf hs] at ht') (fun hs => by simp [hr hs] at ht')
  · have ht' : s.drive.dwellTimer.isSome = true := ht
    exact hrest (hdwell ht') (fun hs => by simp [hf hs] at ht') (fun hs => by simp [hr hs] at ht')

/-! ### The timers that stand at rest -/

/-- The timers and the brake may change at rest outside FORWARD and REVERSE. -/
theorem DriveLaw.at_rest {s : State} {x : Drive} (h : DriveLaw s) (hout : s.sp.drv.ramp.out = 0)
    (hcommand : x.command = s.drive.command) (hf : x.state ≠ .forward) (hr : x.state ≠ .reverse)
    (hp : x.state = .parked → x.brakeApplied = true) : DriveLaw (s.withDrive x) := by
  have hzero := h.command_eq_zero hout
  unfold DriveLaw
  simp only [State.withDrive_drive, State.withDrive_sp, hout, hcommand, hzero]
  simp_all

/-- The drive stops a timer. -/
theorem DriveLaw.stop_park {s : State} (h : DriveLaw s) : DriveLaw (s.withDrive { s.drive with parkTimer := none }) := by
  obtain ⟨hpos, hneg, hfwd, hrev, hbrake, -, hdwell, hf, hr, hp⟩ := h
  refine ⟨hpos, hneg, hfwd, hrev, hbrake, by simp, hdwell, fun hs => ?_, fun hs => ?_, hp⟩
  · obtain ⟨hlast, hoff, _, hdw⟩ := hf hs
    exact ⟨hlast, hoff, rfl, hdw⟩
  · obtain ⟨hlast, hoff, _, hdw⟩ := hr hs
    exact ⟨hlast, hoff, rfl, hdw⟩

theorem DriveLaw.stop_dwell {s : State} (h : DriveLaw s) : DriveLaw (s.withDrive { s.drive with dwellTimer := none }) := by
  obtain ⟨hpos, hneg, hfwd, hrev, hbrake, hpark, -, hf, hr, hp⟩ := h
  refine ⟨hpos, hneg, hfwd, hrev, hbrake, hpark, by simp, fun hs => ?_, fun hs => ?_, hp⟩
  · obtain ⟨hlast, hoff, hpk, _⟩ := hf hs
    exact ⟨hlast, hoff, hpk, rfl⟩
  · obtain ⟨hlast, hoff, hpk, _⟩ := hr hs
    exact ⟨hlast, hoff, hpk, rfl⟩

theorem standNeutral_law (b : StartBlock) {s : State} (h : DriveLaw s) (hs : s.drive.state = .neutral) :
    DriveLaw (s.withDrive (standNeutral b s)) := by
  unfold standNeutral startPark
  split_ifs with hrest
  · exact h
  · exact enterParked_law h (atRest_out hrest)
  · exact h.at_rest (atRest_out hrest) rfl (by simp [hs]) (by simp [hs]) (by simp [hs])
  · exact h.stop_park

theorem standChanging_law (b : StartBlock) {s : State} (h : DriveLaw s) (hs : s.drive.state = .changing) :
    DriveLaw (s.withDrive (standChanging b s)) := by
  unfold standChanging
  split_ifs with hrest
  · exact h
  · exact h.at_rest (atRest_out hrest) rfl (by simp [hs]) (by simp [hs]) (by simp [hs])
  · exact h
  · exact h.stop_dwell

theorem standTripped_law (b : StartBlock) {s : State} (h : DriveLaw s) (hs : s.drive.state = .tripped) :
    DriveLaw (s.withDrive (standTripped b s)) := by
  unfold standTripped startPark
  split_ifs with hbrake hrest
  · exact h
  · exact h
  · exact h.at_rest (atRest_out hrest) rfl (by simp [applyBrake, hs]) (by simp [applyBrake, hs])
      (by simp [applyBrake])
  · exact h.at_rest (atRest_out hrest) rfl (by simp [hs]) (by simp [hs]) (by simp [hs])
  · exact h
  · exact h.stop_park

theorem standTest_law (b : StartBlock) (stood : DriveState) {s : State} (h : DriveLaw s) :
    DriveLaw (standTest b stood s) := by
  unfold standTest
  split
  · next hs =>
    cases stood with
    | neutral => exact standNeutral_law b h hs
    | changing => exact standChanging_law b h hs
    | tripped => exact standTripped_law b h hs
    | parked => exact h
    | forward => exact h
    | reverse => exact h
  · exact h

/-! ### Step 5 and the whole period -/

theorem updateTrim_law (b : StartBlock) {s : State} (h : DriveLaw s) : DriveLaw (updateTrim b s) := by
  unfold updateTrim
  split
  · exact h.withDrive_of_eq rfl rfl rfl rfl rfl rfl
  · exact h

theorem restartSpeedSilence_law {s : State} (h : DriveLaw s) : DriveLaw (restartSpeedSilence s) :=
  (h.withDrive_of_eq (x := { s.drive with speedSilence := 0 }) rfl rfl rfl rfl rfl rfl).of_keeps (handOver_keeps _ _ _)

theorem quietPeriod_law {s : State} (h : DriveLaw s) : DriveLaw (quietPeriod s) := by
  unfold quietPeriod
  split
  · exact restartSpeedSilence_law h
  · exact h

theorem drivePeriod_law (b : StartBlock) {s : State} (h : DriveLaw s) : DriveLaw (drivePeriod b s) :=
  quietPeriod_law (updateTrim_law b (standTest_law b _ (driveChain_law b (driveTransition_law b
    (tripTest_law (readDriveInputs_law b h))))))

/-! ### The timers' expiries -/

theorem dueBy_isSome {s : State} {timer : Timer} {limit : StartBlock → Nat} (h : dueBy s timer limit = true) :
    timer.isSome = true := by
  rw [dueBy_iff] at h
  obtain ⟨_, _, _, heq, _⟩ := h
  simp [heq]

theorem parkExpired_law {s : State} (h : DriveLaw s) (due : parkDue s = true) :
    DriveLaw (s.withDrive (parkExpired s.drive)) := by
  have hout : s.sp.drv.ramp.out = 0 := h.park_out (dueBy_isSome due)
  unfold parkExpired
  split
  · exact enterParked_law h hout
  · next hs =>
    exact h.at_rest hout rfl (by simp [applyBrake, hs]) (by simp [applyBrake, hs]) (by simp [applyBrake])
  all_goals exact h

theorem dwellExpired_law {s : State} (h : DriveLaw s) (due : dwellDue s = true) :
    DriveLaw (s.withDrive (dwellExpired s.drive)) := by
  have hout : s.sp.drv.ramp.out = 0 := h.dwell_out (dueBy_isSome due)
  unfold dwellExpired
  split
  · exact enterDirection_law h _ (.inl hout)
  · exact h

/-! ### Arms, water and the mode leave the drive alone -/

/-- An operation on the arms keeps the DRV site that both arms' turns keep. -/
theorem forArms_drv {f : ArmId → State → State} (hf : ∀ n s, (f n s).sp.drv = s.sp.drv) (s : State) :
    (forArms f s).sp.drv = s.sp.drv := by
  unfold forArms
  simp only
  split_ifs <;> simp [hf]

/-- A mode change takes the marker off the DRV ramp and keeps its output (R3, R107). -/
theorem changeMode_drvOut (m : Mode) (s : State) :
    (changeMode m s).sp.drv.ramp.out = s.sp.drv.ramp.out := by
  simp only [changeMode]
  split_ifs <;> simp [forArms_drv stowDemand_drv, bankSwitch]

theorem changeMode_law (m : Mode) {s : State} (h : DriveLaw s) : DriveLaw (changeMode m s) :=
  h.congr (changeMode_keeps m s).drive (changeMode_drvOut m s)

theorem takeMode_law (m : Mode) {s : State} (h : DriveLaw s) : DriveLaw (takeMode m s) := by
  unfold takeMode
  split
  · exact h
  · exact changeMode_law m h

theorem demandTransport_law {s : State} (h : DriveLaw s) : DriveLaw (demandTransport s) := by
  unfold demandTransport
  split
  · exact h.of_keeps_drv (forArms_keeps stowDemand_keeps s) (forArms_drv stowDemand_drv s)
  · exact changeMode_law _ h

theorem enterSilenced_drv (s : State) : (enterSilenced s).sp.drv = s.sp.drv := by
  simp [enterSilenced, forArms_drv silenceArm_drv]

theorem sortFrame_law (f : Frame) {s : State} (h : DriveLaw s) : DriveLaw (sortFrame f s) := by
  refine h.of_keeps_drv (sortFrame_keeps f s) ?_
  unfold sortFrame duplicateStation queueFrame
  split_ifs <;> simp [enterSilenced_drv]

theorem cutOff_law {s : State} (h : DriveLaw s) : DriveLaw (cutOff s) := by
  refine h.of_keeps_drv (cutOff_keeps s) ?_
  unfold cutOff
  simp only
  split <;> simp [enterSilenced_drv]

theorem blindExpired_drv (n : ArmId) (s : State) : (blindExpired n s).sp.drv = s.sp.drv := by
  unfold blindExpired
  simp only
  split <;> simp

theorem armTests_drv (b : StartBlock) (n : ArmId) (s : State) : (armTests b n s).sp.drv = s.sp.drv := by
  have harrive : ∀ u, (arrivalTest b n u).sp.drv = u.sp.drv := fun u => by
    rcases arrivalTest_cases b n u with h | ⟨_, h⟩ | ⟨_, h⟩ | ⟨_, h⟩ <;> simp [h]
  have hreverse : ∀ u, (reverseLiftTest b n u).sp.drv = u.sp.drv := fun u => by
    rcases reverseLiftTest_cases b n u with h | ⟨_, h⟩ <;> simp [h]
  have hresume : ∀ st u, (resumeTest b n st u).sp.drv = u.sp.drv := fun st u => by
    rcases resumeTest_cases b n st u with h | ⟨_, _, h⟩ <;> simp [h]
  have hblind : ∀ u, (blindTest b n u).sp.drv = u.sp.drv := fun u => by
    rcases blindTest_cases b n u with h | ⟨_, h⟩ | ⟨_, _, h⟩ <;> simp [h, blindExpired_drv]
  simp [armTests, harrive, hreverse, hresume, hblind]

theorem armPeriod_drv (b : StartBlock) (n : ArmId) (s : State) : (armPeriod b n s).sp.drv = s.sp.drv := by
  have hbrush : ∀ u, (brushPeriod b n u).sp.drv = u.sp.drv := fun u => by
    simp only [brushPeriod]
    split <;> simp
  have hfault : ∀ u, (positionFaultMove n u).sp.drv = u.sp.drv := fun u => by
    unfold positionFaultMove
    split <;> simp
  simp [armPeriod, hbrush, armTests_drv, hfault, readPosition]

theorem waterPeriod_drv (b : StartBlock) (s : State) : (waterPeriod b s).sp.drv = s.sp.drv := by
  have htests : ∀ u, (waterTests b u).sp.drv = u.sp.drv := fun u => by
    rcases waterTests_cases b u with h | ⟨_, _, h⟩ | ⟨_, _, h⟩ | ⟨_, _, h⟩ | ⟨_, h⟩ <;> rw [h]
    · rw [(enterPriming_keeps u).sp]
    · simp [enterSpraying]
    · rw [(lossTest_keeps b u).sp]
    · simp
  have houtputs : ∀ u, (waterOutputs b u).sp.drv = u.sp.drv := fun u => by
    unfold waterOutputs
    split <;> simp [primeOutputs]
  have hmove : ∀ u, (waterInputMove u).sp.drv = u.sp.drv := fun u => by
    unfold waterInputMove
    split <;> simp
  simp [waterPeriod, waterRecompute, houtputs, htests, hmove, (readWaterInputs_keeps b s).sp]

theorem failedPrime_drv (s : State) : (failedPrime s).sp.drv = s.sp.drv := by
  simp only [failedPrime]
  split <;> simp [quietWater]

theorem dryWaitEnded_drv (b : StartBlock) (s : State) : (dryWaitEnded b s).sp.drv = s.sp.drv := by
  unfold dryWaitEnded
  split
  · rw [(primeOutputs_keeps b _).sp, (enterPriming_keeps s).sp]
  · simp

/-! ### Requests, restarts and the end of a frame -/

theorem acts_driveLaw {r : Request} {s t : State} (h : DriveLaw s) (acts : Acts r s t) : DriveLaw t := by
  cases acts with
  | nothing => exact h
  | free => exact h.of_keeps (State.withFree_keeps s _)
  | refresh src tag => exact h.of_keeps (refreshEntry_keeps src tag s)
  | release src tag => exact h.of_keeps (freeEntry_keeps src tag s)
  | mode m => exact takeMode_law m (h.of_keeps (supersede_keeps _ _ s))
  | stow => exact demandTransport_law (h.of_keeps (supersede_keeps _ _ s))
  | stowPending => exact (demandTransport_law (h.of_keeps (supersede_keeps _ _ s))).of_keeps (makeEntry_keeps _ _ _ _)
  | arm n target =>
    exact (h.of_keeps (supersede_keeps _ _ s)).of_keeps_drv (armToTarget_keeps n target _) (by simp)
      (by cases n <;> decide)
  | armPending n target =>
    exact ((h.of_keeps (supersede_keeps _ _ s)).of_keeps_drv (armToTarget_keeps n target _) (by simp)
      (by cases n <;> decide)).of_keeps (makeEntry_keeps _ _ _ _)
  | water on =>
    refine h.of_keeps_drv (writeEnable_keeps on s) ?_
    simp only [writeEnable]
    split <;> simp
  | trim n v => exact h.of_keeps (State.withArm_keeps s n _) (by cases n <;> decide) (by cases n <;> decide)
  | clear mask =>
    refine h.of_keeps_drv (clearFaults_keeps mask s) ?_
    simp only [clearFaults, releaseDry]
    split_ifs <;> simp

theorem warmRestart_law {s : State} (h : DriveLaw s) : DriveLaw (warmRestart s) := by
  have hout : (warmRestart s).sp.drv.ramp.out = s.sp.drv.ramp.out := by simp [warmRestart, warmSetpoint, Ramp.warm]
  have hdrive : (warmRestart s).drive = if populated .drv s then warmDrive s.drive else s.drive := by
    simp [warmRestart]
  split at hdrive
  · obtain ⟨hpos, hneg, hfwd, hrev, hbrake, -⟩ := h
    unfold DriveLaw
    rw [hout, hdrive]
    exact ⟨hpos, hneg, hfwd, hrev, hbrake, by simp [warmDrive], by simp [warmDrive], by simp [warmDrive],
      by simp [warmDrive], by simp [warmDrive]⟩
  · exact h.congr hdrive hout

theorem driveLaw_reset : DriveLaw State.reset := by
  unfold DriveLaw
  decide

theorem restartNow_driveLaw (straps : Straps) {s : State} (h : DriveLaw s) : DriveLaw (restartNow straps s) := by
  unfold restartNow
  split
  · exact warmRestart_law h
  · exact driveLaw_reset.congr rfl rfl

theorem frameEnded_driveLaw (o : Owner) {s : State} (h : DriveLaw s) : DriveLaw (frameEnded o s) := by
  cases o with
  | alert k =>
    unfold frameEnded alertSent
    simp only
    split
    · exact h.of_keeps (State.withLine_keeps s _)
    · exact h
  | answer =>
    have hline : ∀ x, DriveLaw (s.withLine x) := fun x => h.of_keeps (State.withLine_keeps s x)
    unfold frameEnded answerSent
    simp only
    split
    · split
      · exact warmRestart_law (hline _)
      · exact hline _
    · exact hline _
  | report => exact h.of_keeps (State.withLine_keeps s _)
  | request tag => exact (h.of_keeps (State.withLine_keeps s _)).of_keeps (mapOutgoing_keeps _ _ _)
  | orphan => exact h

theorem acceptStart_driveLaw (b : StartBlock) (arm1 arm2 : Raw) (levels : BitVec 8) {s : State} (h : DriveLaw s) :
    DriveLaw (acceptStart b arm1 arm2 levels s) := by
  have hfirst : ∀ n raw u, DriveLaw u → DriveLaw (firstPosition b n raw u) := by
    intro n raw u hu
    refine hu.of_keeps_drv (firstPosition_keeps b n raw u) ?_ (by cases n <;> decide)
    have hpin : (setPositionPin n raw u).sp = u.sp := by cases n <;> rfl
    simp only [firstPosition]
    split_ifs <;> simp [hpin]
  have hstart := h.of_keeps (State.withStart_keeps s
    { s.start with station := .listening, image := some b, joinTimer := some 0 })
  exact ((hfirst .two arm2 _ (hfirst .one arm1 _ hstart)).of_keeps (State.withReq_keeps _ _)).withDrive_of_eq
    rfl rfl rfl rfl rfl rfl

/-! ### Every effect, and every step -/

theorem does_driveLaw {s t : State} (h : DriveLaw s) (does : Does s t) : DriveLaw t := by
  have hpop : DriveLaw (popRx s) := h.of_keeps (popRx_keeps s)
  cases does with
  | nothing => exact h
  | coldReset => exact driveLaw_reset.congr rfl rfl
  | release => exact h.congr rfl rfl
  | failStart miso => exact (h.of_keeps (State.withStart_keeps s _)).of_keeps (failStart_keeps _)
  | acceptStart => exact acceptStart_driveLaw _ _ _ _ (h.of_keeps (State.withStart_keeps s _))
  | join => exact h.of_keeps (enterRunning_keeps s)
  | pins p => exact h.of_keeps (State.withPins_keeps s p)
  | drivePeriod b i => exact drivePeriod_law b (h.of_keeps (State.withPins_keeps s _))
  | armPeriod b n raw =>
    exact (h.of_keeps (setPositionPin_keeps n raw s)).of_keeps_drv (armPeriod_keeps b n _) (armPeriod_drv b n _)
      (by cases n <;> decide)
  | waterPeriod b =>
    exact (h.of_keeps (State.withPins_keeps s _)).of_keeps_drv (waterPeriod_keeps b _) (waterPeriod_drv b _)
  | bucketClose b => exact h.withDrive_of_eq rfl rfl rfl rfl rfl rfl
  | speedEdge p m =>
    exact restartSpeedSilence_law ((h.of_keeps (State.withPins_keeps s p)).withDrive_of_eq rfl rfl rfl rfl rfl rfl)
  | engineEdge bad m =>
    exact (h.withDrive_of_eq (x := { s.drive with engineSilence := 0, engineBad := bad, meas := m })
      rfl rfl rfl rfl rfl rfl).of_keeps (handOver_keeps _ _ _)
  | park due => exact parkExpired_law h due
  | dwell due => exact dwellExpired_law h due
  | speedSilence => exact h.of_keeps (handOver_keeps _ _ s)
  | engineSilence => exact h.of_keeps (handOver_keeps _ _ s)
  | stall n => exact h.of_keeps_drv (stall_keeps n s) (by simp [stall]) (by cases n <;> decide)
  | blind n => exact h.of_keeps_drv (blindExpired_keeps n s) (blindExpired_drv n s) (by cases n <;> decide)
  | failedPrime => exact h.of_keeps_drv (failedPrime_keeps s) (failedPrime_drv s)
  | dryWaitEnded b => exact h.of_keeps_drv (dryWaitEnded_keeps b s) (dryWaitEnded_drv b s)
  | pattern b => exact h.of_keeps (State.withWater_keeps s _)
  | age n st => exact h.of_keeps (markEntry_keeps n st s)
  | entryDiscard src tag => exact h.of_keeps (freeEntry_keeps src tag s)
  | entryOrphaned src tag => exact (h.of_keeps (freeEntry_keeps src tag s)).of_keeps (State.withLine_keeps _ _)
  | repeatExpiry tag e => exact h.of_keeps (repeatExpired_keeps e s)
  | switch i d => exact h.of_keeps (State.withReq_keeps s _)
  | edge b i d onEdge => exact (h.of_keeps (State.withReq_keeps s _)).of_keeps (switchEdge_keeps b i onEdge _)
  | reportTimer => exact (h.of_keeps (State.withLine_keeps s _)).of_keeps (makeDue_keeps _)
  | checkError => exact h.of_keeps (State.withLine_keeps s _)
  | frame f => exact sortFrame_law f h
  | cutOff => exact cutOff_law h
  | popRx => exact hpop
  | report f n seq v => exact hpop.of_keeps (takeReport_keeps n seq v _)
  | alert n k => exact hpop.of_keeps (takeAlert_keeps n k _)
  | answer f => exact hpop.of_keeps (takeAnswer_keeps f _)
  | missed => exact hpop.of_keeps (State.withLine_keeps _ _)
  | reply r u _ _ _ _ acts => exact (acts_driveLaw hpop acts).of_keeps (queueAnswer_keeps _ _ _ _ _ _ u)
  | restart straps => exact restartNow_driveLaw straps hpop
  | lost => exact h.of_keeps (State.withFree_keeps s _)
  | offer o f => exact (h.of_keeps (State.withFree_keeps s _)).of_keeps (State.withLine_keeps _ _)
  | frameSent x => exact frameEnded_driveLaw _ (h.of_keeps (State.withLine_keeps s _))

/-- One millisecond grows the drive's timers and starts or stops none. -/
theorem elapse_driveLaw {s : State} (h : DriveLaw s) : DriveLaw (elapse s) :=
  (h.withDrive_of_eq (x := driveElapse s) rfl rfl rfl (Option.isSome_map ..) (Option.isSome_map ..) rfl).congr rfl rfl

/-- Settles O19: the law reads the drive channel and the DRV ramp output, so every effect but those of the drive keeps it
by its frame; a drive period keeps it step by step, and the timers' expiries since a timer runs only at ramp output 0. -/
theorem everyStepKeepsTheDriveLaw : Obligations.EveryStepKeepsTheDriveLaw := by
  unfold Obligations.EveryStepKeepsTheDriveLaw
  exact step_keeps (fun s x h => h.of_keeps (State.withPending_keeps s x)) (fun _ => elapse_driveLaw)
    (fun _ _ => does_driveLaw)

end Sys2Proof.Machine
end

section
/-! SUPPORT. What a hand-over leaves in the fault unit and at the ALERT slot (R157, R158, R163). -/

namespace Sys2Proof.Machine

-- One thread elaborates this section, so that the check's memory limit holds the stacks.
set_option Elab.async false

/-! ### Membership after a hand-over -/

theorem sticky_withFaults (k : FaultKind) (s : State) (f : Faults) :
    sticky k (s.withFaults f) = hasKind f.sticky k := rfl

theorem sticky_congr {s t : State} (h : t.faults = s.faults) (k : FaultKind) : sticky k t = sticky k s := by
  rw [sticky, sticky, h]

theorem active_congr {s t : State} (h : t.faults = s.faults) (k : FaultKind) : active k t = active k s := by
  rw [active, active, h]

/-- The sticky set after a hand-over: a present cause sets its member, and only TANK_LOW follows its cause down (R158). -/
theorem sticky_handOver (k j : FaultKind) (present : Bool) (s : State) :
    sticky j (handOver k present s)
      = if j = k then (present || (decide (k ≠ .tankLow) && sticky j s)) else sticky j s := by
  cases present
  · by_cases hk : k = .tankLow
    · subst hk
      simp [handOver, sticky, hasKind_putKind]
    · by_cases hj : j = k <;> simp [handOver, sticky, hk, hj]
  · simp [handOver, sticky_setSticky, sticky_withFaults]
    rfl

/-- A hand-over of one kind leaves the sticky member of another. -/
theorem sticky_handOver_other {k j : FaultKind} (h : j ≠ k) (present : Bool) (s : State) :
    sticky j (handOver k present s) = sticky j s := by
  simp [sticky_handOver, h]

@[simp] theorem sticky_handOver_present (k : FaultKind) (s : State) : sticky k (handOver k true s) = true := by
  simp [sticky_handOver]

/-- Only the handed-over kind changes among the held causes (R157). -/
theorem handOver_cause (k : FaultKind) (present : Bool) (s : State) :
    (handOver k present s).faults.cause = putKind s.faults.cause k present := by
  unfold handOver
  simp only
  split_ifs <;> simp [setSticky_cause]

theorem setSticky_stalls (k : FaultKind) (s : State) :
    (setSticky k s).faults.stall1 = s.faults.stall1 ∧ (setSticky k s).faults.stall2 = s.faults.stall2 := by
  unfold setSticky
  simp only
  split_ifs <;> exact ⟨rfl, rfl⟩

theorem handOver_stalls (k : FaultKind) (present : Bool) (s : State) :
    (handOver k present s).faults.stall1 = s.faults.stall1
      ∧ (handOver k present s).faults.stall2 = s.faults.stall2 := by
  unfold handOver
  simp only
  split_ifs <;> simp [setSticky_stalls]

/-- Setting a sticky member leaves every active member. -/
theorem active_setSticky (k j : FaultKind) (s : State) : active j (setSticky k s) = active j s := by
  simp [active_eq, setSticky_cause, setSticky_stalls]

theorem active_raiseOnce (k j : FaultKind) (s : State) : active j (raiseOnce k s) = active j s :=
  active_setSticky k j s

theorem sticky_raiseOnce (k j : FaultKind) (s : State) :
    sticky j (raiseOnce k s) = if j = k then true else sticky j s := sticky_setSticky k j s

/-- The active member of a kind that no arm stalls is its held cause as it was handed over (R157). -/
theorem active_handOver_self {k : FaultKind} (h1 : k ≠ .arm1Fault) (h2 : k ≠ .arm2Fault) (present : Bool)
    (s : State) : active k (handOver k present s) = present := by
  simp [active_eq, handOver_cause, hasKind_putKind, h1, h2]

theorem active_handOver_other {k j : FaultKind} (h : j ≠ k) (present : Bool) (s : State) :
    active j (handOver k present s) = active j s := by
  simp [active_eq, handOver_cause, handOver_stalls, hasKind_putKind, h]

theorem active_handOver_present (k : FaultKind) (s : State) : active k (handOver k true s) = true := by
  simp [active_eq, handOver_cause, hasKind_putKind]

/-! ### The stall cause of an arm -/

theorem handOverStall_cause (n : ArmId) (present : Bool) (s : State) :
    (handOverStall n present s).faults.cause = s.faults.cause := by
  cases n <;> cases present <;> simp [handOverStall, setSticky_cause]

/-- A stall that ends leaves the sticky set, and one that begins sets its arm's member (R77, R158). -/
theorem sticky_handOverStall (n : ArmId) (j : FaultKind) (present : Bool) (s : State) :
    sticky j (handOverStall n present s) = if j = armFault n ∧ present = true then true else sticky j s := by
  cases n <;> cases present <;> simp [handOverStall, sticky_setSticky, sticky_withFaults] <;> rfl

theorem active_handOverStall_present (n : ArmId) (s : State) : active (armFault n) (handOverStall n true s) = true := by
  cases n <;> simp [handOverStall, active_eq, armFault, setSticky_stalls]

/-! ### The line port at a hand-over -/

/-- A hand-over reaches the ALERT slot where it sets the sticky member of a trip kind (R163, R164). -/
theorem handOver_line (k : FaultKind) (present : Bool) (s : State) :
    (handOver k present s).line
      = if present && k.isTrip && !sticky k s then { s.line with alertSlot := some k } else s.line := by
  cases present
  · unfold handOver
    simp only [Bool.false_eq_true, if_false]
    split_ifs <;> simp_all
  · simp only [handOver, if_true, setSticky_line, Bool.true_and, State.withFaults_line]
    rfl

theorem raiseOnce_line (k : FaultKind) (s : State) :
    (raiseOnce k s).line
      = if k.isTrip && !sticky k s then { s.line with alertSlot := some k } else s.line := setSticky_line k s

/-- A hand-over of a kind that does not trip leaves the line port. -/
theorem handOver_line_of_not_trip {k : FaultKind} (h : k.isTrip = false) (present : Bool) (s : State) :
    (handOver k present s).line = s.line := by
  simp [handOver_line, h]

@[simp] theorem testInherited_line (s : State) : (testInherited s).line = s.line := by
  unfold testInherited
  split
  · simp [handOver_line_of_not_trip (show FaultKind.isTrip .driveConflict = false from rfl),
      handOver_line_of_not_trip (show FaultKind.isTrip .engineLost = false from rfl),
      handOver_line_of_not_trip (show FaultKind.isTrip .travelLost = false from rfl)]
  · rfl

/-! ### The inherited causes -/

/-- The test of the inherited causes reaches no other kind (R33). -/
theorem testInherited_other {k : FaultKind} (h : k ∉ inheritedKinds) (s : State) :
    active k (testInherited s) = active k s ∧ sticky k (testInherited s) = sticky k s := by
  simp only [inheritedKinds, List.mem_cons, List.not_mem_nil, or_false, not_or] at h
  obtain ⟨ht, he, hc⟩ := h
  unfold testInherited
  split
  · simp only
    rw [active_handOver_other hc, active_handOver_other he, active_handOver_other ht, sticky_handOver_other hc,
      sticky_handOver_other he, sticky_handOver_other ht]
    exact ⟨rfl, rfl⟩
  · exact ⟨rfl, rfl⟩

theorem dropInherited_sticky (k : FaultKind) (s : State) : sticky k (dropInherited s) = sticky k s := by
  simp [sticky, dropInherited_faults]

end Sys2Proof.Machine
end

section
/-! SUPPORT. The law of the arms along every step (R68, R77, R80, R84, R85, R87). -/

namespace Sys2Proof.Machine

-- One thread elaborates this section, so that the check's memory limit holds the stacks.
set_option Elab.async false

/-! ### The law in two halves -/

/-- The brush of an arm stands outside WORKING (R87). -/
def brushStands (n : ArmId) (s : State) : Prop :=
  (s.arm n).state ≠ .working → (s.arm n).command = 0 ∧ (s.sp.brush n).ramp.out = 0

/-- An arm that the state of the station lets stand (R68, R80, R85): lowering or working in RUNNING and a sweep mode
alone, HELD where its fault is sticky, STOWED or HELD where it is not populated, and HELD without a fault in LOADING. -/
def armAllowed (n : ArmId) (st : ArmState) (s : State) : Prop :=
  (st = .lowering ∨ st = .working → s.start.station = .running ∧ sweeping s)
  ∧ (sticky (armFault n) s = true → st = .held)
  ∧ (populated (armChannel n) s = false → st = .stowed ∨ st = .held)
  ∧ (s.start.station = .loading →
      sticky (armFault n) s = false ∧ (populated (armChannel n) s = true → st = .held))

/-- The timers of an arm run where R77 and R84 run them. -/
def timersFit (a : Arm) : Prop :=
  (a.moveTimer.isSome = true → a.state = .lowering ∨ a.state = .lifting)
  ∧ (a.blindTimer.isSome = true → a.state = .working)

theorem armLaw_iff (n : ArmId) (s : State) :
    armLaw n s ↔ armAllowed n (s.arm n).state s ∧ brushStands n s ∧ timersFit (s.arm n) := by
  unfold armLaw armAllowed brushStands timersFit
  tauto

/-- What `armAllowed` reads of a state: the station, the mode, the role and no more sticky faults. -/
theorem armAllowed.congr {n : ArmId} {st : ArmState} {s t : State} (h : armAllowed n st s) (hstart : t.start = s.start)
    (hsticky : sticky (armFault n) t = true → sticky (armFault n) s = true) : armAllowed n st t := by
  obtain ⟨hmove, hheld, hpop, hload⟩ := h
  unfold armAllowed populated sweeping at *
  rw [hstart]
  refine ⟨hmove, fun ht => hheld (hsticky ht), hpop, fun hl => ⟨?_, (hload hl).2⟩⟩
  have hclear := (hload hl).1
  cases hs : sticky (armFault n) t
  · rfl
  · rw [hsticky hs] at hclear
    exact absurd hclear (by decide)

/-- An arm with a sticky fault is HELD, so an arm in another state has none. -/
theorem armAllowed.clear {n : ArmId} {st : ArmState} {s : State} (h : armAllowed n st s) (hst : st ≠ .held) :
    sticky (armFault n) s = false := by
  obtain ⟨-, hheld, -⟩ := h
  by_contra hs
  exact hst (hheld (by simpa using hs))

/-- An arm that is neither STOWED nor HELD is populated. -/
theorem armAllowed.has {n : ArmId} {st : ArmState} {s : State} (h : armAllowed n st s) (hs : st ≠ .stowed)
    (hh : st ≠ .held) : populated (armChannel n) s = true := by
  obtain ⟨-, -, hpop, -⟩ := h
  by_contra hp
  exact (hpop (by simpa using hp)).elim hs hh

/-- A populated arm out of HELD stands after LOADING. -/
theorem armAllowed.loaded {n : ArmId} {st : ArmState} {s : State} (h : armAllowed n st s)
    (hp : populated (armChannel n) s = true) (hh : st ≠ .held) : s.start.station ≠ .loading := by
  obtain ⟨-, -, -, hload⟩ := h
  exact fun hl => hh ((hload hl).2 hp)

/-- HELD is always allowed to an arm without a fault in LOADING. -/
theorem armAllowed_held {n : ArmId} {s : State}
    (h : s.start.station = .loading → sticky (armFault n) s = false) : armAllowed n .held s :=
  ⟨by simp, fun _ => rfl, fun _ => .inr rfl, fun hl => ⟨h hl, fun _ => rfl⟩⟩

/-- A populated arm without a fault may stand after LOADING in each state that does not lower or work. -/
theorem armAllowed_of_clear {n : ArmId} {st : ArmState} {s : State} (hl : st ≠ .lowering) (hw : st ≠ .working)
    (hclear : sticky (armFault n) s = false) (hp : populated (armChannel n) s = true)
    (hload : s.start.station ≠ .loading) : armAllowed n st s :=
  ⟨fun h => absurd h (not_or.mpr ⟨hl, hw⟩), by simp [hclear], by simp [hp], fun h => absurd h hload⟩

/-! ### Frames -/

/-- An operation that leaves an arm, its brush output and the start unit, and sets no fault of the arm, keeps its law. -/
theorem armLaw_congr {n : ArmId} {s t : State} (h : armLaw n s) (harm : t.arm n = s.arm n)
    (hbrush : (t.sp.brush n).ramp.out = (s.sp.brush n).ramp.out) (hstart : t.start = s.start)
    (hsticky : sticky (armFault n) t = true → sticky (armFault n) s = true) : armLaw n t := by
  rw [armLaw_iff] at h ⊢
  obtain ⟨hallowed, hstands, hfit⟩ := h
  refine ⟨?_, ?_, ?_⟩
  · rw [harm]; exact hallowed.congr hstart hsticky
  · unfold brushStands; rw [harm, hbrush]; exact hstands
  · rw [harm]; exact hfit

/-- An operation that leaves the reset pin, the start unit and the arms keeps the law. -/
theorem ArmsLaw.of_keeps {l : List Part} {s t : State} (h : ArmsLaw s) (keeps : KeepsAllBut l s t)
    (hbrush : ∀ n, (t.sp.brush n).ramp.out = (s.sp.brush n).ramp.out)
    (hsticky : ∀ n, sticky (armFault n) t = true → sticky (armFault n) s = true)
    (hpins : Part.pins ∉ l := by decide) (hstart : Part.start ∉ l := by decide)
    (h1 : Part.arm1 ∉ l := by decide) (h2 : Part.arm2 ∉ l := by decide) : ArmsLaw t := by
  obtain ⟨hreset, harms⟩ := h
  refine ⟨?_, fun n => armLaw_congr (harms n) (keeps.arm n ?_) (hbrush n) (keeps.start hstart) (hsticky n)⟩
  · unfold resetLaw
    rw [keeps.pins hpins, keeps.start hstart]
    exact hreset
  · cases n <;> assumption

/-- An operation that leaves the setpoint engine and the fault unit too. -/
theorem ArmsLaw.of_keeps_sp {l : List Part} {s t : State} (h : ArmsLaw s) (keeps : KeepsAllBut l s t)
    (hpins : Part.pins ∉ l := by decide) (hstart : Part.start ∉ l := by decide)
    (h1 : Part.arm1 ∉ l := by decide) (h2 : Part.arm2 ∉ l := by decide) (hsp : Part.sp ∉ l := by decide)
    (hfaults : Part.faults ∉ l := by decide) : ArmsLaw t :=
  h.of_keeps keeps (fun n => by rw [keeps.sp hsp]) (fun n => by rw [sticky_congr (keeps.faults hfaults)]; exact id)
    hpins hstart h1 h2

/-- An operation that leaves the setpoint engine and sets no arm fault. -/
theorem ArmsLaw.of_keeps_faults {l : List Part} {s t : State} (h : ArmsLaw s) (keeps : KeepsAllBut l s t)
    (hsticky : ∀ n, sticky (armFault n) t = true → sticky (armFault n) s = true)
    (hpins : Part.pins ∉ l := by decide) (hstart : Part.start ∉ l := by decide)
    (h1 : Part.arm1 ∉ l := by decide) (h2 : Part.arm2 ∉ l := by decide) (hsp : Part.sp ∉ l := by decide) : ArmsLaw t :=
  h.of_keeps keeps (fun n => by rw [keeps.sp hsp]) hsticky hpins hstart h1 h2

theorem armFault_ne {n : ArmId} {k : FaultKind} (h1 : k ≠ .arm1Fault) (h2 : k ≠ .arm2Fault) : armFault n ≠ k := by
  cases n
  · exact h1.symm
  · exact h2.symm

/-- A hand-over of no arm kind keeps the law. -/
theorem ArmsLaw.handOver {s : State} (h : ArmsLaw s) {k : FaultKind} (present : Bool) (h1 : k ≠ .arm1Fault)
    (h2 : k ≠ .arm2Fault) : ArmsLaw (handOver k present s) :=
  h.of_keeps_faults (handOver_keeps k present s)
    (fun n => by rw [sticky_handOver_other (armFault_ne h1 h2)]; exact id)

theorem ArmsLaw.raiseOnce {s : State} (h : ArmsLaw s) {k : FaultKind} (h1 : k ≠ .arm1Fault)
    (h2 : k ≠ .arm2Fault) : ArmsLaw (raiseOnce k s) :=
  h.of_keeps_faults (raiseOnce_keeps k s)
    (fun n => by rw [sticky_raiseOnce, if_neg (armFault_ne h1 h2)]; exact id)

theorem armFault_not_inherited (n : ArmId) : armFault n ∉ inheritedKinds := by cases n <;> decide

theorem ArmsLaw.testInherited {s : State} (h : ArmsLaw s) : ArmsLaw (testInherited s) :=
  h.of_keeps_faults (testInherited_keeps s)
    (fun n => by rw [(testInherited_other (armFault_not_inherited n) s).2]; exact id)

theorem ArmsLaw.makeDue {s : State} (h : ArmsLaw s) : ArmsLaw (makeDue s) := h.of_keeps_sp (makeDue_keeps s)

/-! ### Entering a state -/

theorem enterArm_brush_other {n m : ArmId} (h : m ≠ n) (st : ArmState) (r : Bool) (s : State) :
    (enterArm n st r s).sp.brush m = s.sp.brush m := by
  have hstop : ∀ u, (stopBrush n u).sp.brush m = u.sp.brush m := fun u => by
    simp [stopBrush, State.withBrush_brush_other _ _ _ _ h]
  simp only [enterArm]
  split_ifs <;> simp [hstop]

/-- The arm an entry leaves: the fields of the entered arm, with the brush at 0 where it leaves WORKING (R77, R84, R87). -/
theorem enterArm_arm (n : ArmId) (st : ArmState) (r : Bool) (s : State) :
    (enterArm n st r s).arm n
      = { (s.arm n).entered st r with
          command := if (s.arm n).state = .working ∧ st ≠ .working then 0 else (s.arm n).command } := by
  simp only [enterArm]
  split_ifs with h1 h2 h2 h3 <;> simp_all [stopBrush_arm_self, Arm.entered]

theorem enterArm_brush (n : ArmId) (st : ArmState) (r : Bool) (s : State) :
    (enterArm n st r s).sp.brush n
      = if (s.arm n).state = .working ∧ st ≠ .working then
          { s.sp.brush n with ramp := (s.sp.brush n).ramp.setOut 0 }
        else s.sp.brush n := by
  simp only [enterArm]
  split_ifs with h1 h2 h2 h3 <;> simp_all [stopBrush]

theorem sticky_enterArm (k : FaultKind) (n : ArmId) (st : ArmState) (r : Bool) (s : State) :
    sticky k (enterArm n st r s) = sticky k s := sticky_congr (enterArm_faults n st r s) k

theorem entered_timersFit (a : Arm) (st : ArmState) (r : Bool) : timersFit (a.entered st r) := by
  unfold timersFit Arm.entered moveTimerAfter
  simp only
  constructor
  · split
    · exact fun _ => ‹_›
    · simp
  · split
    · exact fun _ => ‹_›
    · simp

/-- An arm whose brush stands keeps the law in each state it may take. -/
theorem enterArm_armLaw {n : ArmId} {st : ArmState} (r : Bool) {s : State} (hstands : brushStands n s)
    (hallowed : armAllowed n st s) : armLaw n (enterArm n st r s) := by
  rw [armLaw_iff, (enterArm_state n st r s).1]
  refine ⟨hallowed.congr (enterArm_start n st r s) (by rw [sticky_enterArm]; exact id), ?_, ?_⟩
  · intro hne
    rw [(enterArm_state n st r s).1] at hne
    rw [enterArm_arm, enterArm_brush]
    by_cases hw : (s.arm n).state = .working
    · simp [hw, hne, Ramp.setOut]
    · simpa [hw] using hstands hw
  · rw [enterArm_arm]
    exact entered_timersFit (s.arm n) st r

theorem enterArm_armLaw_other {n m : ArmId} (hm : m ≠ n) {st : ArmState} {r : Bool} {s : State} (h : armLaw m s) :
    armLaw m (enterArm n st r s) :=
  armLaw_congr h (enterArm_arm_other hm st r s) (by rw [enterArm_brush_other hm]) (enterArm_start n st r s)
    (by rw [sticky_enterArm]; exact id)

theorem resetLaw_congr {s t : State} (h : resetLaw s) (hpins : t.pins = s.pins) (hstart : t.start = s.start) :
    resetLaw t := by
  unfold resetLaw
  rw [hpins, hstart]
  exact h

/-- An arm that enters an allowed state keeps the law of both arms. -/
theorem enterArm_armsLaw {n : ArmId} {st : ArmState} (r : Bool) {s : State} (h : ArmsLaw s)
    (hallowed : armAllowed n st s) : ArmsLaw (enterArm n st r s) := by
  obtain ⟨hreset, harms⟩ := h
  refine ⟨resetLaw_congr hreset (enterArm_pins n st r s) (enterArm_start n st r s), fun m => ?_⟩
  by_cases hm : m = n
  · subst hm
    exact enterArm_armLaw r ((armLaw_iff m s).mp (harms m)).2.1 hallowed
  · exact enterArm_armLaw_other hm (harms m)

theorem ArmsLaw.allowed {s : State} (h : ArmsLaw s) (n : ArmId) : armAllowed n (s.arm n).state s :=
  ((armLaw_iff n s).mp (h.2 n)).1

theorem ArmsLaw.stands {s : State} (h : ArmsLaw s) (n : ArmId) : brushStands n s :=
  ((armLaw_iff n s).mp (h.2 n)).2.1

theorem ArmsLaw.fits {s : State} (h : ArmsLaw s) (n : ArmId) : timersFit (s.arm n) :=
  ((armLaw_iff n s).mp (h.2 n)).2.2

/-! ### Stow demands and entry to SILENCED -/

/-- The law of an arm but for what R80 allows it: the law that a change of mode or station may break until the arm has
been moved. -/
def armLoose (n : ArmId) (s : State) : Prop :=
  (sticky (armFault n) s = true → (s.arm n).state = .held)
  ∧ (populated (armChannel n) s = false → (s.arm n).state = .stowed ∨ (s.arm n).state = .held)
  ∧ s.start.station ≠ .loading ∧ brushStands n s ∧ timersFit (s.arm n)

theorem armLoose_congr {n : ArmId} {s t : State} (h : armLoose n s) (harm : t.arm n = s.arm n)
    (hbrush : (t.sp.brush n).ramp.out = (s.sp.brush n).ramp.out) (hrole : t.start.role = s.start.role)
    (hstation : t.start.station ≠ .loading)
    (hsticky : sticky (armFault n) t = true → sticky (armFault n) s = true) : armLoose n t := by
  obtain ⟨hheld, hpop, -, hstands, hfit⟩ := h
  unfold armLoose brushStands populated at *
  rw [harm, hbrush, hrole]
  exact ⟨fun ht => hheld (hsticky ht), hpop, hstation, hstands, hfit⟩

theorem armLoose_of_law {n : ArmId} {s : State} (h : armLaw n s) (hstation : s.start.station ≠ .loading) :
    armLoose n s := by
  rw [armLaw_iff] at h
  obtain ⟨⟨-, hheld, hpop, -⟩, hstands, hfit⟩ := h
  exact ⟨hheld, hpop, hstation, hstands, hfit⟩

/-- A loose arm that neither lowers nor works keeps the law. -/
theorem armLaw_of_loose {n : ArmId} {s : State} (h : armLoose n s) (hl : (s.arm n).state ≠ .lowering)
    (hw : (s.arm n).state ≠ .working) : armLaw n s := by
  obtain ⟨hheld, hpop, hstation, hstands, hfit⟩ := h
  exact (armLaw_iff n s).mpr
    ⟨⟨fun h => absurd h (not_or.mpr ⟨hl, hw⟩), hheld, hpop, fun h => absurd h hstation⟩, hstands, hfit⟩

theorem armLoose.clear {n : ArmId} {s : State} (h : armLoose n s) (hst : (s.arm n).state ≠ .held) :
    sticky (armFault n) s = false := by
  obtain ⟨hheld, -⟩ := h
  by_contra hs
  exact hst (hheld (by simpa using hs))

/-- A loose arm that is not populated neither lowers nor works. -/
theorem armLaw_of_loose_of_not_populated {n : ArmId} {s : State} (h : armLoose n s)
    (hp : populated (armChannel n) s = false) : armLaw n s := by
  have hst := h.2.1 hp
  exact armLaw_of_loose h (by rcases hst with h | h <;> simp [h]) (by rcases hst with h | h <;> simp [h])

/-- A stow demand leaves a populated arm under the law, whatever the mode lets it do (R79, R80). -/
theorem stowDemand_armLaw {n : ArmId} {s : State} (h : armLoose n s) (hp : populated (armChannel n) s = true) :
    armLaw n (stowDemand n s) := by
  have henter : ∀ st, st ≠ .lowering → st ≠ .working → sticky (armFault n) s = false →
      armLaw n (enterArm n st false s) := fun st hl hw hclear =>
    enterArm_armLaw false h.2.2.2.1 (armAllowed_of_clear hl hw hclear hp h.2.2.1)
  unfold stowDemand
  split
  case h_1 hs => exact armLaw_of_loose h (by simp [hs]) (by simp [hs])
  case h_2 hs => exact henter _ (by decide) (by decide) (h.clear (by simp [hs]))
  case h_3 hs => exact henter _ (by decide) (by decide) (h.clear (by simp [hs]))
  case h_4 hs => exact henter _ (by decide) (by decide) (h.clear (by simp [hs]))
  case h_5 hs => exact henter _ (by decide) (by decide) (h.clear (by simp [hs]))
  case h_6 hs =>
    split
    · exact armLaw_of_loose h (by simp [hs]) (by simp [hs])
    · next htrip => exact henter _ (by decide) (by decide) (by simpa [heldByTrip, hs] using htrip)

/-- Entry to SILENCED leaves a populated arm under the law (R80). -/
theorem silenceArm_armLaw {n : ArmId} {s : State} (h : armLoose n s) (hp : populated (armChannel n) s = true) :
    armLaw n (silenceArm n s) := by
  have hstands := h.2.2.2.1
  have hheld : armLaw n (enterArm n .held false s) :=
    enterArm_armLaw false hstands (armAllowed_held fun hl => absurd hl h.2.2.1)
  unfold silenceArm
  split
  case h_4 hs =>
    exact enterArm_armLaw false hstands
      (armAllowed_of_clear (by decide) (by decide) (h.clear (by simp [hs])) hp h.2.2.1)
  case h_5 hs => exact armLaw_of_loose h (by simp [hs]) (by simp [hs])
  case h_6 hs => exact armLaw_of_loose h (by simp [hs]) (by simp [hs])
  all_goals exact hheld

/-- An operation on one arm leaves the other arm, its brush and the sticky set. -/
def armLocal (f : ArmId → State → State) : Prop :=
  ∀ n s, (f n s).faults = s.faults ∧ (f n s).pins = s.pins ∧ (f n s).start = s.start
    ∧ ∀ m, m ≠ n → (f n s).arm m = s.arm m ∧ (f n s).sp.brush m = s.sp.brush m

theorem stowDemand_local : armLocal stowDemand := by
  refine fun n s => ⟨stowDemand_faults n s, stowDemand_pins n s, stowDemand_start n s, fun m hm => ?_⟩
  rcases stowDemand_cases n s with h | h | ⟨_, h⟩ <;> rw [h]
  · exact ⟨rfl, rfl⟩
  all_goals exact ⟨enterArm_arm_other hm _ _ _, enterArm_brush_other hm _ _ _⟩

theorem silenceArm_local : armLocal silenceArm := by
  refine fun n s => ⟨silenceArm_faults n s, silenceArm_pins n s, silenceArm_start n s, fun m hm => ?_⟩
  rcases silenceArm_cases n s with h | h | ⟨_, h⟩ <;> rw [h]
  · exact ⟨rfl, rfl⟩
  all_goals exact ⟨enterArm_arm_other hm _ _ _, enterArm_brush_other hm _ _ _⟩

/-- One arm's turn: the operation where the role populates the arm. -/
def armTurn (f : ArmId → State → State) (n : ArmId) (s : State) : State :=
  if populated (armChannel n) s then f n s else s

/-- ARM1 has its turn before ARM2. -/
theorem forArms_eq_turns {f : ArmId → State → State} (hf : ∀ n s, (f n s).start = s.start) (s : State) :
    forArms f s = armTurn f .two (armTurn f .one s) := by
  have hstart : (armTurn f .one s).start = s.start := by
    unfold armTurn
    split
    · exact hf _ _
    · rfl
  have hpop : populated (armChannel .two) (armTurn f .one s) = populated .arm2 s := by
    unfold populated
    rw [hstart]
    rfl
  rw [armTurn, hpop]
  rfl

theorem armTurn_local {f : ArmId → State → State} (hlocal : armLocal f) : armLocal (armTurn f) := by
  intro n s
  unfold armTurn
  split
  · exact hlocal n s
  · exact ⟨rfl, rfl, rfl, fun _ _ => ⟨rfl, rfl⟩⟩

/-- An operation that brings each populated arm under the law brings both arms under it. -/
theorem forArms_armsLaw {f : ArmId → State → State} (hlocal : armLocal f)
    (hlaw : ∀ n s, armLoose n s → populated (armChannel n) s = true → armLaw n (f n s)) {s : State}
    (hreset : resetLaw s) (h : ∀ n, armLoose n s) : ArmsLaw (forArms f s) := by
  have hturn : ∀ n u, armLoose n u → armLaw n (armTurn f n u) := by
    intro n u hu
    unfold armTurn
    split
    · exact hlaw n u hu ‹_›
    · exact armLaw_of_loose_of_not_populated hu (by simpa using ‹¬ populated (armChannel n) u = true›)
  obtain ⟨hfaults1, hpins1, hstart1, hother1⟩ := armTurn_local hlocal .one s
  obtain ⟨hfaults2, hpins2, hstart2, hother2⟩ := armTurn_local hlocal .two (armTurn f .one s)
  obtain ⟨harm2, hbrush2⟩ := hother1 .two (by decide)
  obtain ⟨harm1, hbrush1⟩ := hother2 .one (by decide)
  have hstation := (h .two).2.2.1
  rw [forArms_eq_turns fun n u => (hlocal n u).2.2.1]
  refine ⟨resetLaw_congr hreset (hpins2.trans hpins1) (hstart2.trans hstart1), fun n => ?_⟩
  cases n with
  | one =>
    exact armLaw_congr (hturn .one s (h .one)) harm1 (by rw [hbrush1]) hstart2 (by rw [sticky_congr hfaults2]; exact id)
  | two =>
    exact hturn .two _ (armLoose_congr (h .two) harm2 (by rw [hbrush2]) (by rw [hstart1]) (by rwa [hstart1])
      (by rw [sticky_congr hfaults1]; exact id))

end Sys2Proof.Machine
end

section
/-! SUPPORT. Every effect of a command keeps the law of the arms. -/

namespace Sys2Proof.Machine

-- One thread elaborates this section, so that the check's memory limit holds the stacks.
set_option Elab.async false

/-! ### The sites that drive and water leave alone -/

/-- A drive period changes the DRV site alone. -/
theorem drivePeriod_sites (b : StartBlock) (s : State) :
    (∀ n, (drivePeriod b s).sp.brush n = s.sp.brush n) ∧ (drivePeriod b s).sp.wtr = s.sp.wtr := by
  have htrip : ∀ u, (∀ n, (tripTest u).sp.brush n = u.sp.brush n) ∧ (tripTest u).sp.wtr = u.sp.wtr := fun u => by
    rcases tripTest_cases u with h | ⟨_, h⟩ <;> rw [h]
    · exact ⟨fun _ => rfl, rfl⟩
    · exact ⟨fun n => by cases n <;> rfl, rfl⟩
  have hmove : ∀ u, (∀ n, (driveTransition b u).sp.brush n = u.sp.brush n)
      ∧ (driveTransition b u).sp.wtr = u.sp.wtr := fun u => by
    unfold driveTransition
    split
    case h_6 =>
      rcases periodTripped_cases u with h | h <;> rw [h]
      · exact ⟨fun _ => rfl, rfl⟩
      · exact ⟨fun n => by cases n <;> rfl, rfl⟩
    all_goals exact ⟨fun _ => rfl, rfl⟩
  have hchain : ∀ u, (∀ n, (driveChain b u).sp.brush n = u.sp.brush n) ∧ (driveChain b u).sp.wtr = u.sp.wtr :=
    fun u => ⟨fun n => by cases n <;> rfl, rfl⟩
  constructor
  · intro n
    simp only [drivePeriod, (quietPeriod_keeps _).sp, updateTrim_sp, standTest_sp, (hchain _).1, (hmove _).1,
      driveBegin, (htrip _).1, (readDriveInputs_keeps b s).sp]
  · simp only [drivePeriod, (quietPeriod_keeps _).sp, updateTrim_sp, standTest_sp, (hchain _).2, (hmove _).2,
      driveBegin, (htrip _).2, (readDriveInputs_keeps b s).sp]

theorem enterSpraying_brush (b : StartBlock) (n : ArmId) (s : State) :
    (enterSpraying b s).sp.brush n = s.sp.brush n := by
  cases n <;> simp [enterSpraying, Setpoint.brush]

theorem waterPeriod_brush (b : StartBlock) (n : ArmId) (s : State) :
    (waterPeriod b s).sp.brush n = s.sp.brush n := by
  have htests : ∀ u, (waterTests b u).sp.brush n = u.sp.brush n := fun u => by
    rcases waterTests_cases b u with h | ⟨_, _, h⟩ | ⟨_, _, h⟩ | ⟨_, _, h⟩ | ⟨_, h⟩ <;> rw [h]
    · rw [(enterPriming_keeps u).sp]
    · exact enterSpraying_brush b n u
    · rw [(lossTest_keeps b u).sp]
    · simp
  have hsite : ∀ (u : State) x, (u.withWaterSite x).sp.brush n = u.sp.brush n := fun u x => by cases n <;> rfl
  have houtputs : ∀ u, (waterOutputs b u).sp.brush n = u.sp.brush n := fun u => by
    unfold waterOutputs
    split <;> rfl
  have hmove : ∀ u, (waterInputMove u).sp.brush n = u.sp.brush n := fun u => by
    unfold waterInputMove
    split <;> simp
  simp only [waterPeriod, waterRecompute, hsite, houtputs, htests, hmove, (readWaterInputs_keeps b s).sp]

theorem failedPrime_brush (n : ArmId) (s : State) : (failedPrime s).sp.brush n = s.sp.brush n := by
  cases n <;> (simp only [failedPrime]; split) <;> simp [quietWater, Setpoint.brush]

theorem dryWaitEnded_brush (b : StartBlock) (n : ArmId) (s : State) :
    (dryWaitEnded b s).sp.brush n = s.sp.brush n := by
  unfold dryWaitEnded
  split
  · rw [(primeOutputs_keeps b _).sp, (enterPriming_keeps s).sp]
  · simp

/-! ### The arm faults that the other channels leave alone -/

theorem handOver_armFault {k : FaultKind} (h1 : k ≠ .arm1Fault) (h2 : k ≠ .arm2Fault) (present : Bool) (n : ArmId)
    (s : State) : sticky (armFault n) (handOver k present s) = sticky (armFault n) s :=
  sticky_handOver_other (armFault_ne h1 h2) present s

theorem raiseOnce_armFault {k : FaultKind} (h1 : k ≠ .arm1Fault) (h2 : k ≠ .arm2Fault) (n : ArmId) (s : State) :
    sticky (armFault n) (raiseOnce k s) = sticky (armFault n) s := by
  rw [sticky_raiseOnce, if_neg (armFault_ne h1 h2)]

theorem readDriveInputs_armFault (b : StartBlock) (n : ArmId) (s : State) :
    sticky (armFault n) (readDriveInputs b s) = sticky (armFault n) s := by
  have hpressure : ∀ (u : State) d, sticky (armFault n) (if pressureValid u then u.withDrive d else u)
      = sticky (armFault n) u := by
    intro u d
    split <;> rfl
  simp only [readDriveInputs]
  rw [handOver_armFault (by decide) (by decide), hpressure, handOver_armFault (by decide) (by decide),
    handOver_armFault (by decide) (by decide)]
  rfl

theorem drivePeriod_armFault (b : StartBlock) (n : ArmId) (s : State) :
    sticky (armFault n) (drivePeriod b s) = sticky (armFault n) s := by
  have hquiet : ∀ u, sticky (armFault n) (quietPeriod u) = sticky (armFault n) u := by
    intro u
    unfold quietPeriod
    split
    · rw [restartSpeedSilence, handOver_armFault (by decide) (by decide)]
      rfl
    · rfl
  simp only [drivePeriod]
  rw [hquiet, sticky_congr (updateTrim_keeps b _).faults, sticky_congr (standTest_keeps b _ _).faults,
    sticky_congr (driveChain_keeps b _).faults, sticky_congr (driveTransition_keeps b _).faults, driveBegin,
    sticky_congr (tripTest_keeps _).faults, readDriveInputs_armFault]

theorem waterPeriod_armFault (b : StartBlock) (n : ArmId) (s : State) :
    sticky (armFault n) (waterPeriod b s) = sticky (armFault n) s := by
  simp only [waterPeriod]
  rw [sticky_congr (waterRecompute_keeps b _).faults, sticky_congr (waterOutputs_keeps b _).faults,
    sticky_congr (waterTests_keeps b _).faults, sticky_congr (waterInputMove_keeps _).faults]
  simp only [readWaterInputs]
  rw [handOver_armFault (by decide) (by decide), handOver_armFault (by decide) (by decide),
    handOver_armFault (by decide) (by decide)]
  rfl

theorem failedPrime_armFault (n : ArmId) (s : State) :
    sticky (armFault n) (failedPrime s) = sticky (armFault n) s := by
  simp only [failedPrime]
  split
  · rw [sticky_congr (enterWater_keeps _ _).faults]
    exact sticky_congr (quietWater_keeps s).faults _
  · rw [handOver_armFault (by decide) (by decide), sticky_congr (enterWater_keeps _ _).faults]
    exact sticky_congr (quietWater_keeps s).faults _

theorem giveUp_armFault (tag : Nibble) (n : ArmId) (s : State) :
    sticky (armFault n) (giveUp tag s) = sticky (armFault n) s := by
  rw [giveUp, raiseOnce_armFault (by decide) (by decide), sticky_congr (removeOutgoing_keeps tag s).faults]

theorem repeatExpired_armFault (e : OutgoingEntry) (n : ArmId) (s : State) :
    sticky (armFault n) (repeatExpired e s) = sticky (armFault n) s := by
  unfold repeatExpired
  split
  · split
    · exact giveUp_armFault _ n s
    · rw [sticky_congr (requeue_keeps e _).faults, sticky_congr (mapOutgoing_keeps _ _ s).faults]
  · rw [sticky_congr (requeue_keeps e s).faults]
  · rfl

theorem serveSlot_armFault (b : StartBlock) (i : Fin 8) (onEdge : Bool) (made : List Nibble)
    (slot : Option SwitchSlot) (n : ArmId) (s : State) :
    sticky (armFault n) (serveSlot b i onEdge made slot s) = sticky (armFault n) s := by
  cases slot with
  | none => rfl
  | some x =>
    have hremove : sticky (armFault n) (removeEarlier i x.dest made s) = sticky (armFault n) s :=
      sticky_congr (removeAll_keeps _ s).faults _
    simp only [serveSlot]
    split
    · rw [raiseOnce_armFault (by decide) (by decide), hremove]
    · rw [sticky_congr (makeOutgoing_keeps b i onEdge x _).faults, hremove]

theorem switchEdge_armFault (b : StartBlock) (i : Fin 8) (onEdge : Bool) (n : ArmId) (s : State) :
    sticky (armFault n) (switchEdge b i onEdge s) = sticky (armFault n) s := by
  rw [switchEdge, serveSlot_armFault, serveSlot_armFault]

theorem acceptReport_armFault (n : Fin 15) (seq : Byte) (v : ReportValues) (last : Option FaultKind) (m : ArmId)
    (s : State) : sticky (armFault m) (acceptReport n seq v last s) = sticky (armFault m) s :=
  (testInherited_other (armFault_not_inherited m) _).2

theorem takeReport_armFault (n : Fin 15) (seq : Byte) (v : ReportValues) (m : ArmId) (s : State) :
    sticky (armFault m) (takeReport n seq v s) = sticky (armFault m) s := by
  unfold takeReport
  split
  · exact acceptReport_armFault _ _ _ _ m s
  · split_ifs
    · exact acceptReport_armFault _ _ _ _ m s
    · rfl
    · exact acceptReport_armFault _ _ _ _ m s
    · exact acceptReport_armFault _ _ _ _ m _

theorem takeAnswer_armFault (f : Frame) (n : ArmId) (s : State) :
    sticky (armFault n) (takeAnswer f s) = sticky (armFault n) s := by
  unfold takeAnswer
  split
  · unfold answered backOffOrGiveUp
    split_ifs
    · rfl
    · rfl
    · rfl
    · exact giveUp_armFault _ n s
    · rfl
    · exact sticky_congr (removeOutgoing_keeps _ s).faults _
  · rfl

/-! ### The arm period -/

/-- Step 1 of a period sets the fault of an arm with a BAD position alone (R69). -/
theorem sticky_readPosition (n m : ArmId) (s : State) :
    sticky (armFault m) (readPosition n s)
      = if m = n ∧ inSpan (positionPin n s) = false then true else sticky (armFault m) s := by
  have hne : armFault m = armFault n ↔ m = n := by cases m <;> cases n <;> simp [armFault]
  have htank : armFault n ≠ .tankLow := by cases n <;> decide
  simp only [readPosition, sticky_handOver, sticky_handOverStall, hne]
  by_cases hm : m = n
  · subst hm
    cases inSpan (positionPin m s) <;> simp [htank, sticky]
  · simp [hm, sticky]

theorem readPosition_arm (n m : ArmId) (s : State) :
    (readPosition n s).arm m = if m = n then { s.arm n with position := positionPin n s } else s.arm m := by
  have hover : ∀ k p (u : State), (handOver k p u).arm m = u.arm m := fun k p u => by cases m <;> simp [State.arm]
  have hstall : ∀ p (u : State), (handOverStall n p u).arm m = u.arm m := fun p u => by cases m <;> simp [State.arm]
  simp only [readPosition, hover, hstall]
  split
  · next hm => subst hm; simp
  · next hm => exact State.withArm_arm_other s n m _ hm

/-- Steps 1 and 2 leave the law: a BAD position sets the fault and takes the arm to HELD (R69, R85). -/
theorem positionSteps_law {n : ArmId} {s : State} (h : ArmsLaw s) (hload : s.start.station ≠ .loading) :
    ArmsLaw (positionFaultMove n (readPosition n s)) := by
  have hkeeps := readPosition_keeps n s
  have hstart : (readPosition n s).start = s.start := hkeeps.start (by cases n <;> decide)
  have hpins : (readPosition n s).pins = s.pins := hkeeps.pins (by cases n <;> decide)
  have hsp : (readPosition n s).sp = s.sp := hkeeps.sp (by cases n <;> decide)
  have hreset : resetLaw (readPosition n s) := resetLaw_congr h.1 hpins hstart
  have hother : ∀ m, m ≠ n → armLaw m (readPosition n s) := fun m hm =>
    armLaw_congr (h.2 m) (by simp [readPosition_arm, hm]) (by rw [hsp]) hstart (by simp [sticky_readPosition, hm])
  have hstands : brushStands n (readPosition n s) := by
    unfold brushStands
    rw [readPosition_arm, if_pos rfl, hsp]
    exact h.stands n
  have hfits : timersFit ((readPosition n s).arm n) := by
    rw [readPosition_arm, if_pos rfl]
    exact h.fits n
  by_cases hbad : !inSpan ((readPosition n s).arm n).position ∧ ((readPosition n s).arm n).state ≠ .held
  · rw [positionFaultMove, if_pos hbad]
    refine ⟨resetLaw_congr hreset (enterArm_pins ..) (enterArm_start ..), fun m => ?_⟩
    by_cases hm : m = n
    · subst hm
      exact enterArm_armLaw false hstands (armAllowed_held fun hl => absurd (hstart ▸ hl) hload)
    · exact enterArm_armLaw_other hm (hother m hm)
  · rw [positionFaultMove, if_neg hbad]
    refine ⟨hreset, fun m => ?_⟩
    by_cases hm : m = n
    · subst hm
      refine (armLaw_iff m _).mpr ⟨?_, hstands, hfits⟩
      have hstate : ((readPosition m s).arm m).state = (s.arm m).state := by simp [readPosition_arm]
      obtain ⟨hmove, hheld, hpop, -⟩ := h.allowed m
      rw [hstate]
      unfold armAllowed sweeping populated at *
      rw [hstart]
      refine ⟨hmove, fun ht => ?_, hpop, fun hl => absurd hl hload⟩
      rw [sticky_readPosition] at ht
      by_cases hspan : inSpan (positionPin m s) = false
      · simpa [readPosition_arm, hspan] using hbad
      · exact hheld (by simpa [hspan] using ht)
    · exact hother m hm

/-- The tests of step 3 keep the law of a populated arm after LOADING. -/
theorem arrivalTest_law {b : StartBlock} {n : ArmId} {s : State} (h : ArmsLaw s)
    (hp : populated (armChannel n) s = true) : ArmsLaw (arrivalTest b n s) := by
  have hallowed := h.allowed n
  rcases arrivalTest_cases b n s with heq | ⟨hs, heq⟩ | ⟨hs, heq⟩ | ⟨hs, heq⟩ <;> rw [heq]
  · exact h
  · have hclear := hallowed.clear (by simp [hs])
    have hrun := hallowed.1 (.inl hs)
    exact enterArm_armsLaw _ h ⟨fun _ => hrun, by simp [hclear], by simp [hp], fun hl => by simp [hrun.1] at hl⟩
  all_goals
    exact enterArm_armsLaw _ h (armAllowed_of_clear (by decide) (by decide) (hallowed.clear (by simp [hs])) hp
      (hallowed.loaded hp (by simp [hs])))

theorem reverseLiftTest_law {b : StartBlock} {n : ArmId} {s : State} (h : ArmsLaw s)
    (hp : populated (armChannel n) s = true) : ArmsLaw (reverseLiftTest b n s) := by
  have hallowed := h.allowed n
  rcases reverseLiftTest_cases b n s with heq | ⟨hs, heq⟩ <;> rw [heq]
  · exact h
  · have hheld : (s.arm n).state ≠ .held := by rcases hs with hs | hs <;> simp [hs]
    exact enterArm_armsLaw _ h (armAllowed_of_clear (by decide) (by decide) (hallowed.clear hheld) hp
      (hallowed.loaded hp hheld))

/-- A lowering that R73 allows is in RUNNING and a sweep mode. -/
theorem lowerAllowed_running {b : StartBlock} {n : ArmId} {s : State} (h : lowerAllowed b n s = true) :
    s.start.station = .running ∧ sweeping s ∧ heldByTrip n s = false := by
  simp only [lowerAllowed, Bool.and_eq_true, Bool.or_eq_true, decide_eq_true_eq, Bool.not_eq_true'] at h
  obtain ⟨⟨⟨hmode, hrun⟩, _⟩, htrip⟩ := h
  exact ⟨hrun, hmode, htrip⟩

theorem resumeTest_law {b : StartBlock} {n : ArmId} {stood : ArmState} {s : State} (h : ArmsLaw s)
    (hp : populated (armChannel n) s = true) : ArmsLaw (resumeTest b n stood s) := by
  have hallowed := h.allowed n
  rcases resumeTest_cases b n stood s with heq | ⟨hs, hlower, heq⟩ <;> rw [heq]
  · exact h
  · obtain ⟨hrun, hsweep, -⟩ := lowerAllowed_running hlower
    have hclear := hallowed.clear (by simp [hs])
    exact enterArm_armsLaw _ h ⟨fun _ => ⟨hrun, hsweep⟩, by simp [hclear], by simp [hp], fun hl => by simp [hrun] at hl⟩

/-- The end of blind running lifts a WORKING arm (R84). -/
theorem blindExpired_law {n : ArmId} {s : State} (h : ArmsLaw s) (hs : (s.arm n).state = .working) :
    ArmsLaw (blindExpired n s) := by
  have hallowed := h.allowed n
  have hp := hallowed.has (by simp [hs]) (by simp [hs])
  have hlift : ArmsLaw (enterArm n .lifting false s) :=
    enterArm_armsLaw _ h (armAllowed_of_clear (by decide) (by decide) (hallowed.clear (by simp [hs])) hp
      (hallowed.loaded hp (by simp [hs])))
  unfold blindExpired
  simp only
  split
  · exact hlift
  · exact hlift.raiseOnce (by decide) (by decide)

/-- An arm takes fields that keep its state, its command and its timers in place. -/
theorem ArmsLaw.withArm {s : State} (h : ArmsLaw s) {n : ArmId} {a : Arm} (hstate : a.state = (s.arm n).state)
    (hcommand : brushStands n s → a.state ≠ .working → a.command = 0) (hfit : timersFit a) : ArmsLaw (s.withArm n a) := by
  obtain ⟨hreset, harms⟩ := h
  refine ⟨resetLaw_congr hreset (State.withArm_pins ..) (State.withArm_start ..), fun m => ?_⟩
  by_cases hm : m = n
  · subst hm
    obtain ⟨hallowed, hstands, -⟩ := (armLaw_iff m s).mp (harms m)
    refine (armLaw_iff m _).mpr ⟨?_, ?_, ?_⟩
    · rw [State.withArm_arm, hstate]
      exact hallowed.congr (State.withArm_start ..) (by rw [sticky_congr (State.withArm_faults ..)]; exact id)
    · intro hne
      rw [State.withArm_arm] at hne ⊢
      rw [State.withArm_sp]
      exact ⟨hcommand hstands hne, (hstands (by rwa [← hstate])).2⟩
    · rw [State.withArm_arm]; exact hfit
  · exact armLaw_congr (harms m) (State.withArm_arm_other s n m a hm) (by rw [State.withArm_sp])
      (State.withArm_start ..) (by rw [sticky_congr (State.withArm_faults ..)]; exact id)

theorem blindTest_law {b : StartBlock} {n : ArmId} {s : State} (h : ArmsLaw s) : ArmsLaw (blindTest b n s) := by
  rcases blindTest_cases b n s with heq | ⟨hs, heq⟩ | ⟨hs, timer, heq⟩ <;> rw [heq]
  · exact h
  · exact blindExpired_law h hs
  · exact h.withArm rfl (fun _ hne => absurd hs hne) ⟨(h.fits n).1, fun _ => hs⟩

theorem armTests_law {b : StartBlock} {n : ArmId} {s : State} (h : ArmsLaw s)
    (hp : populated (armChannel n) s = true) : ArmsLaw (armTests b n s) := by
  have hpop : ∀ {l : List Part} {u v : State}, KeepsAllBut l u v → Part.start ∉ l →
      populated (armChannel n) u = true → populated (armChannel n) v = true := fun hk hl hu => by
    unfold populated at *
    rwa [hk.start hl]
  have harrive := arrivalTest_law (b := b) h hp
  have hp1 := hpop (arrivalTest_keeps b n s) (by cases n <;> decide) hp
  have hreverse := reverseLiftTest_law (b := b) harrive hp1
  have hp2 := hpop (reverseLiftTest_keeps b n _) (by cases n <;> decide) hp1
  exact blindTest_law (resumeTest_law hreverse hp2)

/-- Steps 4 and 5: outside WORKING the command is 0 and the ramp stays where it is (R87). -/
theorem brushPeriod_law {b : StartBlock} {n : ArmId} {s : State} (h : ArmsLaw s) : ArmsLaw (brushPeriod b n s) := by
  have hsite : ∀ x : BlendSite, ((s.arm n).state ≠ .working → x.ramp.out = (s.sp.brush n).ramp.out) →
      ArmsLaw (s.withBrush n x) := by
    intro x hx
    refine ⟨resetLaw_congr h.1 (State.withBrush_pins ..) (State.withBrush_start ..), fun m => ?_⟩
    by_cases hm : m = n
    · subst hm
      refine (armLaw_iff m _).mpr ⟨?_, ?_, ?_⟩
      · rw [State.withBrush_arm]
        exact (h.allowed m).congr (State.withBrush_start ..) (by rw [sticky_congr (State.withBrush_faults ..)]; exact id)
      · intro hne
        rw [State.withBrush_arm] at hne ⊢
        rw [State.withBrush_brush, hx hne]
        exact h.stands m hne
      · rw [State.withBrush_arm]; exact h.fits m
    · exact armLaw_congr (h.2 m) (State.withBrush_arm ..) (by rw [State.withBrush_brush_other _ _ _ _ hm])
        (State.withBrush_start ..) (by rw [sticky_congr (State.withBrush_faults ..)]; exact id)
  unfold brushPeriod
  simp only
  split
  · next hw => exact (hsite _ (fun hne => absurd hw hne)).withArm (by simp) (fun _ hne => absurd hw hne) (h.fits n)
  · exact (hsite { s.sp.brush n with k := brushFactor b s } (fun _ => rfl)).withArm (n := n) (by simp) (fun _ _ => rfl)
      (h.fits n)

theorem armPeriod_law {b : StartBlock} {n : ArmId} {s : State} (h : ArmsLaw s) (hload : s.start.station ≠ .loading)
    (hp : populated (armChannel n) s = true) : ArmsLaw (armPeriod b n s) := by
  refine brushPeriod_law (armTests_law (positionSteps_law h hload) ?_)
  have hk1 := readPosition_keeps n s
  have hk2 := positionFaultMove_keeps n (readPosition n s)
  unfold populated at *
  rwa [hk2.start (by cases n <;> decide), hk1.start (by cases n <;> decide)]

/-- A move timer runs in LOWERING and LIFTING alone, so a stall finds a populated arm (R77). -/
theorem stall_law {n : ArmId} {s : State} (h : ArmsLaw s) (due : moveDue n s = true) : ArmsLaw (stall n s) := by
  have hallowed := h.allowed n
  have hstate := (h.fits n).1 (dueBy_isSome due)
  have hheld : (s.arm n).state ≠ .held := by rcases hstate with hs | hs <;> simp [hs]
  have hp := hallowed.has (by rcases hstate with hs | hs <;> simp [hs]) hheld
  have hload := hallowed.loaded hp hheld
  obtain ⟨hreset, harms⟩ := enterArm_armsLaw (n := n) (st := .held) false h (armAllowed_held fun hl => absurd hl hload)
  have hkeeps := handOverStall_keeps n true (enterArm n .held false s)
  refine ⟨resetLaw_congr hreset hkeeps.pins hkeeps.start, fun m => ?_⟩
  have harm := hkeeps.arm m (by cases m <;> decide)
  by_cases hm : m = n
  · subst hm
    obtain ⟨-, hstands, hfit⟩ := (armLaw_iff m _).mp (harms m)
    refine (armLaw_iff m _).mpr ⟨?_, ?_, ?_⟩
    · rw [stall, harm, (enterArm_state m .held false s).1]
      refine armAllowed_held fun hl => ?_
      rw [hkeeps.start, enterArm_start] at hl
      exact absurd hl hload
    · unfold brushStands; rw [stall, harm, hkeeps.sp]; exact hstands
    · rw [stall, harm]; exact hfit
  · refine armLaw_congr (harms m) harm (by rw [stall, hkeeps.sp]) hkeeps.start ?_
    have hne : armFault m ≠ armFault n := by cases m <;> cases n <;> simp_all [armFault]
    rw [stall, sticky_handOverStall, if_neg (fun hc => hne hc.1)]
    exact id

/-! ### The mode and SILENCED -/

theorem waterModeChange_law {m : Mode} {s : State} (h : ArmsLaw s) : ArmsLaw (waterModeChange m s) :=
  h.of_keeps (waterModeChange_keeps m s) (fun n => by rw [waterModeChange_brush])
    (fun n => by rw [sticky_congr (waterModeChange_keeps m s).faults]; exact id)

/-- A bank switch takes the markers off the ramps and keeps every output (R3). -/
theorem bankSwitch_brush (sp : Setpoint) (n : ArmId) : ((bankSwitch sp).brush n).ramp.out = (sp.brush n).ramp.out := by
  cases n <;> rfl

/-- A mode change in RUNNING: a sweep mode lets an arm lower and work, the others demand every arm up (R79, R80, R107). -/
theorem changeMode_armsLaw {m : Mode} {s : State} (h : ArmsLaw s) (hrun : s.start.station = .running) :
    ArmsLaw (changeMode m s) := by
  obtain ⟨hreset, harms⟩ := h
  have hreset' : resetLaw ((s.withStart { s.start with mode := m }).withSp (bankSwitch s.sp)) := hreset
  have hloose : ∀ n, armLoose n ((s.withStart { s.start with mode := m }).withSp (bankSwitch s.sp)) := fun n =>
    armLoose_congr (armLoose_of_law (harms n) (by simp [hrun])) (by simp) (by simp [bankSwitch_brush]) rfl
      (by simp [hrun]) id
  refine ArmsLaw.makeDue (waterModeChange_law ?_)
  split
  · exact forArms_armsLaw stowDemand_local (fun n u => stowDemand_armLaw) hreset' hloose
  · next hstow =>
    have hsweep : m = .sweepDry ∨ m = .sweepWet := by cases m <;> simp [stowsArms] at hstow ⊢
    refine ⟨hreset', fun n => ?_⟩
    obtain ⟨hheld, hpop, hstation, hstands, hfit⟩ := hloose n
    exact (armLaw_iff n _).mpr ⟨⟨fun _ => ⟨hrun, hsweep⟩, hheld, hpop, fun hl => absurd hl hstation⟩, hstands, hfit⟩

theorem takeMode_armsLaw {m : Mode} {s : State} (h : ArmsLaw s) (hrun : s.start.station = .running) :
    ArmsLaw (takeMode m s) := by
  unfold takeMode
  split
  · exact h
  · exact changeMode_armsLaw h hrun

theorem demandTransport_armsLaw {s : State} (h : ArmsLaw s) (hrun : s.start.station = .running) :
    ArmsLaw (demandTransport s) := by
  unfold demandTransport
  split
  · exact forArms_armsLaw stowDemand_local (fun n u => stowDemand_armLaw) h.1
      (fun n => armLoose_of_law (h.2 n) (by simp [hrun]))
  · exact changeMode_armsLaw h hrun

theorem stopWater_armsLaw {s : State} (h : ArmsLaw s) : ArmsLaw (stopWater s) :=
  h.of_keeps (stopWater_keeps s) (fun n => by rw [stopWater_brush])
    (fun n => by rw [sticky_congr (stopWater_keeps s).faults]; exact id)

theorem enterSilenced_armsLaw {s : State} (h : ArmsLaw s) (hload : s.start.station ≠ .loading) :
    ArmsLaw (enterSilenced s) := by
  have hraise : ArmsLaw (raiseOnce .lineFault s) := h.raiseOnce (by decide) (by decide)
  have hstart : (raiseOnce .lineFault s).start = s.start := raiseOnce_start _ s
  have hpins : (raiseOnce .lineFault s).pins = s.pins := raiseOnce_pins _ s
  refine stopWater_armsLaw (forArms_armsLaw silenceArm_local (fun n u => silenceArm_armLaw) ?_ fun n => ?_)
  · intro hlow
    exact absurd (h.1 (by rw [← hpins]; exact hlow)) hload
  · exact armLoose_congr (armLoose_of_law (hraise.2 n) (by rwa [hstart])) (by simp) (by simp) rfl (by simp) id

theorem sortFrame_armsLaw {f : Frame} {s : State} (h : ArmsLaw s) (hload : s.start.station ≠ .loading) :
    ArmsLaw (sortFrame f s) := by
  unfold sortFrame duplicateStation
  split_ifs
  · exact enterSilenced_armsLaw h hload
  · exact h
  · exact h.of_keeps_sp (queueFrame_keeps f s)
  · exact h

theorem cutOff_armsLaw {s : State} (h : ArmsLaw s) : ArmsLaw (cutOff s) := by
  have hline : ∀ x, ArmsLaw (s.withLine x) := fun x => h.of_keeps_sp (State.withLine_keeps s x)
  unfold cutOff
  simp only
  split
  case h_1 hs => exact enterSilenced_armsLaw (hline _) (by rw [hs]; decide)
  case h_2 hs => exact enterSilenced_armsLaw (hline _) (by rw [hs]; decide)
  case h_3 => exact ((hline _).of_keeps_sp (State.withLine_keeps _ _)).raiseOnce (by decide) (by decide)
  all_goals exact hline _

/-! ### Requests -/

theorem heldByTrip_false {n : ArmId} {s : State} (h : ArmsLaw s) (hfree : heldByTrip n s = false) :
    sticky (armFault n) s = false := by
  obtain ⟨-, hheld, -⟩ := h.allowed n
  by_contra hs
  have hs' : sticky (armFault n) s = true := by simpa using hs
  simp [heldByTrip, hheld hs', hs'] at hfree

theorem armToTarget_armsLaw {n : ArmId} {target : Target} {s : State} (h : ArmsLaw s)
    (hrun : s.start.station = .running) (hp : populated (armChannel n) s = true)
    (hfree : heldByTrip n s = false) (hwork : target = .work → sweeping s) : ArmsLaw (armToTarget n target s) := by
  have hclear := heldByTrip_false h hfree
  rcases armToTarget_cases n target s with heq | ⟨ht, heq⟩ | ⟨_, heq⟩ | ⟨_, _, heq⟩ <;> rw [heq]
  · exact h
  · exact enterArm_armsLaw _ h
      ⟨fun _ => ⟨hrun, hwork ht⟩, by simp [hclear], by simp [hp], fun hl => by simp [hrun] at hl⟩
  all_goals
    exact enterArm_armsLaw _ h (armAllowed_of_clear (by decide) (by decide) hclear hp (by simp [hrun]))

/-- An ARM_MOVE that R73 or R75 allows finds an arm that no trip holds, and a WORK a sweep mode. -/
theorem moveAllowed_free {n : ArmId} {target : Target} {s : State} (h : moveAllowed n target s = true) :
    heldByTrip n s = false ∧ (target = .work → sweeping s) := by
  cases target
  · exact ⟨by simpa [moveAllowed] using h, by simp⟩
  · simp only [moveAllowed] at h
    split at h
    · obtain ⟨-, hsweep, htrip⟩ := lowerAllowed_running h
      exact ⟨htrip, fun _ => hsweep⟩
    · cases h

/-- FAULT_CLEAR takes members out of the sticky set and puts none in (R159). -/
theorem clearedSticky_le {mask : FaultSet} {f : Faults} {k : FaultKind}
    (h : hasKind (clearedSticky mask f) k = true) : hasKind f.sticky k = true := by
  simp only [hasKind, clearedSticky, BitVec.getLsbD_and, Bool.and_eq_true] at h
  exact h.1

theorem clearFaults_faults (mask : FaultSet) (s : State) :
    (clearFaults mask s).faults = { s.faults with sticky := clearedSticky mask s.faults } := by
  rw [clearFaults, (releaseDry_keeps _ _).faults]
  rfl

theorem clearFaults_brush (mask : FaultSet) (n : ArmId) (s : State) :
    (clearFaults mask s).sp.brush n = s.sp.brush n := by
  simp only [clearFaults, releaseDry]
  split_ifs <;> simp

theorem writeEnable_brush (on : Bool) (n : ArmId) (s : State) : (writeEnable on s).sp.brush n = s.sp.brush n := by
  simp only [writeEnable]
  split <;> simp

theorem heldByTrip_supersede (n : ArmId) (src : Nibble) (c : Claims) (s : State) :
    heldByTrip n (supersede src c s) = heldByTrip n s := by
  have hkeeps := supersede_keeps src c s
  unfold heldByTrip
  rw [hkeeps.arm n (by cases n <;> decide), sticky_congr hkeeps.faults]

theorem acts_armsLaw {r : Request} {s t : State} (h : ArmsLaw s) (acts : Acts r s t) : ArmsLaw t := by
  have hsup : ∀ c, ArmsLaw (supersede r.src c s) := fun c => h.of_keeps_sp (supersede_keeps _ c s)
  cases acts with
  | nothing => exact h
  | free => exact h.of_keeps_sp (State.withFree_keeps s _)
  | refresh src tag => exact h.of_keeps_sp (refreshEntry_keeps src tag s)
  | release src tag => exact h.of_keeps_sp (freeEntry_keeps src tag s)
  | mode m running => exact takeMode_armsLaw (hsup _) (by simpa using running)
  | stow running => exact demandTransport_armsLaw (hsup _) (by simpa using running)
  | stowPending running =>
    exact (demandTransport_armsLaw (hsup _) (by simpa using running)).of_keeps_sp (makeEntry_keeps _ _ _ _)
  | arm n target running has allowed =>
    obtain ⟨hfree, hwork⟩ := moveAllowed_free allowed
    exact armToTarget_armsLaw (hsup _) (by simpa using running) (by simpa [populated] using has)
      ((heldByTrip_supersede n _ _ s).trans hfree) (by simpa [sweeping] using hwork)
  | armPending n target running has allowed =>
    obtain ⟨hfree, hwork⟩ := moveAllowed_free allowed
    exact (armToTarget_armsLaw (hsup _) (by simpa using running) (by simpa [populated] using has)
      ((heldByTrip_supersede n _ _ s).trans hfree)
      (by simpa [sweeping] using hwork)).of_keeps_sp (makeEntry_keeps _ _ _ _)
  | water on =>
    exact h.of_keeps (writeEnable_keeps on s) (fun n => by rw [writeEnable_brush])
      (fun n => by rw [sticky_congr (writeEnable_keeps on s).faults]; exact id)
  | trim n v => exact h.withArm rfl (fun hstands hne => (hstands hne).1) (h.fits n)
  | clear mask =>
    refine h.of_keeps (clearFaults_keeps mask s) (fun n => by rw [clearFaults_brush]) (fun n ht => ?_)
    rw [sticky, clearFaults_faults] at ht
    exact clearedSticky_le ht

/-! ### Restarts and the load -/

theorem armsLaw_reset : ArmsLaw State.reset := by
  refine ⟨fun _ => rfl, fun n => (armLaw_iff n _).mpr ⟨?_, ?_, ?_⟩⟩
  · cases n <;> exact armAllowed_held fun _ => by decide
  · cases n <;> exact fun _ => ⟨rfl, rfl⟩
  · cases n <;> exact ⟨by decide, by decide⟩

theorem coldState_armsLaw (s : State) : ArmsLaw (coldState s) :=
  ⟨fun _ => rfl, fun n => armLaw_congr (armsLaw_reset.2 n) (by cases n <;> rfl) (by cases n <;> rfl) rfl id⟩

/-- The release of the reset populates the arms anew, all of them HELD or STOWED without a fault (R68, R70). -/
theorem beginLoading_armsLaw (straps : Straps) {s : State} (h : ArmsLaw s) (hload : s.start.station = .loading) :
    ArmsLaw (beginLoading straps s) := by
  refine ⟨fun hlow => absurd hlow (by simp [beginLoading]), fun n => ?_⟩
  obtain ⟨-, -, hpop, hheld⟩ := h.allowed n
  have hclear : sticky (armFault n) (beginLoading straps s) = false := (hheld hload).1
  have hwork : (s.arm n).state ≠ .working := by
    by_cases hp : populated (armChannel n) s = true
    · simp [(hheld hload).2 hp]
    · rcases hpop (by simpa using hp) with hs | hs <;> simp [hs]
  have hout : ((beginLoading straps s).sp.brush n).ramp.out = 0 := (h.stands n hwork).2
  have harm : (beginLoading straps s).arm n
      = if populated (armChannel n) (beginLoading straps s) then .reset else .unpopulated := by
    cases n <;> rfl
  rw [armLaw_iff]
  unfold brushStands
  rw [harm, hout]
  split
  · exact ⟨armAllowed_held fun _ => hclear, fun _ => ⟨rfl, rfl⟩, by decide, by decide⟩
  · next hp =>
    refine ⟨⟨by simp [Arm.unpopulated], by simp [hclear], fun _ => .inl rfl, fun _ => ⟨hclear, fun hp' => absurd hp' hp⟩⟩,
      fun _ => ⟨rfl, rfl⟩, by decide, by decide⟩

theorem reload_armsLaw (straps : Straps) (s : State) : ArmsLaw (reload straps s) :=
  beginLoading_armsLaw straps ((coldState_armsLaw s).of_keeps_sp (State.withLine_keeps _ _)) rfl

/-- A warm restart lifts every populated arm that is neither STOWED nor held by its trip (R70). -/
theorem warmRestart_armsLaw {s : State} (h : ArmsLaw s) (hload : s.start.station ≠ .loading) :
    ArmsLaw (warmRestart s) := by
  have hstation : (warmRestart s).start.station = .listening := by simp [warmRestart]
  have hpins : (warmRestart s).pins = s.pins := by simp [warmRestart]
  refine ⟨fun hlow => absurd (h.1 (hpins ▸ hlow)) hload, fun n => ?_⟩
  have harm : (warmRestart s).arm n = warmArm n s := by cases n <;> simp [warmRestart, State.arm]
  have hrole : populated (armChannel n) (warmRestart s) = populated (armChannel n) s := by
    simp [populated, warmRestart]
  have hsticky : sticky (armFault n) (warmRestart s) = sticky (armFault n) s := by
    obtain ⟨-, -, -, -, -, -, -, -, -, -, -, -, -, -, hrest⟩ := warmRestart_spec s
    exact hrest _ (by cases n <;> decide)
  have hout : ((warmRestart s).sp.brush n).ramp.out = 0 := by
    cases n <;> simp [warmRestart, warmSetpoint, warmSite, Setpoint.brush, Ramp.setOut]
  obtain ⟨-, hheld, hpop, -⟩ := h.allowed n
  obtain ⟨hmove, -⟩ := h.fits n
  rw [armLaw_iff]
  unfold armAllowed brushStands timersFit
  rw [harm, hout, hrole, hsticky, hstation]
  unfold warmArm
  simp only
  by_cases hp : populated (armChannel n) s = true
  · simp only [hp, if_true]
    by_cases hstay : (s.arm n).state = .stowed ∨ heldByTrip n s = true
    · have hstate : (s.arm n).state = .stowed ∨ (s.arm n).state = .held := by
        rcases hstay with hs | hs
        · exact .inl hs
        · simp only [heldByTrip, Bool.and_eq_true, decide_eq_true_eq] at hs
          exact .inr hs.1
      rw [if_pos hstay]
      rcases hstate with hs | hs <;> simp [hs] at hmove hheld ⊢ <;> simp [hmove, hheld]
    · rw [if_neg hstay]
      have hfree : sticky (armFault n) s = false := heldByTrip_false h (by simpa using (not_or.mp hstay).2)
      simp [hfree]
  · have hp' : populated (armChannel n) s = false := by simpa using hp
    simp only [hp', Bool.false_eq_true, if_false]
    rcases hpop hp' with hs | hs <;> simp [hs] at hmove hheld ⊢ <;> simp [hmove, hheld]

theorem restartNow_armsLaw (straps : Straps) {s : State} (h : ArmsLaw s) : ArmsLaw (restartNow straps s) := by
  unfold restartNow
  split
  · next hs => exact warmRestart_armsLaw h (by simp [hs])
  · exact reload_armsLaw straps s

theorem frameEnded_armsLaw (o : Owner) {s : State} (h : ArmsLaw s) : ArmsLaw (frameEnded o s) := by
  have hline : ∀ x, ArmsLaw (s.withLine x) := fun x => h.of_keeps_sp (State.withLine_keeps s x)
  cases o with
  | alert k =>
    unfold frameEnded alertSent
    simp only
    split
    · exact hline _
    · exact h
  | answer =>
    unfold frameEnded answerSent
    simp only
    split
    · split
      · next hr => exact warmRestart_armsLaw (hline _) (by simp [hr.2])
      · exact hline _
    · exact hline _
  | report => exact hline _
  | request tag => exact (hline _).of_keeps_sp (mapOutgoing_keeps _ _ _)
  | orphan => exact h

/-- On leaving LOADING an arm without a fault takes its first position: it is STOWED, or stays HELD (R70). -/
theorem firstPosition_armsLaw {b : StartBlock} {n : ArmId} {raw : Raw} {s : State} (h : ArmsLaw s)
    (hload : s.start.station ≠ .loading) (hheld : populated (armChannel n) s = true → (s.arm n).state = .held)
    (hclear : sticky (armFault n) s = false) : ArmsLaw (firstPosition b n raw s) := by
  have hpin : ArmsLaw (setPositionPin n raw s) := by
    refine ⟨?_, fun m => armLaw_congr (h.2 m) ?_ ?_ ?_ ?_⟩ <;> cases n <;> first | exact h.1 | rfl | exact id
  have hpop : populated (armChannel n) (setPositionPin n raw s) = populated (armChannel n) s := by cases n <;> rfl
  have hstart : (setPositionPin n raw s).start = s.start := by cases n <;> rfl
  have harm : (setPositionPin n raw s).arm n = s.arm n := by cases n <;> rfl
  have hfaults : (setPositionPin n raw s).faults = s.faults := by cases n <;> rfl
  have hread : ∀ p, ArmsLaw ((setPositionPin n raw s).withArm n { (setPositionPin n raw s).arm n with position := p }) :=
    fun p => hpin.withArm rfl (fun hstands hne => (hstands hne).1) (hpin.fits n)
  unfold firstPosition
  simp only
  split_ifs with hp hspan hstow
  · refine enterArm_armsLaw _ (hread _) (armAllowed_of_clear (by decide) (by decide) ?_ ?_ ?_)
    · rw [sticky_congr (State.withArm_faults ..), sticky_congr hfaults, hclear]
    · simpa [populated] using hp
    · simpa [hstart] using hload
  · exact hread _
  · have hkeeps := handOver_keeps (armFault n) true ((setPositionPin n raw s).withArm n
      { (setPositionPin n raw s).arm n with position := positionPin n (setPositionPin n raw s) })
    obtain ⟨hreset, harms⟩ := hread (positionPin n (setPositionPin n raw s))
    refine ⟨resetLaw_congr hreset hkeeps.pins hkeeps.start, fun m => ?_⟩
    have hm := hkeeps.arm m (by cases m <;> decide)
    by_cases hmn : m = n
    · subst hmn
      obtain ⟨-, hstands, hfit⟩ := (armLaw_iff m _).mp (harms m)
      refine (armLaw_iff m _).mpr ⟨?_, ?_, ?_⟩
      · rw [hm, State.withArm_arm]
        simp only [harm, hheld (hpop ▸ hp)]
        exact armAllowed_held fun hl => absurd (by simpa [hstart] using hl) hload
      · unfold brushStands; rw [hm, hkeeps.sp]; exact hstands
      · rw [hm]; exact hfit
    · refine armLaw_congr (harms m) hm (by rw [hkeeps.sp]) hkeeps.start ?_
      rw [sticky_handOver_other (by cases m <;> cases n <;> simp_all [armFault])]
      exact id
  · exact hpin

theorem sticky_firstPosition_other {b : StartBlock} {n m : ArmId} (hm : m ≠ n) {raw : Raw} {s : State} :
    sticky (armFault m) (firstPosition b n raw s) = sticky (armFault m) s := by
  have hne : armFault m ≠ armFault n := by cases m <;> cases n <;> simp_all [armFault]
  have hpin : (setPositionPin n raw s).faults = s.faults := by cases n <;> rfl
  unfold firstPosition
  simp only
  split_ifs
  · rw [sticky_enterArm, sticky_congr (State.withArm_faults ..), sticky_congr hpin]
  · rw [sticky_congr (State.withArm_faults ..), sticky_congr hpin]
  · rw [sticky_handOver_other hne, sticky_congr (State.withArm_faults ..), sticky_congr hpin]
  · rw [sticky_congr hpin]

theorem acceptStart_armsLaw {b : StartBlock} {arm1 arm2 : Raw} {levels : BitVec 8} {s : State} (h : ArmsLaw s)
    (hload : s.start.station = .loading) (hreset : s.pins.resetN = true) :
    ArmsLaw (acceptStart b arm1 arm2 levels s) := by
  have hheld : ∀ n, sticky (armFault n) s = false ∧ (populated (armChannel n) s = true → (s.arm n).state = .held) :=
    fun n => (h.allowed n).2.2.2 hload
  have hlisten : ArmsLaw (s.withStart { s.start with station := .listening, image := some b, joinTimer := some 0 }) := by
    refine ⟨fun hlow => absurd (hreset.symm.trans hlow) (by decide), fun n => (armLaw_iff n _).mpr ⟨?_, h.stands n, h.fits n⟩⟩
    rw [State.withStart_arm]
    by_cases hp : populated (armChannel n) s = true
    · rw [(hheld n).2 hp]
      exact armAllowed_held fun hl => absurd hl (by simp)
    · obtain ⟨hmove, hsticky, hpop, -⟩ := h.allowed n
      refine ⟨fun hs => absurd (hmove hs).1 (by simp [hload]), hsticky, hpop, fun hl => absurd hl (by simp)⟩
  have hfirst := firstPosition_armsLaw (b := b) (n := .one) (raw := arm1) hlisten (by simp)
    (fun hp => (hheld .one).2 hp) (hheld .one).1
  have hkeeps := firstPosition_keeps b .one arm1
    (s.withStart { s.start with station := .listening, image := some b, joinTimer := some 0 })
  have hsecond := firstPosition_armsLaw (b := b) (n := .two) (raw := arm2) hfirst
    (by rw [hkeeps.start]; simp)
    (fun hp => by
      rw [show (State.arm _ .two) = _ from hkeeps.arm2]
      exact (hheld .two).2 (by unfold populated at hp; rwa [hkeeps.start] at hp))
    (by rw [sticky_firstPosition_other (by decide)]; exact (hheld .two).1)
  exact (hsecond.of_keeps_sp (State.withReq_keeps _ _)).of_keeps_sp (State.withDrive_keeps _ _)

theorem failStart_armsLaw {s : State} (h : ArmsLaw s) (hload : s.start.station = .loading)
    (hreset : s.pins.resetN = true) : ArmsLaw (failStart s) := by
  refine ArmsLaw.handOver (ArmsLaw.of_keeps_sp ?_ (State.withLine_keeps _ _)) true (by decide) (by decide)
  refine ⟨fun hlow => absurd (hreset.symm.trans hlow) (by decide), fun n => (armLaw_iff n _).mpr ⟨?_, h.stands n, h.fits n⟩⟩
  obtain ⟨hmove, hsticky, hpop, -⟩ := h.allowed n
  rw [State.withStart_arm]
  exact ⟨fun hs => absurd (hmove hs).1 (by simp [hload]), hsticky, hpop, fun hl => absurd hl (by simp)⟩

theorem enterRunning_armsLaw {s : State} (h : ArmsLaw s) (hlisten : s.start.station = .listening) :
    ArmsLaw (enterRunning s) := by
  refine ArmsLaw.testInherited (ArmsLaw.makeDue (ArmsLaw.of_keeps_sp ?_ (State.withLine_keeps _ _)))
  refine ⟨fun hlow => absurd (h.1 hlow) (by simp [hlisten]), fun n => (armLaw_iff n _).mpr ⟨?_, h.stands n, h.fits n⟩⟩
  obtain ⟨hmove, hsticky, hpop, -⟩ := h.allowed n
  rw [State.withStart_arm]
  exact ⟨fun hs => absurd (hmove hs).1 (by simp [hlisten]), hsticky, hpop, fun hl => absurd hl (by simp)⟩

/-! ### Every effect, and every step -/

theorem withPins_armsLaw {s : State} (h : ArmsLaw s) {p : Pins} (hreset : p.resetN = s.pins.resetN) :
    ArmsLaw (s.withPins p) :=
  ⟨fun hlow => h.1 (hreset ▸ hlow), fun n => armLaw_congr (h.2 n) (by simp) (by simp) rfl id⟩

theorem loadRuns_spec {s : State} (h : loadRuns s = true) : s.start.station = .loading ∧ s.pins.resetN = true := by
  simpa [loadRuns] using h

theorem not_loading_of_periodsRun {s : State} (h : periodsRun s = true) : s.start.station ≠ .loading := by
  intro hl
  simp [periodsRun, hl] at h

theorem endRead_armsLaw (miso : List Bool) {s : State} (h : ArmsLaw s) : ArmsLaw (endRead miso s) :=
  h

theorem does_armsLaw {s t : State} (h : ArmsLaw s) (does : Does s t) : ArmsLaw t := by
  have hpop : ArmsLaw (popRx s) := h.of_keeps_sp (popRx_keeps s)
  cases does with
  | nothing => exact h
  | coldReset => exact coldState_armsLaw s
  | release straps low => exact beginLoading_armsLaw straps h (h.1 low)
  | failStart miso runs =>
    obtain ⟨hload, hreset⟩ := loadRuns_spec runs
    exact failStart_armsLaw (endRead_armsLaw miso h) hload hreset
  | acceptStart miso _ _ _ runs =>
    obtain ⟨hload, hreset⟩ := loadRuns_spec runs
    exact acceptStart_armsLaw (endRead_armsLaw miso h) hload hreset
  | join due =>
    simp only [joinDue, Bool.and_eq_true, decide_eq_true_eq] at due
    exact enterRunning_armsLaw h due.1
  | pins p reset => exact withPins_armsLaw h reset
  | drivePeriod b i =>
    exact (withPins_armsLaw h (p := { s.pins with drive := i }) rfl).of_keeps (drivePeriod_keeps b _)
      (fun n => by rw [(drivePeriod_sites b _).1]) (fun n => by rw [drivePeriod_armFault]; exact id)
  | armPeriod b n raw _ has runs =>
    have hstart : (setPositionPin n raw s).start = s.start := by cases n <;> rfl
    have hpins : ArmsLaw (setPositionPin n raw s) := by cases n <;> exact withPins_armsLaw h rfl
    refine armPeriod_law hpins ?_ ?_
    · rw [hstart]; exact not_loading_of_periodsRun runs
    · unfold populated; rw [hstart]; exact has
  | waterPeriod b tank waterP =>
    exact (withPins_armsLaw h (p := { s.pins with tank := tank, waterP := waterP }) rfl).of_keeps (waterPeriod_keeps b _)
      (fun n => by rw [waterPeriod_brush]) (fun n => by rw [waterPeriod_armFault]; exact id)
  | bucketClose b => exact h.of_keeps_sp (State.withDrive_keeps s _)
  | speedEdge p m reset =>
    exact (((withPins_armsLaw h reset).of_keeps_sp (State.withDrive_keeps _ _)).of_keeps_sp
      (State.withDrive_keeps _ _)).handOver _ (by decide) (by decide)
  | engineEdge bad m => exact (h.of_keeps_sp (State.withDrive_keeps s _)).handOver _ (by decide) (by decide)
  | park => exact h.of_keeps_sp (State.withDrive_keeps s _)
  | dwell => exact h.of_keeps_sp (State.withDrive_keeps s _)
  | speedSilence => exact h.handOver _ (by decide) (by decide)
  | engineSilence => exact h.handOver _ (by decide) (by decide)
  | stall n due => exact stall_law h due
  | blind n working => exact blindExpired_law h working
  | failedPrime =>
    exact h.of_keeps (failedPrime_keeps s) (fun n => by rw [failedPrime_brush])
      (fun n => by rw [failedPrime_armFault]; exact id)
  | dryWaitEnded b =>
    exact h.of_keeps (dryWaitEnded_keeps b s) (fun n => by rw [dryWaitEnded_brush])
      (fun n => by rw [sticky_congr (dryWaitEnded_keeps b s).faults]; exact id)
  | pattern b => exact h.of_keeps_sp (State.withWater_keeps s _)
  | age n st =>
    unfold markEntry
    split
    · exact (h.of_keeps_sp (State.withPeer_keeps s _ _)).testInherited
    · exact h
  | entryDiscard src tag => exact h.of_keeps_sp (freeEntry_keeps src tag s)
  | entryOrphaned src tag => exact (h.of_keeps_sp (freeEntry_keeps src tag s)).of_keeps_sp (State.withLine_keeps _ _)
  | repeatExpiry tag e =>
    exact h.of_keeps_faults (repeatExpired_keeps e s) (fun n => by rw [repeatExpired_armFault]; exact id)
  | switch i d => exact h.of_keeps_sp (State.withReq_keeps s _)
  | edge b i d onEdge =>
    exact (h.of_keeps_sp (State.withReq_keeps s _)).of_keeps_faults (switchEdge_keeps b i onEdge _)
      (fun n => by rw [switchEdge_armFault]; exact id)
  | reportTimer => exact (h.of_keeps_sp (State.withLine_keeps s _)).makeDue
  | checkError => exact h.of_keeps_sp (State.withLine_keeps s _)
  | frame f on => exact sortFrame_armsLaw h on
  | cutOff => exact cutOff_armsLaw h
  | popRx => exact hpop
  | report f n seq v =>
    exact hpop.of_keeps_faults (takeReport_keeps n seq v _) (fun n => by rw [takeReport_armFault]; exact id)
  | alert n k =>
    unfold takeAlert
    split
    · exact hpop
    · exact (hpop.of_keeps_sp (State.withPeer_keeps _ _ _)).testInherited
  | answer f => exact hpop.of_keeps_faults (takeAnswer_keeps f _) (fun n => by rw [takeAnswer_armFault]; exact id)
  | missed => exact hpop.of_keeps_sp (State.withLine_keeps _ _)
  | reply r u _ _ _ _ acts => exact (acts_armsLaw hpop acts).of_keeps_sp (queueAnswer_keeps _ _ _ _ _ _ u)
  | restart straps => exact restartNow_armsLaw straps hpop
  | lost => exact h.of_keeps_sp (State.withFree_keeps s _)
  | offer o f => exact (h.of_keeps_sp (State.withFree_keeps s _)).of_keeps_sp (State.withLine_keeps _ _)
  | frameSent x => exact frameEnded_armsLaw _ (h.of_keeps_sp (State.withLine_keeps s _))

theorem elapse_armsLaw {s : State} (h : ArmsLaw s) : ArmsLaw (elapse s) := by
  refine ⟨h.1, fun n => ?_⟩
  have harm : (elapse s).arm n = (s.arm n).elapse := by cases n <;> rfl
  have hbrush : (elapse s).sp.brush n = s.sp.brush n := rfl
  obtain ⟨hmove, hblind⟩ := h.fits n
  rw [armLaw_iff]
  unfold brushStands
  rw [harm, hbrush]
  refine ⟨h.allowed n, h.stands n, ?_, ?_⟩
  · simpa [Arm.elapse, Timer.grow] using hmove
  · simpa [Arm.elapse, Timer.grow] using hblind

/-- Settles O25: an arm enters a state only where the law allows it (`enterArm_armsLaw`), a mode change and the entry to
SILENCED bring every arm back under the law, and each other effect keeps it by its frame. -/
theorem everyStepKeepsTheArmsLaw : Obligations.EveryStepKeepsTheArmsLaw := by
  unfold Obligations.EveryStepKeepsTheArmsLaw
  exact step_keeps (fun s x h => h.of_keeps_sp (State.withPending_keeps s x)) (fun _ => elapse_armsLaw)
    (fun _ _ => does_armsLaw)

end Sys2Proof.Machine
end

section
/-! SUPPORT. The law of the water channel along every step (R90, R94, R96, R101, R104). -/

namespace Sys2Proof.Machine

-- One thread elaborates this section, so that the check's memory limit holds the stacks.
set_option Elab.async false

/-! ### What the law reads -/

/-- The channel stands outside PRIMING and SPRAYING, and counts at most two dry failures (R101, R104). -/
def waterStands (s : State) : Prop :=
  (s.water.state ≠ .priming → s.water.state ≠ .spraying →
    s.water.pump = 0 ∧ s.water.valves = 0 ∧ s.sp.wtr.ramp.out = 0)
  ∧ s.water.dryCount ≤ 2

/-- An active channel is populated and enabled, in RUNNING and SWEEP_WET (R90, R94, R96). -/
def waterEnabled (s : State) : Prop :=
  s.water.state.active = true →
    populated .wtr s = true ∧ s.start.station = .running ∧ s.start.mode = .sweepWet ∧ s.water.enable = true

theorem waterLaw_iff (s : State) : WaterLaw s ↔ resetLaw s ∧ waterStands s ∧ waterEnabled s := by
  unfold WaterLaw waterStands waterEnabled
  constructor
  · rintro ⟨hreset, hquiet, hactive, hout, hcount⟩
    exact ⟨hreset, ⟨fun hp hs => ⟨(hquiet hp hs).1, (hquiet hp hs).2, hout hp hs⟩, hcount⟩, hactive⟩
  · rintro ⟨hreset, ⟨hquiet, hcount⟩, hactive⟩
    refine ⟨hreset, fun hp hs => ?_, hactive, fun hp hs => ?_, hcount⟩
    · obtain ⟨hpump, hvalves, -⟩ := hquiet hp hs
      exact ⟨hpump, hvalves⟩
    · obtain ⟨-, -, hout⟩ := hquiet hp hs
      exact hout

theorem waterStands_congr {s t : State} (h : waterStands s) (hwater : t.water = s.water)
    (hout : t.sp.wtr.ramp.out = s.sp.wtr.ramp.out) : waterStands t := by
  unfold waterStands
  rw [hwater, hout]
  exact h

theorem WaterLaw.stands {s : State} (h : WaterLaw s) : waterStands s := ((waterLaw_iff s).mp h).2.1

theorem WaterLaw.enabled {s : State} (h : WaterLaw s) : waterEnabled s := ((waterLaw_iff s).mp h).2.2

/-- An operation that leaves the reset pin, the start unit, the channel and its ramp output keeps the law. -/
theorem WaterLaw.of_keeps {l : List Part} {s t : State} (h : WaterLaw s) (keeps : KeepsAllBut l s t)
    (hout : t.sp.wtr.ramp.out = s.sp.wtr.ramp.out)
    (hpins : Part.pins ∉ l := by decide) (hstart : Part.start ∉ l := by decide)
    (hwater : Part.water ∉ l := by decide) : WaterLaw t := by
  rw [waterLaw_iff] at h ⊢
  obtain ⟨hreset, hstands, henabled⟩ := h
  refine ⟨resetLaw_congr hreset (keeps.pins hpins) (keeps.start hstart),
    waterStands_congr hstands (keeps.water hwater) hout, ?_⟩
  unfold waterEnabled populated
  rw [keeps.water hwater, keeps.start hstart]
  exact henabled

theorem WaterLaw.of_keeps_sp {l : List Part} {s t : State} (h : WaterLaw s) (keeps : KeepsAllBut l s t)
    (hpins : Part.pins ∉ l := by decide) (hstart : Part.start ∉ l := by decide)
    (hwater : Part.water ∉ l := by decide) (hsp : Part.sp ∉ l := by decide) : WaterLaw t :=
  h.of_keeps keeps (by rw [keeps.sp hsp]) hpins hstart hwater

/-- Outside RUNNING the channel is not active, so another station state that is not RUNNING keeps the law (R104). -/
theorem WaterLaw.of_inactive {s t : State} (h : WaterLaw s) (inactive : s.water.state.active = false)
    (hreset : resetLaw t) (hwater : t.water = s.water) (hout : t.sp.wtr.ramp.out = s.sp.wtr.ramp.out) : WaterLaw t := by
  refine (waterLaw_iff t).mpr ⟨hreset, waterStands_congr h.stands hwater hout, fun hactive => ?_⟩
  rw [hwater, inactive] at hactive
  cases hactive

theorem WaterLaw.inactive {s : State} (h : WaterLaw s) (hstation : s.start.station ≠ .running) :
    s.water.state.active = false := by
  by_contra hactive
  exact hstation (h.enabled (by simpa using hactive)).2.1

/-! ### Stopping the channel -/

theorem waterOff_stands {s : State} (hcount : s.water.dryCount ≤ 2) : waterStands (waterOff s) := by
  unfold waterStands
  rw [waterOff_water, waterOff_site]
  exact ⟨fun _ _ => ⟨rfl, rfl, rfl⟩, hcount⟩

theorem stopWater_stands {s : State} (h : waterStands s) : waterStands (stopWater s) := by
  unfold stopWater
  split
  · exact waterOff_stands h.2
  · exact h

/-- After a stop no condition of an active channel is left to meet (R96, R104). -/
theorem stopWater_law {s : State} (hreset : resetLaw s) (h : waterStands s) : WaterLaw (stopWater s) := by
  have hkeeps := stopWater_keeps s
  refine (waterLaw_iff _).mpr ⟨resetLaw_congr hreset hkeeps.pins hkeeps.start, stopWater_stands h, fun hactive => ?_⟩
  rw [stopWater_inactive] at hactive
  cases hactive

theorem waterOff_law {s : State} (hreset : resetLaw s) (hcount : s.water.dryCount ≤ 2) : WaterLaw (waterOff s) := by
  have hkeeps := waterOff_keeps s
  refine (waterLaw_iff _).mpr ⟨resetLaw_congr hreset hkeeps.pins hkeeps.start, waterOff_stands hcount, fun hactive => ?_⟩
  rw [waterOff_water] at hactive
  cases hactive

/-! ### The mode and SILENCED -/

theorem forArms_wtr {f : ArmId → State → State} (hf : ∀ n s, (f n s).sp.wtr = s.sp.wtr) (s : State) :
    (forArms f s).sp.wtr = s.sp.wtr := by
  unfold forArms
  simp only
  split_ifs <;> simp [hf]

/-- A mode change sets the enable flag on entry to SWEEP_WET and stops an active channel elsewhere (R94, R96). -/
theorem waterModeChange_waterLaw {m : Mode} {s : State} (hreset : resetLaw s) (h : waterStands s)
    (hrun : s.start.station = .running) (hmode : s.start.mode = m)
    (hpop : populated .wtr s = false → s.water.state.active = false) : WaterLaw (waterModeChange m s) := by
  unfold waterModeChange
  simp only
  split_ifs with hp hm
  · exact (waterLaw_iff _).mpr ⟨hreset, waterStands_congr h rfl rfl |>.imp id id, fun _ =>
      ⟨hp, hrun, hmode.trans hm, by simp [hm]⟩⟩
  · exact stopWater_law hreset h
  · refine (waterLaw_iff _).mpr ⟨hreset, h, fun hactive => ?_⟩
    rw [hpop (by simpa using hp)] at hactive
    cases hactive

/-- The mode and the ramps' markers at a mode change, before the arms and the channel follow it (R3, R107). -/
def switchMode (m : Mode) (s : State) : State := (s.withStart { s.start with mode := m }).withSp (bankSwitch s.sp)

theorem changeMode_eq (m : Mode) (s : State) :
    changeMode m s = makeDue (waterModeChange m
      (if stowsArms m then forArms stowDemand (switchMode m s) else switchMode m s)) := rfl

/-- The arms' part of a mode change leaves the start unit, the channel and its ramp. -/
theorem modeArms_keeps (m : Mode) (s : State) :
    KeepsAllBut [.line, .req, .sp, .arm1, .arm2] s (if stowsArms m then forArms stowDemand s else s)
      ∧ (if stowsArms m then forArms stowDemand s else s).sp.wtr = s.sp.wtr := by
  split
  · exact ⟨forArms_keeps stowDemand_keeps _, forArms_wtr stowDemand_wtr s⟩
  · exact ⟨.refl _ _, rfl⟩

theorem changeMode_waterLaw {m : Mode} {s : State} (h : WaterLaw s) (hrun : s.start.station = .running) :
    WaterLaw (changeMode m s) := by
  obtain ⟨hkeeps, hwtr⟩ := modeArms_keeps m (switchMode m s)
  rw [changeMode_eq]
  refine WaterLaw.of_keeps_sp (waterModeChange_waterLaw ?_ (waterStands_congr h.stands hkeeps.water (by rw [hwtr]; rfl))
    ?_ ?_ ?_) (makeDue_keeps _)
  · exact resetLaw_congr (s := switchMode m s) h.1 hkeeps.pins hkeeps.start
  · rw [hkeeps.start]; exact hrun
  · rw [hkeeps.start]; rfl
  · intro hp
    rw [hkeeps.water]
    by_contra hactive
    obtain ⟨hpop, -⟩ := h.enabled (by simpa [switchMode] using hactive)
    unfold populated at hp hpop
    rw [hkeeps.start] at hp
    exact absurd (hpop.symm.trans hp) (by decide)

theorem takeMode_waterLaw {m : Mode} {s : State} (h : WaterLaw s) (hrun : s.start.station = .running) :
    WaterLaw (takeMode m s) := by
  unfold takeMode
  split
  · exact h
  · exact changeMode_waterLaw h hrun

theorem demandTransport_waterLaw {s : State} (h : WaterLaw s) (hrun : s.start.station = .running) :
    WaterLaw (demandTransport s) := by
  unfold demandTransport
  split
  · exact h.of_keeps (forArms_keeps stowDemand_keeps s) (by rw [forArms_wtr stowDemand_wtr])
  · exact changeMode_waterLaw h hrun

theorem enterSilenced_waterLaw {s : State} (h : WaterLaw s) (hload : s.start.station ≠ .loading) :
    WaterLaw (enterSilenced s) := by
  have hraise := raiseOnce_keeps .lineFault s
  have harms := forArms_keeps silenceArm_keeps
    (((raiseOnce .lineFault s).withStart { (raiseOnce .lineFault s).start with station := .silenced, joinTimer := none }).withLine
      { (raiseOnce .lineFault s).line with reportTimer := none })
  refine stopWater_law ?_ (waterStands_congr h.stands (harms.water.trans hraise.water) ?_)
  · intro hlow
    have hpins : s.pins.resetN = false := by rw [← hraise.pins]; exact (congrArg Pins.resetN harms.pins) ▸ hlow
    exact absurd (h.1 hpins) hload
  · rw [forArms_wtr silenceArm_wtr]
    exact congrArg (fun sp => sp.wtr.ramp.out) hraise.sp

theorem sortFrame_waterLaw {f : Frame} {s : State} (h : WaterLaw s) (hload : s.start.station ≠ .loading) :
    WaterLaw (sortFrame f s) := by
  unfold sortFrame duplicateStation
  split_ifs
  · exact enterSilenced_waterLaw h hload
  · exact h
  · exact h.of_keeps_sp (queueFrame_keeps f s)
  · exact h

theorem cutOff_waterLaw {s : State} (h : WaterLaw s) : WaterLaw (cutOff s) := by
  have hline : ∀ x, WaterLaw (s.withLine x) := fun x => h.of_keeps_sp (State.withLine_keeps s x)
  unfold cutOff
  simp only
  split
  case h_1 hs => exact enterSilenced_waterLaw (hline _) (by rw [hs]; decide)
  case h_2 hs => exact enterSilenced_waterLaw (hline _) (by rw [hs]; decide)
  case h_3 => exact ((hline _).of_keeps_sp (State.withLine_keeps _ _)).of_keeps_sp (raiseOnce_keeps _ _)
  all_goals exact hline _

/-! ### The water period -/

/-- The spray conditions hold in RUNNING and SWEEP_WET under the enable flag alone (R95). -/
theorem sprayConditions_spec {b : StartBlock} {s : State} (h : sprayConditions b s = true) :
    s.start.station = .running ∧ s.start.mode = .sweepWet ∧ s.water.enable = true := by
  simp only [sprayConditions, Bool.and_eq_true, decide_eq_true_eq] at h
  obtain ⟨⟨⟨⟨⟨hrun, hwet⟩, henable⟩, -⟩, -⟩, -⟩ := h
  exact ⟨hrun, hwet, henable⟩

/-- The channel enters an active state that its conditions allow. -/
theorem WaterLaw.enter {s t : State} (h : WaterLaw s) (hp : populated .wtr s = true)
    (hcond : s.start.station = .running ∧ s.start.mode = .sweepWet ∧ s.water.enable = true)
    (hpins : t.pins = s.pins) (hstart : t.start = s.start)
    (hstate : t.water.state = .priming ∨ t.water.state = .spraying)
    (henable : t.water.enable = s.water.enable) (hcount : t.water.dryCount ≤ 2) : WaterLaw t := by
  refine (waterLaw_iff t).mpr ⟨resetLaw_congr h.1 hpins hstart, ⟨fun h1 h2 => absurd hstate (not_or.mpr ⟨h1, h2⟩), hcount⟩,
    fun _ => ?_⟩
  unfold populated at hp ⊢
  rw [hstart, henable]
  exact ⟨hp, hcond⟩

/-- A channel in PRIMING or SPRAYING may set its timers, its slot and its outputs. -/
theorem WaterLaw.withWater {s : State} {w : Water} (h : WaterLaw s) (hstate : w.state = s.water.state)
    (henable : w.enable = s.water.enable) (hcount : w.dryCount ≤ 2)
    (hquiet : waterStands s → w.state ≠ .priming → w.state ≠ .spraying → w.pump = 0 ∧ w.valves = 0) :
    WaterLaw (s.withWater w) := by
  obtain ⟨hreset, hstands, henabled⟩ := (waterLaw_iff s).mp h
  refine (waterLaw_iff _).mpr ⟨hreset, ⟨fun hp hs => ?_, hcount⟩, fun hactive => ?_⟩
  · obtain ⟨hpump, hvalves⟩ := hquiet hstands hp hs
    have hpriming : s.water.state ≠ .priming := by rw [← hstate]; exact hp
    have hspraying : s.water.state ≠ .spraying := by rw [← hstate]; exact hs
    obtain ⟨-, -, hout⟩ := hstands.1 hpriming hspraying
    exact ⟨hpump, hvalves, hout⟩
  · simp only [State.withWater_water] at hactive ⊢
    rw [hstate] at hactive
    rw [henable]
    exact henabled hactive

theorem readWaterInputs_waterLaw {b : StartBlock} {s : State} (h : WaterLaw s) : WaterLaw (readWaterInputs b s) := by
  have hread : WaterLaw (s.withWater { s.water with tank := s.pins.tank, waterP := s.pins.waterP }) :=
    h.withWater rfl rfl h.stands.2 fun hstands hp hs => ⟨(hstands.1 hp hs).1, (hstands.1 hp hs).2.1⟩
  exact ((hread.of_keeps_sp (handOver_keeps _ _ _)).of_keeps_sp (handOver_keeps _ _ _)).of_keeps_sp (handOver_keeps _ _ _)

theorem waterInputMove_waterLaw {s : State} (h : WaterLaw s) : WaterLaw (waterInputMove s) := by
  unfold waterInputMove
  split
  · exact stopWater_law h.1 h.stands
  · exact h

theorem enterPriming_waterLaw {b : StartBlock} {s : State} (h : WaterLaw s) (hp : populated .wtr s = true)
    (hcond : sprayConditions b s = true) : WaterLaw (enterPriming s) := by
  have hkeeps := enterPriming_keeps s
  have hwater : (enterPriming s).water = { s.water with
      state := .priming, slot := 0, primeTimer := some 0, dryWaitTimer := none } := by
    rw [enterPriming, enterWater_water]
    rfl
  exact h.enter hp (sprayConditions_spec hcond) hkeeps.pins hkeeps.start (.inl (by rw [hwater])) (by rw [hwater])
    (by rw [hwater]; exact h.stands.2)

theorem enterSpraying_waterLaw {b : StartBlock} {s : State} (h : WaterLaw s) (hp : populated .wtr s = true)
    (hcond : sprayConditions b s = true) : WaterLaw (enterSpraying b s) := by
  have hkeeps := enterSpraying_keeps b s
  have hwater : (enterSpraying b s).water = { s.water with
      state := .spraying, primeTimer := none, dryCount := 0, slot := 0, patternTimer := some 0 } := by
    rw [enterSpraying, enterWater_water]
    rfl
  exact h.enter hp (sprayConditions_spec hcond) hkeeps.pins hkeeps.start (.inr (by rw [hwater])) (by rw [hwater])
    (by rw [hwater]; exact Nat.zero_le 2)

theorem waterTests_waterLaw {b : StartBlock} {s : State} (h : WaterLaw s) (hp : populated .wtr s = true) :
    WaterLaw (waterTests b s) := by
  have hcount := h.stands.2
  rcases waterTests_cases b s with heq | ⟨_, hcond, heq⟩ | ⟨_, hcond, heq⟩ | ⟨hs, _, heq⟩ | ⟨_, heq⟩ <;> rw [heq]
  · exact h
  · exact enterPriming_waterLaw h hp hcond
  · exact enterSpraying_waterLaw h hp hcond
  · unfold lossTest
    split_ifs
    · exact h
    · exact h.withWater rfl rfl hcount fun _ _ hne => absurd hs hne
    · exact h.withWater rfl rfl hcount fun _ _ hne => absurd hs hne
  · exact waterOff_law h.1 hcount

/-- Outside PRIMING and SPRAYING step 4 drives pump and valves to 0, and a spraying ramp is read by no clause. -/
theorem waterOutputs_waterLaw {b : StartBlock} {s : State} (h : WaterLaw s) : WaterLaw (waterOutputs b s) := by
  have hcount := h.stands.2
  unfold waterOutputs primeOutputs
  split
  case h_1 hs => exact h.withWater rfl rfl hcount fun _ hne => absurd hs hne
  case h_2 hs =>
    refine (waterLaw_iff _).mpr ⟨h.1, ⟨fun _ hne => absurd hs hne, hcount⟩, fun hactive => h.enabled hactive⟩
  all_goals exact h.withWater rfl rfl hcount fun _ _ _ => ⟨rfl, rfl⟩

theorem waterPeriod_waterLaw {b : StartBlock} {s : State} (h : WaterLaw s) (hp : populated .wtr s = true) :
    WaterLaw (waterPeriod b s) := by
  refine WaterLaw.of_keeps (waterOutputs_waterLaw (waterTests_waterLaw
    (waterInputMove_waterLaw (readWaterInputs_waterLaw h)) ?_)) (waterRecompute_keeps b _) rfl
  unfold populated at *
  rwa [(waterInputMove_keeps _).start, (readWaterInputs_keeps b s).start]

/-- The channel a dry failure leaves: DRY_WAIT at the first count and DRY_LOCKED at the second (R101). -/
theorem failedPrime_water (s : State) :
    (failedPrime s).water = { (quietWater s).water with
      dryCount := min 2 (s.water.dryCount + 1)
      state := if min 2 (s.water.dryCount + 1) = 1 then .dryWait else .dryLocked
      dryWaitTimer := if min 2 (s.water.dryCount + 1) = 1 then some 0 else none } := by
  have hquiet : (quietWater s).water.dryCount = s.water.dryCount := rfl
  simp only [failedPrime, State.withWater_water, hquiet]
  split
  · rw [enterWater_water]
    rfl
  · rw [handOver_water, enterWater_water]
    rfl

theorem failedPrime_out (s : State) : (failedPrime s).sp.wtr.ramp.out = 0 := by
  simp only [failedPrime]
  split
  · rw [(enterWater_keeps _ _).sp]; rfl
  · rw [(handOver_keeps _ _ _).sp, (enterWater_keeps _ _).sp]; rfl

theorem failedPrime_waterLaw {s : State} (h : WaterLaw s) (hs : s.water.state = .priming ∨ s.water.state = .spraying) :
    WaterLaw (failedPrime s) := by
  have hkeeps := failedPrime_keeps s
  have hactive : s.water.state.active = true := by rcases hs with hs | hs <;> rw [hs] <;> rfl
  refine (waterLaw_iff _).mpr ⟨resetLaw_congr h.1 hkeeps.pins hkeeps.start, ?_, fun _ => ?_⟩
  · unfold waterStands
    rw [failedPrime_water, failedPrime_out]
    exact ⟨fun _ _ => ⟨rfl, rfl, rfl⟩, Nat.min_le_left 2 _⟩
  · have := h.enabled hactive
    unfold populated at *
    rw [hkeeps.start, failedPrime_water]
    exact this

theorem dryWaitEnded_waterLaw {b : StartBlock} {s : State} (h : WaterLaw s) (hs : s.water.state = .dryWait) :
    WaterLaw (dryWaitEnded b s) := by
  obtain ⟨hp, -⟩ := h.enabled (by rw [hs]; rfl)
  unfold dryWaitEnded
  split
  · next hcond =>
    have hprime := enterPriming_waterLaw h hp hcond
    have hstate : (enterPriming s).water.state = .priming := by rw [enterPriming, enterWater_water]
    exact hprime.withWater rfl rfl hprime.stands.2 fun _ hne => absurd hstate hne
  · exact waterOff_law h.1 h.stands.2

/-! ### Arms -/

theorem armTests_wtr (b : StartBlock) (n : ArmId) (s : State) : (armTests b n s).sp.wtr = s.sp.wtr := by
  have hexpired : ∀ u, (blindExpired n u).sp.wtr = u.sp.wtr := fun u => by
    unfold blindExpired
    simp only
    split <;> simp
  have harrive : ∀ u, (arrivalTest b n u).sp.wtr = u.sp.wtr := fun u => by
    rcases arrivalTest_cases b n u with h | ⟨_, h⟩ | ⟨_, h⟩ | ⟨_, h⟩ <;> simp [h]
  have hreverse : ∀ u, (reverseLiftTest b n u).sp.wtr = u.sp.wtr := fun u => by
    rcases reverseLiftTest_cases b n u with h | ⟨_, h⟩ <;> simp [h]
  have hresume : ∀ st u, (resumeTest b n st u).sp.wtr = u.sp.wtr := fun st u => by
    rcases resumeTest_cases b n st u with h | ⟨_, _, h⟩ <;> simp [h]
  have hblind : ∀ u, (blindTest b n u).sp.wtr = u.sp.wtr := fun u => by
    rcases blindTest_cases b n u with h | ⟨_, h⟩ | ⟨_, _, h⟩ <;> simp [h, hexpired]
  simp [armTests, harrive, hreverse, hresume, hblind]

theorem blindExpired_wtr (n : ArmId) (s : State) : (blindExpired n s).sp.wtr = s.sp.wtr := by
  unfold blindExpired
  simp only
  split <;> simp

theorem armPeriod_wtr (b : StartBlock) (n : ArmId) (s : State) : (armPeriod b n s).sp.wtr = s.sp.wtr := by
  have hbrush : ∀ u, (brushPeriod b n u).sp.wtr = u.sp.wtr := fun u => by
    simp only [brushPeriod]
    split <;> simp
  have hfault : ∀ u, (positionFaultMove n u).sp.wtr = u.sp.wtr := fun u => by
    unfold positionFaultMove
    split <;> simp
  simp [armPeriod, hbrush, armTests_wtr, hfault, readPosition]

/-! ### Requests, restarts and the load -/

theorem acts_waterLaw {r : Request} {s t : State} (h : WaterLaw s) (acts : Acts r s t) : WaterLaw t := by
  have hsup : ∀ c, WaterLaw (supersede r.src c s) := fun c => h.of_keeps_sp (supersede_keeps _ c s)
  cases acts with
  | nothing => exact h
  | free => exact h.of_keeps_sp (State.withFree_keeps s _)
  | refresh src tag => exact h.of_keeps_sp (refreshEntry_keeps src tag s)
  | release src tag => exact h.of_keeps_sp (freeEntry_keeps src tag s)
  | mode m running => exact takeMode_waterLaw (hsup _) (by simpa using running)
  | stow running => exact demandTransport_waterLaw (hsup _) (by simpa using running)
  | stowPending running =>
    exact (demandTransport_waterLaw (hsup _) (by simpa using running)).of_keeps_sp (makeEntry_keeps _ _ _ _)
  | arm n target =>
    exact (hsup _).of_keeps (armToTarget_keeps n target _) (by simp) (by cases n <;> decide) (by cases n <;> decide)
      (by cases n <;> decide)
  | armPending n target =>
    exact ((hsup _).of_keeps (armToTarget_keeps n target _) (by simp) (by cases n <;> decide) (by cases n <;> decide)
      (by cases n <;> decide)).of_keeps_sp (makeEntry_keeps _ _ _ _)
  | water on has running wet =>
    unfold writeEnable
    simp only
    split
    · exact (waterLaw_iff _).mpr ⟨h.1, h.stands, fun _ => ⟨has, running, wet, ‹_›⟩⟩
    · exact stopWater_law h.1 h.stands
  | trim n v =>
    exact h.of_keeps (State.withArm_keeps s n _) (by simp) (by cases n <;> decide) (by cases n <;> decide)
      (by cases n <;> decide)
  | clear mask =>
    have hset : WaterLaw (s.withFaults { s.faults with sticky := clearedSticky mask s.faults }) :=
      h.of_keeps_sp (State.withFaults_keeps s _)
    have hcount : WaterLaw ((s.withFaults { s.faults with sticky := clearedSticky mask s.faults }).withWater
        { s.water with dryCount := 0 }) :=
      hset.withWater rfl rfl (Nat.zero_le 2) fun hstands hp hs => ⟨(hstands.1 hp hs).1, (hstands.1 hp hs).2.1⟩
    unfold clearFaults releaseDry
    simp only
    split_ifs
    · exact waterOff_law hcount.1 hcount.stands.2
    · exact hcount
    · exact hset

theorem waterLaw_reset : WaterLaw State.reset :=
  ⟨fun _ => rfl, fun _ _ => ⟨rfl, rfl⟩, by decide, fun _ _ => rfl, by decide⟩

theorem coldState_waterLaw (s : State) : WaterLaw (coldState s) :=
  waterLaw_reset.of_inactive rfl (fun _ => rfl) rfl rfl

theorem reload_waterLaw (straps : Straps) (s : State) : WaterLaw (reload straps s) :=
  waterLaw_reset.of_inactive rfl (fun hlow => absurd hlow (by simp [reload, beginLoading])) rfl rfl

theorem warmRestart_waterLaw {s : State} (h : WaterLaw s) (hload : s.start.station ≠ .loading) :
    WaterLaw (warmRestart s) := by
  have hreset : resetLaw (warmRestart s) := fun hlow => absurd (h.1 (by simpa [warmRestart] using hlow)) hload
  have hout : (warmRestart s).sp.wtr.ramp.out = 0 := by simp [warmRestart, warmSetpoint, warmSite]
  have hwater : (warmRestart s).water = if populated .wtr s then warmWater s.water else s.water := by
    simp [warmRestart]
  by_cases hp : populated .wtr s = true
  · rw [if_pos hp] at hwater
    refine (waterLaw_iff _).mpr ⟨hreset, ?_, fun hactive => ?_⟩
    · unfold waterStands
      rw [hwater, hout]
      exact ⟨fun _ _ => ⟨rfl, rfl, rfl⟩, h.stands.2⟩
    · rw [hwater] at hactive
      cases hactive
  · rw [if_neg hp] at hwater
    have hinactive : s.water.state.active = false := by
      by_contra hactive
      exact hp (h.enabled (by simpa using hactive)).1
    have hstate : s.water.state ≠ .priming ∧ s.water.state ≠ .spraying := by
      constructor <;> intro hs <;> simp [hs, WaterState.active] at hinactive
    refine h.of_inactive hinactive hreset hwater ?_
    rw [hout, (h.stands.1 hstate.1 hstate.2).2.2]

theorem restartNow_waterLaw (straps : Straps) {s : State} (h : WaterLaw s) : WaterLaw (restartNow straps s) := by
  unfold restartNow
  split
  · next hs => exact warmRestart_waterLaw h (by simp [hs])
  · exact reload_waterLaw straps s

theorem frameEnded_waterLaw (o : Owner) {s : State} (h : WaterLaw s) : WaterLaw (frameEnded o s) := by
  have hline : ∀ x, WaterLaw (s.withLine x) := fun x => h.of_keeps_sp (State.withLine_keeps s x)
  cases o with
  | alert k =>
    unfold frameEnded alertSent
    simp only
    split
    · exact hline _
    · exact h
  | answer =>
    unfold frameEnded answerSent
    simp only
    split
    · split
      · next hr => exact warmRestart_waterLaw (hline _) (by simp [hr.2])
      · exact hline _
    · exact hline _
  | report => exact hline _
  | request tag => exact (hline _).of_keeps_sp (mapOutgoing_keeps _ _ _)
  | orphan => exact h

theorem firstPosition_wtr (b : StartBlock) (n : ArmId) (raw : Raw) (s : State) :
    (firstPosition b n raw s).sp.wtr = s.sp.wtr := by
  have hpin : (setPositionPin n raw s).sp = s.sp := by cases n <;> rfl
  simp only [firstPosition]
  split_ifs <;> simp [hpin]

theorem firstPosition_resetN (b : StartBlock) (n : ArmId) (raw : Raw) (s : State) :
    (firstPosition b n raw s).pins.resetN = s.pins.resetN := by
  have hpin : (setPositionPin n raw s).pins.resetN = s.pins.resetN := by cases n <;> rfl
  simp only [firstPosition]
  split_ifs <;> simp [hpin]

theorem firstPosition_waterLaw {b : StartBlock} {n : ArmId} {raw : Raw} {s : State} (h : WaterLaw s) :
    WaterLaw (firstPosition b n raw s) := by
  have hkeeps := firstPosition_keeps b n raw s
  have hstart := hkeeps.start (by cases n <;> decide)
  have hwater := hkeeps.water (by cases n <;> decide)
  obtain ⟨hreset, hstands, henabled⟩ := (waterLaw_iff s).mp h
  refine (waterLaw_iff _).mpr ⟨?_, waterStands_congr hstands hwater (by rw [firstPosition_wtr]), ?_⟩
  · unfold resetLaw
    rw [firstPosition_resetN, hstart]
    exact hreset
  · unfold waterEnabled populated
    rw [hwater, hstart]
    exact henabled

theorem acceptStart_waterLaw {b : StartBlock} {arm1 arm2 : Raw} {levels : BitVec 8} {s : State} (h : WaterLaw s)
    (hload : s.start.station = .loading) (hreset : s.pins.resetN = true) :
    WaterLaw (acceptStart b arm1 arm2 levels s) := by
  have hlisten : WaterLaw (s.withStart { s.start with station := .listening, image := some b, joinTimer := some 0 }) :=
    h.of_inactive (h.inactive (by simp [hload])) (fun hlow => absurd (hreset.symm.trans hlow) (by decide)) rfl rfl
  exact ((firstPosition_waterLaw (firstPosition_waterLaw hlisten)).of_keeps_sp (State.withReq_keeps _ _)).of_keeps_sp
    (State.withDrive_keeps _ _)

/-! ### Every effect, and every step -/

theorem withPins_waterLaw {s : State} (h : WaterLaw s) {p : Pins} (hreset : p.resetN = s.pins.resetN) :
    WaterLaw (s.withPins p) :=
  (waterLaw_iff _).mpr ⟨fun hlow => h.1 (hreset ▸ hlow), h.stands, h.enabled⟩

theorem does_waterLaw {s t : State} (h : WaterLaw s) (does : Does s t) : WaterLaw t := by
  have hpop : WaterLaw (popRx s) := h.of_keeps_sp (popRx_keeps s)
  cases does with
  | nothing => exact h
  | coldReset => exact coldState_waterLaw s
  | release straps low =>
    exact h.of_inactive (h.inactive (by simp [h.1 low])) (fun hlow => absurd hlow (by simp [beginLoading])) rfl rfl
  | failStart miso runs =>
    obtain ⟨hload, hreset⟩ := loadRuns_spec runs
    have hkeeps := failStart_keeps (endRead miso s)
    refine h.of_inactive (h.inactive (by simp [hload])) (fun hlow => ?_) hkeeps.water (by rw [hkeeps.sp]; rfl)
    rw [hkeeps.pins] at hlow
    exact absurd (hreset.symm.trans hlow) (by decide)
  | acceptStart miso _ _ _ runs =>
    obtain ⟨hload, hreset⟩ := loadRuns_spec runs
    exact acceptStart_waterLaw (s := endRead miso s) h hload hreset
  | join due =>
    simp only [joinDue, Bool.and_eq_true, decide_eq_true_eq] at due
    have hkeeps := enterRunning_keeps s
    refine h.of_inactive (h.inactive (by simp [due.1])) (fun hlow => ?_) hkeeps.water (by rw [hkeeps.sp])
    rw [hkeeps.pins] at hlow
    exact absurd (h.1 hlow) (by simp [due.1])
  | pins p reset => exact withPins_waterLaw h reset
  | drivePeriod b i =>
    exact (withPins_waterLaw h (p := { s.pins with drive := i }) rfl).of_keeps (drivePeriod_keeps b _)
      (by rw [(drivePeriod_sites b _).2])
  | armPeriod b n raw =>
    have hpins : WaterLaw (setPositionPin n raw s) := by cases n <;> exact withPins_waterLaw h rfl
    exact hpins.of_keeps (armPeriod_keeps b n _) (by rw [armPeriod_wtr]) (by cases n <;> decide) (by cases n <;> decide)
      (by cases n <;> decide)
  | waterPeriod b tank waterP _ has =>
    exact waterPeriod_waterLaw (withPins_waterLaw h (p := { s.pins with tank := tank, waterP := waterP }) rfl) has
  | bucketClose b => exact h.of_keeps_sp (State.withDrive_keeps s _)
  | speedEdge p m reset =>
    exact ((withPins_waterLaw h reset).of_keeps_sp (State.withDrive_keeps _ _)).of_keeps_sp (restartSpeedSilence_keeps _)
  | engineEdge bad m => exact (h.of_keeps_sp (State.withDrive_keeps s _)).of_keeps_sp (handOver_keeps _ _ _)
  | park => exact h.of_keeps_sp (State.withDrive_keeps s _)
  | dwell => exact h.of_keeps_sp (State.withDrive_keeps s _)
  | speedSilence => exact h.of_keeps_sp (handOver_keeps _ _ s)
  | engineSilence => exact h.of_keeps_sp (handOver_keeps _ _ s)
  | stall n =>
    exact h.of_keeps (stall_keeps n s) (by simp [stall]) (by cases n <;> decide) (by cases n <;> decide)
      (by cases n <;> decide)
  | blind n =>
    exact h.of_keeps (blindExpired_keeps n s) (by rw [blindExpired_wtr]) (by cases n <;> decide)
      (by cases n <;> decide) (by cases n <;> decide)
  | failedPrime active => exact failedPrime_waterLaw h active
  | dryWaitEnded b waits => exact dryWaitEnded_waterLaw h waits
  | pattern b spraying => exact h.withWater rfl rfl h.stands.2 fun _ _ hne => absurd spraying hne
  | age n st => exact h.of_keeps_sp (markEntry_keeps n st s)
  | entryDiscard src tag => exact h.of_keeps_sp (freeEntry_keeps src tag s)
  | entryOrphaned src tag => exact (h.of_keeps_sp (freeEntry_keeps src tag s)).of_keeps_sp (State.withLine_keeps _ _)
  | repeatExpiry tag e => exact h.of_keeps_sp (repeatExpired_keeps e s)
  | switch i d => exact h.of_keeps_sp (State.withReq_keeps s _)
  | edge b i d onEdge => exact (h.of_keeps_sp (State.withReq_keeps s _)).of_keeps_sp (switchEdge_keeps b i onEdge _)
  | reportTimer => exact (h.of_keeps_sp (State.withLine_keeps s _)).of_keeps_sp (makeDue_keeps _)
  | checkError => exact h.of_keeps_sp (State.withLine_keeps s _)
  | frame f on => exact sortFrame_waterLaw h on
  | cutOff => exact cutOff_waterLaw h
  | popRx => exact hpop
  | report f n seq v => exact hpop.of_keeps_sp (takeReport_keeps n seq v _)
  | alert n k => exact hpop.of_keeps_sp (takeAlert_keeps n k _)
  | answer f => exact hpop.of_keeps_sp (takeAnswer_keeps f _)
  | missed => exact hpop.of_keeps_sp (State.withLine_keeps _ _)
  | reply r u _ _ _ _ acts => exact (acts_waterLaw hpop acts).of_keeps_sp (queueAnswer_keeps _ _ _ _ _ _ u)
  | restart straps => exact restartNow_waterLaw straps hpop
  | lost => exact h.of_keeps_sp (State.withFree_keeps s _)
  | offer o f => exact (h.of_keeps_sp (State.withFree_keeps s _)).of_keeps_sp (State.withLine_keeps _ _)
  | frameSent x => exact frameEnded_waterLaw _ (h.of_keeps_sp (State.withLine_keeps s _))

/-- Settles O30: the channel enters PRIMING and SPRAYING under the spray conditions alone, every other move of it stops
pump and valves, and each other effect keeps the law by its frame. -/
theorem everyStepKeepsTheWaterLaw : Obligations.EveryStepKeepsTheWaterLaw := by
  unfold Obligations.EveryStepKeepsTheWaterLaw
  exact step_keeps (fun s x h => h.of_keeps_sp (State.withPending_keeps s x)) (fun _ h => h)
    (fun _ _ => does_waterLaw)

end Sys2Proof.Machine
end

section
/-! SUPPORT. Both arms' turns, and the law of the pending table along every step (R124, R125, R126). -/

namespace Sys2Proof.Machine

-- One thread elaborates this section, so that the check's memory limit holds the stacks.
set_option Elab.async false

/-! ### The arms that both turns leave -/

/-- What an operation leaves of its arm depends on that arm and the fault unit alone. -/
def armDetermined (f : ArmId → State → State) : Prop :=
  ∀ n s u, State.arm u n = State.arm s n → u.faults = s.faults → (f n u).arm n = (f n s).arm n

theorem heldByTrip_congr {n : ArmId} {s u : State} (harm : u.arm n = s.arm n) (hfaults : u.faults = s.faults) :
    heldByTrip n u = heldByTrip n s := by
  unfold heldByTrip
  rw [harm, sticky_congr hfaults]

theorem enterArm_arm_congr {n : ArmId} {s u : State} (harm : u.arm n = s.arm n) (st : ArmState) (r : Bool) :
    (enterArm n st r u).arm n = (enterArm n st r s).arm n := by
  rw [enterArm_arm, enterArm_arm, harm]

theorem stowDemand_determined : armDetermined stowDemand := by
  intro n s u harm hfaults
  have htrip := heldByTrip_congr harm hfaults
  have henter := enterArm_arm_congr (n := n) harm
  unfold stowDemand
  rw [harm, htrip]
  split
  case h_6 => split <;> first | exact harm | exact henter _ _
  all_goals first | exact harm | exact henter _ _

theorem silenceArm_determined : armDetermined silenceArm := by
  intro n s u harm _
  have henter := enterArm_arm_congr (n := n) harm
  unfold silenceArm
  rw [harm]
  split <;> first | exact harm | exact henter _ _

/-- Each populated arm is left as its own turn leaves it, the others as they were. -/
theorem forArms_arm {f : ArmId → State → State} (hlocal : armLocal f) (hdet : armDetermined f) (n : ArmId) (s : State) :
    (forArms f s).arm n = if populated (armChannel n) s then (f n s).arm n else s.arm n := by
  have hturn : ∀ m u, (armTurn f m u).arm m = if populated (armChannel m) u then (f m u).arm m else u.arm m := by
    intro m u
    unfold armTurn
    split <;> rfl
  obtain ⟨hfaults, -, hstart, hother⟩ := armTurn_local hlocal .one s
  rw [forArms_eq_turns fun m u => (hlocal m u).2.2.1]
  cases n with
  | one => rw [((armTurn_local hlocal .two _).2.2.2 .one (by decide)).1, hturn]
  | two =>
    have hpop : populated (armChannel .two) (armTurn f .one s) = populated (armChannel .two) s := by
      unfold populated
      rw [hstart]
    rw [hturn, hpop, hdet .two s _ (hother .two (by decide)).1 hfaults, (hother .two (by decide)).1]

/-- The state a stow demand leaves (R79). -/
def stowedState (st : ArmState) (trip : Bool) : ArmState :=
  match st with
  | .stowed => .stowed
  | .lowering => .lifting
  | .working => .lifting
  | .lifting => .lifting
  | .reverseLifted => .stowed
  | .held => if trip then .held else .lifting

theorem stowDemand_state (n : ArmId) (s : State) :
    ((stowDemand n s).arm n).state = stowedState (s.arm n).state (heldByTrip n s) := by
  unfold stowDemand
  split
  case h_1 h => rw [h]; rfl
  case h_6 h =>
    rw [h]
    unfold stowedState
    split
    · exact h
    · exact (enterArm_state ..).1
  all_goals rename_i h; rw [h]; exact (enterArm_state ..).1

/-- A demand that every arm goes up leaves each populated arm in the state of R79, with and without a mode change. -/
theorem demandTransport_arm (n : ArmId) (s : State) :
    (demandTransport s).arm n = if populated (armChannel n) s then (stowDemand n s).arm n else s.arm n := by
  unfold demandTransport
  split
  · exact forArms_arm stowDemand_local stowDemand_determined n s
  · have hkeeps : (changeMode .transport s).arm n = (forArms stowDemand (switchMode .transport s)).arm n := by
      rw [changeMode_eq, makeDue_arm, (waterModeChange_keeps _ _).arm n (by cases n <;> decide)]
      rfl
    rw [hkeeps, forArms_arm stowDemand_local stowDemand_determined]
    have harm : (switchMode .transport s).arm n = s.arm n := by cases n <;> rfl
    rw [stowDemand_determined n s _ harm rfl, harm]
    rfl

theorem demandTransport_populated (c : Channel) (s : State) : populated c (demandTransport s) = populated c s := by
  have hrole : (demandTransport s).start.role = s.start.role := by
    unfold demandTransport
    split
    · rw [(forArms_keeps stowDemand_keeps s).start]
    · rw [changeMode_eq, makeDue_start, waterModeChange_start, (modeArms_keeps _ _).1.start]
      rfl
  unfold populated
  rw [hrole]

theorem mem_populatedArms (n : ArmId) (s : State) : n ∈ populatedArms s ↔ populated (armChannel n) s = true := by
  cases n <;> simp [populatedArms]

theorem allStowed_iff (s : State) :
    allStowed s = true ↔ ∀ n, populated (armChannel n) s = true → (s.arm n).state = .stowed := by
  simp [allStowed, mem_populatedArms]

theorem someArmTripped_iff (s : State) :
    someArmTripped s = true ↔ ∃ n, populated (armChannel n) s = true ∧ heldByTrip n s = true := by
  simp [someArmTripped, mem_populatedArms]

theorem stowsAtOnce_iff (s : State) :
    stowsAtOnce s = true ↔ ∀ n, populated (armChannel n) s = true →
      (s.arm n).state = .stowed ∨ (s.arm n).state = .reverseLifted := by
  simp [stowsAtOnce, mem_populatedArms]

/-- Arms that all stow at once are STOWED after the demand (R110). -/
theorem demandTransport_allStowed {s : State} (h : stowsAtOnce s = true) : allStowed (demandTransport s) = true := by
  rw [stowsAtOnce_iff] at h
  rw [allStowed_iff]
  intro n hp
  rw [demandTransport_populated] at hp
  rw [demandTransport_arm, if_pos hp, stowDemand_state]
  rcases h n hp with hs | hs <;> rw [hs] <;> rfl

/-- An arm held by its trip is still held after the demand (R79, R85). -/
theorem demandTransport_tripped {s : State} (h : someArmTripped s = true) :
    someArmTripped (demandTransport s) = true := by
  rw [someArmTripped_iff] at h ⊢
  obtain ⟨n, hp, htrip⟩ := h
  have hstate : (s.arm n).state = .held := by
    simp only [heldByTrip, Bool.and_eq_true, decide_eq_true_eq] at htrip
    exact htrip.1
  have harm : (demandTransport s).arm n = s.arm n := by
    rw [demandTransport_arm, if_pos hp]
    simp [stowDemand, hstate, htrip]
  exact ⟨n, by rwa [demandTransport_populated], by rwa [heldByTrip_congr harm (demandTransport_keeps s).faults]⟩

/-! ### The table -/

/-- The law of a pending table. -/
def TableLaw (l : List PendingEntry) : Prop :=
  l.length ≤ 4 ∧ l.Pairwise (fun a b => ¬ a.sameKey b) ∧ l.Pairwise (fun a b => a.claims.overlap b.claims = false)
    ∧ ∀ e ∈ l, e.state ≠ .running → e.claims = ⟨false, false, false⟩

theorem pendingLaw_iff (s : State) : PendingLaw s ↔ TableLaw s.req.table := Iff.rfl

/-- An entry keeps its key, and keeps its state and claims or finishes without claims (R126). -/
def EntryKept (e e' : PendingEntry) : Prop :=
  e'.requester = e.requester ∧ e'.tag = e.tag
    ∧ ((e'.state = e.state ∧ e'.claims = e.claims) ∨ (e'.state ≠ .running ∧ e'.claims = ⟨false, false, false⟩))

theorem EntryKept.refl (e : PendingEntry) : EntryKept e e := ⟨rfl, rfl, .inl ⟨rfl, rfl⟩⟩

theorem EntryKept.trans {a b c : PendingEntry} (h : EntryKept a b) (h' : EntryKept b c) : EntryKept a c := by
  obtain ⟨hr, ht, hk⟩ := h
  obtain ⟨hr', ht', hk'⟩ := h'
  refine ⟨hr'.trans hr, ht'.trans ht, ?_⟩
  rcases hk' with ⟨hs', hc'⟩ | hfin
  · rcases hk with ⟨hs, hc⟩ | ⟨hs, hc⟩
    · exact .inl ⟨hs'.trans hs, hc'.trans hc⟩
    · exact .inr ⟨by rwa [hs'], hc'.trans hc⟩
  · exact .inr hfin

/-- Every entry of the table is kept, in its place. -/
def TableKept (s t : State) : Prop :=
  ∃ f : PendingEntry → PendingEntry, (∀ e, EntryKept e (f e)) ∧ t.req.table = s.req.table.map f

theorem TableKept.of_eq {s t : State} (h : t.req.table = s.req.table) : TableKept s t :=
  ⟨id, EntryKept.refl, by simp [h]⟩

theorem TableKept.trans {s t u : State} (h : TableKept s t) (h' : TableKept t u) : TableKept s u := by
  obtain ⟨f, hf, ht⟩ := h
  obtain ⟨g, hg, hu⟩ := h'
  exact ⟨g ∘ f, fun e => (hf e).trans (hg _), by rw [hu, ht, List.map_map]⟩

theorem overlap_none_left (c : Claims) : Claims.overlap ⟨false, false, false⟩ c = false := rfl

theorem overlap_none_right (c : Claims) : c.overlap ⟨false, false, false⟩ = false := by
  simp [Claims.overlap]

theorem EntryKept.overlap_left {e e' : PendingEntry} (h : EntryKept e e') {c : Claims}
    (hc : e.claims.overlap c = false) : e'.claims.overlap c = false := by
  rcases h.2.2 with ⟨_, hk⟩ | ⟨_, hk⟩ <;> rw [hk]
  · exact hc
  · exact overlap_none_left c

theorem EntryKept.overlap_right {e e' : PendingEntry} (h : EntryKept e e') {c : Claims}
    (hc : c.overlap e.claims = false) : c.overlap e'.claims = false := by
  rcases h.2.2 with ⟨_, hk⟩ | ⟨_, hk⟩ <;> rw [hk]
  · exact hc
  · exact overlap_none_right c

/-- A table whose entries are kept keeps its law. -/
theorem TableLaw.map {l : List PendingEntry} (h : TableLaw l) {f : PendingEntry → PendingEntry}
    (hf : ∀ e, EntryKept e (f e)) : TableLaw (l.map f) := by
  obtain ⟨hlen, hkeys, hclaims, hfree⟩ := h
  refine ⟨by simpa using hlen, ?_, ?_, ?_⟩
  · rw [List.pairwise_map]
    refine hkeys.imp fun {a b} hab => ?_
    unfold PendingEntry.sameKey at *
    rwa [(hf a).1, (hf b).1, (hf a).2.1, (hf b).2.1]
  · rw [List.pairwise_map]
    exact hclaims.imp fun {a b} hab => (hf b).overlap_right ((hf a).overlap_left hab)
  · intro e' he' hrun
    obtain ⟨e, he, rfl⟩ := List.mem_map.mp he'
    rcases (hf e).2.2 with ⟨hs, hc⟩ | ⟨_, hc⟩
    · rw [hc]; exact hfree e he (by rwa [← hs])
    · exact hc

theorem PendingLaw.of_kept {s t : State} (h : PendingLaw s) (hk : TableKept s t) : PendingLaw t := by
  obtain ⟨f, hf, ht⟩ := hk
  rw [pendingLaw_iff, ht]
  exact TableLaw.map h hf

theorem PendingLaw.congr {s t : State} (h : PendingLaw s) (ht : t.req.table = s.req.table) : PendingLaw t :=
  h.of_kept (.of_eq ht)

theorem PendingLaw.of_keeps {l : List Part} {s t : State} (h : PendingLaw s) (keeps : KeepsAllBut l s t)
    (hreq : Part.req ∉ l := by decide) : PendingLaw t :=
  h.congr (by rw [keeps.req hreq])

/-- Entries that leave the table leave its law. -/
theorem PendingLaw.sublist {s t : State} (h : PendingLaw s) (ht : t.req.table.Sublist s.req.table) : PendingLaw t := by
  obtain ⟨hlen, hkeys, hclaims, hfree⟩ := h
  exact ⟨ht.length_le.trans hlen, hkeys.sublist ht, hclaims.sublist ht, fun e he => hfree e (ht.subset he)⟩

/-! ### Operations that keep every entry -/

theorem afterArm_kept (e : PendingEntry) (n : ArmId) (a : Arm) (every : Bool) : EntryKept e (e.afterArm n a every) := by
  have hfin : ∀ st value, st ≠ .running → EntryKept e (e.finish st value) :=
    fun st value hst => ⟨rfl, rfl, .inr ⟨hst, rfl⟩⟩
  unfold PendingEntry.afterArm
  split
  · split
    case h_4 => split <;> first | exact .refl e | exact hfin _ _ (by decide)
    case h_14 => split <;> first | exact .refl e | exact hfin _ _ (by decide)
    all_goals first | exact .refl e | exact hfin _ _ (by decide)
  · exact .refl e

theorem endOperations_tableKept (n : ArmId) (s : State) : TableKept s (endOperations n s) :=
  ⟨fun e => e.afterArm n (s.arm n) (allStowed s), fun e => afterArm_kept e _ _ _, rfl⟩

theorem enterArm_tableKept (n : ArmId) (st : ArmState) (r : Bool) (s : State) : TableKept s (enterArm n st r s) := by
  unfold enterArm
  simp only
  split_ifs <;> refine TableKept.trans (.of_eq ?_) (endOperations_tableKept n _) <;> simp

theorem stowDemand_tableKept (n : ArmId) (s : State) : TableKept s (stowDemand n s) := by
  rcases stowDemand_cases n s with h | h | ⟨_, h⟩ <;> rw [h]
  · exact .of_eq rfl
  all_goals exact enterArm_tableKept _ _ _ _

theorem silenceArm_tableKept (n : ArmId) (s : State) : TableKept s (silenceArm n s) := by
  rcases silenceArm_cases n s with h | h | ⟨_, h⟩ <;> rw [h]
  · exact .of_eq rfl
  all_goals exact enterArm_tableKept _ _ _ _

theorem armToTarget_tableKept (n : ArmId) (x : Target) (s : State) : TableKept s (armToTarget n x s) := by
  rcases armToTarget_cases n x s with h | ⟨_, h⟩ | ⟨_, h⟩ | ⟨_, _, h⟩ <;> rw [h]
  · exact .of_eq rfl
  all_goals exact enterArm_tableKept _ _ _ _

theorem forArms_tableKept {f : ArmId → State → State} (hf : ∀ n s, TableKept s (f n s)) (s : State) :
    TableKept s (forArms f s) := by
  unfold forArms
  simp only
  split_ifs
  · exact (hf _ _).trans (hf _ _)
  · exact hf _ _
  · exact hf _ _
  · exact .of_eq rfl

theorem changeMode_tableKept (m : Mode) (s : State) : TableKept s (changeMode m s) := by
  have harms : TableKept s (if stowsArms m then forArms stowDemand (switchMode m s) else switchMode m s) := by
    split
    · exact forArms_tableKept stowDemand_tableKept (switchMode m s)
    · exact .of_eq rfl
  rw [changeMode_eq]
  exact harms.trans (.of_eq (by simp))

theorem takeMode_tableKept (m : Mode) (s : State) : TableKept s (takeMode m s) := by
  unfold takeMode
  split
  · exact .of_eq rfl
  · exact changeMode_tableKept m s

theorem demandTransport_tableKept (s : State) : TableKept s (demandTransport s) := by
  unfold demandTransport
  split
  · exact forArms_tableKept stowDemand_tableKept s
  · exact changeMode_tableKept _ s

theorem enterSilenced_tableKept (s : State) : TableKept s (enterSilenced s) := by
  have hfirst : ∀ w, TableKept w (stopWater (forArms silenceArm w)) := fun w =>
    (forArms_tableKept silenceArm_tableKept w).trans (.of_eq (by rw [(stopWater_keeps _).req]))
  exact TableKept.trans (.of_eq (by simp)) (hfirst _)

theorem supersede_tableKept (src : Nibble) (c : Claims) (s : State) : TableKept s (supersede src c s) := by
  refine ⟨_, fun e => ?_, rfl⟩
  split
  · exact ⟨rfl, rfl, .inr ⟨by simp [PendingEntry.finish], rfl⟩⟩
  · exact .refl e

theorem refreshEntry_tableKept (src tag : Nibble) (s : State) : TableKept s (refreshEntry src tag s) := by
  refine ⟨_, fun e => ?_, rfl⟩
  split
  · exact ⟨rfl, rfl, .inl ⟨rfl, rfl⟩⟩
  · exact .refl e

theorem sortFrame_tableKept (f : Frame) (s : State) : TableKept s (sortFrame f s) := by
  unfold sortFrame duplicateStation
  split_ifs
  · exact enterSilenced_tableKept s
  · exact .of_eq rfl
  · exact .of_eq (by rw [(queueFrame_keeps f s).req])
  · exact .of_eq rfl

theorem cutOff_tableKept (s : State) : TableKept s (cutOff s) := by
  unfold cutOff
  simp only
  split
  case h_1 => exact (TableKept.of_eq (by rfl)).trans (enterSilenced_tableKept _)
  case h_2 => exact (TableKept.of_eq (by rfl)).trans (enterSilenced_tableKept _)
  case h_3 => exact .of_eq (by simp)
  all_goals exact .of_eq rfl

theorem blindExpired_tableKept (n : ArmId) (s : State) : TableKept s (blindExpired n s) := by
  unfold blindExpired
  simp only
  split
  · exact enterArm_tableKept _ _ _ _
  · exact (enterArm_tableKept n .lifting false s).trans (.of_eq (by simp))

theorem armPeriod_tableKept (b : StartBlock) (n : ArmId) (s : State) : TableKept s (armPeriod b n s) := by
  have hread : TableKept s (readPosition n s) := .of_eq (by simp [readPosition])
  have hfault : ∀ u, TableKept u (positionFaultMove n u) := fun u => by
    unfold positionFaultMove
    split
    · exact enterArm_tableKept _ _ _ _
    · exact .of_eq rfl
  have harrive : ∀ u, TableKept u (arrivalTest b n u) := fun u => by
    rcases arrivalTest_cases b n u with h | ⟨_, h⟩ | ⟨_, h⟩ | ⟨_, h⟩ <;> rw [h]
    · exact .of_eq rfl
    all_goals exact enterArm_tableKept _ _ _ _
  have hreverse : ∀ u, TableKept u (reverseLiftTest b n u) := fun u => by
    rcases reverseLiftTest_cases b n u with h | ⟨_, h⟩ <;> rw [h]
    · exact .of_eq rfl
    · exact enterArm_tableKept _ _ _ _
  have hresume : ∀ st u, TableKept u (resumeTest b n st u) := fun st u => by
    rcases resumeTest_cases b n st u with h | ⟨_, _, h⟩ <;> rw [h]
    · exact .of_eq rfl
    · exact enterArm_tableKept _ _ _ _
  have hblind : ∀ u, TableKept u (blindTest b n u) := fun u => by
    rcases blindTest_cases b n u with h | ⟨_, h⟩ | ⟨_, _, h⟩ <;> rw [h]
    · exact .of_eq rfl
    · exact blindExpired_tableKept n u
    · exact .of_eq (by simp)
  have hbrush : ∀ u, TableKept u (brushPeriod b n u) := fun u =>
    .of_eq (by rw [(brushPeriod_keeps b n u).req (by cases n <;> decide)])
  exact ((((((hread.trans (hfault _)).trans (harrive _)).trans (hreverse _)).trans (hresume _ _)).trans
    (hblind _))).trans (hbrush _)

theorem firstPosition_tableKept (b : StartBlock) (n : ArmId) (raw : Raw) (s : State) :
    TableKept s (firstPosition b n raw s) := by
  have hpin : (setPositionPin n raw s).req = s.req := by cases n <;> rfl
  simp only [firstPosition]
  split_ifs
  · exact (TableKept.of_eq (by simp [hpin])).trans (enterArm_tableKept _ _ _ _)
  all_goals exact .of_eq (by simp [hpin])

theorem acceptStart_tableKept (b : StartBlock) (arm1 arm2 : Raw) (levels : BitVec 8) (s : State) :
    TableKept s (acceptStart b arm1 arm2 levels s) := by
  have hpositions : ∀ u, TableKept s (firstPosition b .two arm2 (firstPosition b .one arm1 (s.withStart u))) := fun u =>
    (TableKept.of_eq (t := s.withStart u) rfl).trans
      ((firstPosition_tableKept b .one arm1 _).trans (firstPosition_tableKept b .two arm2 _))
  exact (hpositions { s.start with station := .listening, image := some b, joinTimer := some 0 }).trans
    (.of_eq (by simp [acceptStart]))

/-! ### The new entry of a request -/

/-- An entry joins the table: a place is free, its key is new, and it claims nothing that is claimed (R122, R124). -/
theorem makeEntry_pendingLaw {r : Request} {op : Operation} {c : Claims} {s : State} (h : PendingLaw s)
    (room : s.req.table.length < 4) (fresh : ∀ e ∈ s.req.table, ¬ (e.requester = r.src ∧ e.tag = r.tag))
    (clear : ∀ e ∈ s.req.table, e.claims.overlap c = false) : PendingLaw (makeEntry r op c s) := by
  obtain ⟨hlen, hkeys, hclaims, hfree⟩ := h
  refine ⟨?_, ?_, ?_, ?_⟩
  · simp [makeEntry]; omega
  · simp only [makeEntry, State.withReq_req, List.pairwise_append, List.pairwise_singleton, List.mem_singleton]
    refine ⟨hkeys, trivial, fun a ha b hb => ?_⟩
    rw [hb]
    exact fresh a ha
  · simp only [makeEntry, State.withReq_req, List.pairwise_append, List.pairwise_singleton, List.mem_singleton]
    refine ⟨hclaims, trivial, fun a ha b hb => ?_⟩
    rw [hb]
    exact clear a ha
  · intro e he hrun
    simp only [makeEntry, State.withReq_req, List.mem_append, List.mem_singleton] at he
    rcases he with he | rfl
    · exact hfree e he hrun
    · exact absurd rfl hrun

/-- After the requester's own overlapping entries are superseded, a request without a conflict shares no claim (R122,
R124). -/
theorem supersede_clear {src : Nibble} {c : Claims} {s : State} (h : PendingLaw s)
    (hconf : conflicts src c s = false) : ∀ e ∈ (supersede src c s).req.table, e.claims.overlap c = false := by
  obtain ⟨-, -, -, hfree⟩ := h
  intro e' he'
  simp only [supersede, State.withReq_req, List.mem_map] at he'
  obtain ⟨e, he, rfl⟩ := he'
  split
  · exact overlap_none_left c
  · next hn =>
    by_cases hrun : e.state = .running
    · by_cases hsrc : e.requester = src
      · simpa [hrun, hsrc] using hn
      · simp only [conflicts, List.any_eq_false] at hconf
        simpa [hrun, hsrc] using hconf e he
    · rw [hfree e he hrun]
      exact overlap_none_left c

theorem findEntry_none {src tag : Nibble} {s : State} (h : findEntry src tag s = none) :
    ∀ e ∈ s.req.table, ¬ (e.requester = src ∧ e.tag = tag) := by
  intro e he
  have := List.find?_eq_none.mp h e he
  simpa using this

/-- What a new entry needs of the table is kept while every entry is. -/
theorem TableKept.entry_fits {s t : State} (hk : TableKept s t) {r : Request} {c : Claims}
    (room : s.req.table.length < 4) (fresh : ∀ e ∈ s.req.table, ¬ (e.requester = r.src ∧ e.tag = r.tag))
    (clear : ∀ e ∈ s.req.table, e.claims.overlap c = false) :
    t.req.table.length < 4 ∧ (∀ e ∈ t.req.table, ¬ (e.requester = r.src ∧ e.tag = r.tag))
      ∧ ∀ e ∈ t.req.table, e.claims.overlap c = false := by
  obtain ⟨f, hf, ht⟩ := hk
  rw [ht]
  refine ⟨by simpa using room, fun e' he' => ?_, fun e' he' => ?_⟩
  · obtain ⟨e, he, rfl⟩ := List.mem_map.mp he'
    rw [(hf e).1, (hf e).2.1]
    exact fresh e he
  · obtain ⟨e, he, rfl⟩ := List.mem_map.mp he'
    exact (hf e).overlap_left (clear e he)

/-- The entry of a request that has found no conflict and room joins the table that its act leaves. -/
theorem requestEntry_pendingLaw {r : Request} {op : Operation} {c : Claims} {s t : State} (h : PendingLaw s)
    (fresh : findEntry r.src r.tag s = none) (clear : conflicts r.src c s = false) (room : tableFull s = false)
    (hact : TableKept (supersede r.src c s) t) : PendingLaw (makeEntry r op c t) := by
  have hsup := supersede_tableKept r.src c s
  have hlen : (supersede r.src c s).req.table.length < 4 := by
    simp only [supersede_table, List.length_map]
    simpa [tableFull] using room
  have hkeys : ∀ e ∈ (supersede r.src c s).req.table, ¬ (e.requester = r.src ∧ e.tag = r.tag) := by
    obtain ⟨f, hf, ht⟩ := hsup
    rw [ht]
    intro e' he'
    obtain ⟨e, he, rfl⟩ := List.mem_map.mp he'
    rw [(hf e).1, (hf e).2.1]
    exact findEntry_none fresh e he
  obtain ⟨hroom, hfresh, hclear⟩ := hact.entry_fits hlen hkeys (supersede_clear h clear)
  exact makeEntry_pendingLaw ((h.of_kept hsup).of_kept hact) hroom hfresh hclear

theorem freeEntry_pendingLaw {src tag : Nibble} {s : State} (h : PendingLaw s) : PendingLaw (freeEntry src tag s) :=
  h.sublist List.filter_sublist

/-- What R122 tests of the arms before the demand decides what it leaves: arms that need an entry are neither all STOWED
nor held by a trip after it (R110). -/
theorem transportNeedsEntry_of_pending {s u : State} (harms : ∀ n, u.arm n = s.arm n) (hfaults : u.faults = s.faults)
    (hrole : u.start.role = s.start.role) (notStowed : allStowed (demandTransport u) = false)
    (notTripped : someArmTripped (demandTransport u) = false) : transportNeedsEntry s = true := by
  have hpop : ∀ n, populated (armChannel n) u = populated (armChannel n) s := fun n => by
    unfold populated
    rw [hrole]
  have honce : stowsAtOnce s = false := by
    by_contra h
    have h' : stowsAtOnce u = true := by
      rw [stowsAtOnce_iff]
      intro n hp
      rw [harms]
      exact (stowsAtOnce_iff s).mp (by simpa using h) n (by rwa [← hpop])
    exact absurd ((demandTransport_allStowed h').symm.trans notStowed) (by decide)
  have htrip : someArmTripped s = false := by
    by_contra h
    obtain ⟨n, hp, ht⟩ := (someArmTripped_iff s).mp (by simpa using h)
    have h' : someArmTripped u = true :=
      (someArmTripped_iff u).mpr ⟨n, by rwa [hpop], by rwa [heldByTrip_congr (harms n) hfaults]⟩
    exact absurd ((demandTransport_tripped h').symm.trans notTripped) (by decide)
  simp [transportNeedsEntry, honce, htrip]

theorem acts_pendingLaw {r : Request} {s t : State} (h : PendingLaw s) (acts : Acts r s t) : PendingLaw t := by
  have hsup : ∀ c, PendingLaw (supersede r.src c s) := fun c => h.of_kept (supersede_tableKept _ c s)
  cases acts with
  | nothing => exact h
  | free => exact h
  | refresh src tag => exact h.of_kept (refreshEntry_tableKept src tag s)
  | release src tag => exact freeEntry_pendingLaw h
  | mode m => exact (hsup _).of_kept (takeMode_tableKept m _)
  | stow => exact (hsup _).of_kept (demandTransport_tableKept _)
  | stowPending _ fresh clear room notStowed notTripped =>
    have hkeeps := supersede_keeps r.src (modeClaims .transport s) s
    refine requestEntry_pendingLaw h fresh clear (room ?_) (demandTransport_tableKept _)
    exact transportNeedsEntry_of_pending (fun n => hkeeps.arm n (by cases n <;> decide)) hkeeps.faults
      (by rw [hkeeps.start]) notStowed notTripped
  | arm n target => exact (hsup _).of_kept (armToTarget_tableKept n target _)
  | armPending n target _ _ _ clear fresh room =>
    exact requestEntry_pendingLaw h fresh clear room (armToTarget_tableKept n target _)
  | water on => exact h.of_keeps (writeEnable_keeps on s)
  | trim n v => exact h.of_keeps (State.withArm_keeps s n _) (by cases n <;> decide)
  | clear mask => exact h.of_keeps (clearFaults_keeps mask s)

/-! ### The outgoing side leaves the pending table -/

@[simp] theorem removeOutgoing_table (tag : Nibble) (s : State) :
    (removeOutgoing tag s).req.table = s.req.table := by
  simp [removeOutgoing]

theorem giveUp_table (tag : Nibble) (s : State) : (giveUp tag s).req.table = s.req.table := by
  simp [giveUp]

theorem mapOutgoing_table (tag : Nibble) (f : OutgoingEntry → OutgoingEntry) (s : State) :
    (mapOutgoing tag f s).req.table = s.req.table := rfl

theorem repeatExpired_table (e : OutgoingEntry) (s : State) : (repeatExpired e s).req.table = s.req.table := by
  unfold repeatExpired
  split
  · split
    · exact giveUp_table _ s
    · rfl
  · rfl
  · rfl

theorem takeAnswer_table (f : Frame) (s : State) : (takeAnswer f s).req.table = s.req.table := by
  unfold takeAnswer answered backOffOrGiveUp
  split
  · split_ifs <;> simp [giveUp_table, mapOutgoing_table]
  · rfl

theorem removeAll_table (tags : List Nibble) (s : State) :
    (tags.foldl (fun t tag => removeOutgoing tag t) s).req.table = s.req.table := by
  induction tags generalizing s with
  | nil => rfl
  | cons tag tags ih => rw [List.foldl_cons, ih, removeOutgoing_table]

theorem serveSlot_table (b : StartBlock) (i : Fin 8) (onEdge : Bool) (made : List Nibble) (slot : Option SwitchSlot)
    (s : State) : (serveSlot b i onEdge made slot s).req.table = s.req.table := by
  cases slot with
  | none => rfl
  | some x =>
    have hremove : (removeEarlier i x.dest made s).req.table = s.req.table := removeAll_table _ s
    simp only [serveSlot]
    split
    · rw [raiseOnce_req, hremove]
    · exact hremove

theorem switchEdge_table (b : StartBlock) (i : Fin 8) (onEdge : Bool) (s : State) :
    (switchEdge b i onEdge s).req.table = s.req.table := by
  rw [switchEdge, serveSlot_table, serveSlot_table]

/-! ### Every effect, and every step -/

theorem PendingLaw.of_empty {t : State} (h : t.req.table = []) : PendingLaw t := by
  rw [pendingLaw_iff, h]
  exact ⟨by decide, .nil, .nil, by simp⟩

theorem warmRestart_table (s : State) : (warmRestart s).req.table = [] := by simp [warmRestart]

theorem frameEnded_pendingLaw (o : Owner) {s : State} (h : PendingLaw s) : PendingLaw (frameEnded o s) := by
  cases o with
  | alert k =>
    unfold frameEnded alertSent
    simp only
    split <;> exact h
  | answer =>
    unfold frameEnded answerSent
    simp only
    split
    · split
      · exact .of_empty (warmRestart_table _)
      · exact h
    · exact h
  | report => exact h
  | request tag => exact h
  | orphan => exact h

theorem does_pendingLaw {s t : State} (h : PendingLaw s) (does : Does s t) : PendingLaw t := by
  have hpop : PendingLaw (popRx s) := h.of_keeps (popRx_keeps s)
  cases does with
  | nothing => exact h
  | coldReset => exact .of_empty rfl
  | release => exact h
  | failStart miso => exact PendingLaw.of_keeps (s := endRead miso s) h (failStart_keeps _)
  | acceptStart miso arm1 arm2 levels =>
    exact PendingLaw.of_kept (s := endRead miso s) h (acceptStart_tableKept _ arm1 arm2 levels _)
  | join => exact h.of_keeps (enterRunning_keeps s)
  | pins p => exact h
  | drivePeriod b i => exact h.congr (by rw [(drivePeriod_keeps b _).req]; rfl)
  | armPeriod b n raw =>
    have hpin : PendingLaw (setPositionPin n raw s) := by cases n <;> exact h
    exact hpin.of_kept (armPeriod_tableKept b n _)
  | waterPeriod b tank waterP =>
    exact h.congr (by rw [(waterPeriod_keeps b _).req]; rfl)
  | bucketClose b => exact h
  | speedEdge p m => exact h.congr (by rw [(restartSpeedSilence_keeps _).req]; rfl)
  | engineEdge bad m => exact h.congr (by rw [handOver_req]; rfl)
  | park => exact h
  | dwell => exact h
  | speedSilence => exact h.of_keeps (handOver_keeps _ _ s)
  | engineSilence => exact h.of_keeps (handOver_keeps _ _ s)
  | stall n => exact h.of_kept ((enterArm_tableKept n .held false s).trans (.of_eq (by simp [stall])))
  | blind n => exact h.of_kept (blindExpired_tableKept n s)
  | failedPrime => exact h.of_keeps (failedPrime_keeps s)
  | dryWaitEnded b => exact h.of_keeps (dryWaitEnded_keeps b s)
  | pattern b => exact h
  | age n st => exact h.of_keeps (markEntry_keeps n st s)
  | entryDiscard src tag => exact freeEntry_pendingLaw h
  | entryOrphaned src tag => exact freeEntry_pendingLaw (src := src) (tag := tag) h
  | repeatExpiry tag e => exact h.congr (repeatExpired_table e s)
  | switch i d => exact h
  | edge b i d onEdge => exact PendingLaw.congr h (switchEdge_table b i onEdge (s.withSwitch i d))
  | reportTimer => exact h.congr (by rw [makeDue_req]; rfl)
  | checkError => exact h
  | frame f => exact h.of_kept (sortFrame_tableKept f s)
  | cutOff => exact h.of_kept (cutOff_tableKept s)
  | popRx => exact hpop
  | report f n seq v => exact hpop.of_keeps (takeReport_keeps n seq v _)
  | alert n k => exact hpop.of_keeps (takeAlert_keeps n k _)
  | answer f => exact hpop.congr (takeAnswer_table f _)
  | missed => exact hpop
  | reply r u _ _ _ _ acts => exact (acts_pendingLaw hpop acts).of_keeps (queueAnswer_keeps _ _ _ _ _ _ u)
  | restart straps =>
    refine .of_empty ?_
    unfold restartNow
    split
    · exact warmRestart_table _
    · rfl
  | lost => exact h
  | offer o f => exact h
  | frameSent x => exact frameEnded_pendingLaw x.owner h

/-- Settles O46: every operation keeps each entry in its place (`TableKept`), takes entries out, or adds the entry of a
request that has found a free place, a new key and no conflict. -/
theorem everyStepKeepsThePendingLaw : Obligations.EveryStepKeepsThePendingLaw := by
  unfold Obligations.EveryStepKeepsThePendingLaw
  refine step_keeps (fun _ _ h => h) (fun s h => ?_) (fun _ _ => does_pendingLaw)
  exact PendingLaw.of_kept (t := elapse s) h
    ⟨fun e => { e with time := e.time + 1 }, fun e => ⟨rfl, rfl, .inl ⟨rfl, rfl⟩⟩, rfl⟩

end Sys2Proof.Machine
end

section
/-! SUPPORT. The queues of the line port, its counters, the outgoing table and the peer table: most operations change
none of them, whatever alert or report they make due. -/

namespace Sys2Proof.Machine

-- One thread elaborates this section, so that the check's memory limit holds the stacks.
set_option Elab.async false

/-- What the laws of the line and of the outgoing table speak of, the station number included. -/
structure Port where
  rx : List Frame
  answers : List Answer
  requests : List QueuedRequest
  counters : Counters
  outgoing : List OutgoingEntry
  peers : Vector (Option PeerEntry) 15
  number : Nibble

/-- The port of a state, without its alert slot, its report and its transmitter. -/
def port (s : State) : Port :=
  ⟨s.line.rx, s.line.answers, s.line.requests, s.line.counters, s.req.outgoing, s.peers, s.start.number⟩

theorem port_eq_iff {s t : State} : port t = port s ↔
    t.line.rx = s.line.rx ∧ t.line.answers = s.line.answers ∧ t.line.requests = s.line.requests
      ∧ t.line.counters = s.line.counters ∧ t.req.outgoing = s.req.outgoing ∧ t.peers = s.peers
      ∧ t.start.number = s.start.number := by
  simp [port]

theorem port_of_keeps {l : List Part} {s t : State} (h : KeepsAllBut l s t) (hstart : Part.start ∉ l := by decide)
    (hline : Part.line ∉ l := by decide) (hpeers : Part.peers ∉ l := by decide)
    (hreq : Part.req ∉ l := by decide) : port t = port s := by
  unfold port
  rw [h.line hline, h.req hreq, h.peers hpeers, h.start hstart]

@[simp] theorem port_withArm (s : State) (n : ArmId) (a : Arm) : port (s.withArm n a) = port s := by cases n <;> rfl

@[simp] theorem port_withBrush (s : State) (n : ArmId) (x : BlendSite) : port (s.withBrush n x) = port s := by
  cases n <;> rfl

@[simp] theorem port_withWater (s : State) (w : Water) : port (s.withWater w) = port s := rfl

@[simp] theorem port_withDrive (s : State) (d : Drive) : port (s.withDrive d) = port s := rfl

@[simp] theorem port_withFaults (s : State) (f : Faults) : port (s.withFaults f) = port s := rfl

@[simp] theorem port_withPins (s : State) (p : Pins) : port (s.withPins p) = port s := rfl

@[simp] theorem port_withSp (s : State) (x : Setpoint) : port (s.withSp x) = port s := rfl

@[simp] theorem port_setSticky (k : FaultKind) (s : State) : port (setSticky k s) = port s := by
  simp only [setSticky]
  split <;> rfl

@[simp] theorem port_raiseOnce (k : FaultKind) (s : State) : port (raiseOnce k s) = port s := port_setSticky k s

@[simp] theorem port_handOver (k : FaultKind) (present : Bool) (s : State) : port (handOver k present s) = port s := by
  simp only [handOver]
  split_ifs <;> simp

@[simp] theorem port_handOverStall (n : ArmId) (present : Bool) (s : State) :
    port (handOverStall n present s) = port s := by
  simp only [handOverStall]
  split_ifs <;> cases n <;> simp

@[simp] theorem port_testInherited (s : State) : port (testInherited s) = port s := by
  unfold testInherited
  split <;> simp

@[simp] theorem port_makeDue (s : State) : port (makeDue s) = port s := by
  unfold makeDue
  split <;> rfl

/-! ### The arms -/

@[simp] theorem port_endOperations (n : ArmId) (s : State) : port (endOperations n s) = port s := rfl

@[simp] theorem port_enterArm (n : ArmId) (st : ArmState) (r : Bool) (s : State) : port (enterArm n st r s) = port s := by
  simp only [enterArm]
  split_ifs <;> simp [stopBrush]

@[simp] theorem port_stowDemand (n : ArmId) (s : State) : port (stowDemand n s) = port s := by
  rcases stowDemand_cases n s with h | h | ⟨_, h⟩ <;> simp [h]

@[simp] theorem port_silenceArm (n : ArmId) (s : State) : port (silenceArm n s) = port s := by
  rcases silenceArm_cases n s with h | h | ⟨_, h⟩ <;> simp [h]

@[simp] theorem port_armToTarget (n : ArmId) (x : Target) (s : State) : port (armToTarget n x s) = port s := by
  rcases armToTarget_cases n x s with h | ⟨_, h⟩ | ⟨_, h⟩ | ⟨_, _, h⟩ <;> simp [h]

theorem port_forArms {f : ArmId → State → State} (hf : ∀ n s, port (f n s) = port s) (s : State) :
    port (forArms f s) = port s := by
  simp only [forArms]
  split_ifs <;> simp [hf]

@[simp] theorem port_readPosition (n : ArmId) (s : State) : port (readPosition n s) = port s := by simp [readPosition]

@[simp] theorem port_blindExpired (n : ArmId) (s : State) : port (blindExpired n s) = port s := by
  simp only [blindExpired]
  split <;> simp

@[simp] theorem port_positionFaultMove (n : ArmId) (s : State) : port (positionFaultMove n s) = port s := by
  unfold positionFaultMove
  split <;> simp

@[simp] theorem port_arrivalTest (b : StartBlock) (n : ArmId) (s : State) : port (arrivalTest b n s) = port s := by
  rcases arrivalTest_cases b n s with h | ⟨_, h⟩ | ⟨_, h⟩ | ⟨_, h⟩ <;> simp [h]

@[simp] theorem port_reverseLiftTest (b : StartBlock) (n : ArmId) (s : State) :
    port (reverseLiftTest b n s) = port s := by
  rcases reverseLiftTest_cases b n s with h | ⟨_, h⟩ <;> simp [h]

@[simp] theorem port_resumeTest (b : StartBlock) (n : ArmId) (stood : ArmState) (s : State) :
    port (resumeTest b n stood s) = port s := by
  rcases resumeTest_cases b n stood s with h | ⟨_, _, h⟩ <;> simp [h]

@[simp] theorem port_blindTest (b : StartBlock) (n : ArmId) (s : State) : port (blindTest b n s) = port s := by
  rcases blindTest_cases b n s with h | ⟨_, h⟩ | ⟨_, _, h⟩ <;> simp [h]

@[simp] theorem port_armPeriod (b : StartBlock) (n : ArmId) (s : State) : port (armPeriod b n s) = port s := by
  have hbrush : ∀ u, port (brushPeriod b n u) = port u := fun u =>
    port_of_keeps (brushPeriod_keeps b n u) (by cases n <;> decide) (by cases n <;> decide) (by cases n <;> decide)
      (by cases n <;> decide)
  simp [armPeriod, armTests, hbrush]

@[simp] theorem port_setPositionPin (n : ArmId) (raw : Raw) (s : State) : port (setPositionPin n raw s) = port s := by
  cases n <;> rfl

@[simp] theorem port_firstPosition (b : StartBlock) (n : ArmId) (raw : Raw) (s : State) :
    port (firstPosition b n raw s) = port s := by
  simp only [firstPosition]
  split_ifs <;> simp

theorem port_acceptStart (b : StartBlock) (arm1 arm2 : Raw) (levels : BitVec 8) (s : State) :
    port (acceptStart b arm1 arm2 levels s) = port s := by
  have hpositions : ∀ u : StartUnit, u.number = s.start.number →
      port (firstPosition b .two arm2 (firstPosition b .one arm1 (s.withStart u))) = port s := by
    intro u hnumber
    rw [port_firstPosition, port_firstPosition]
    simp [port, hnumber]
  exact hpositions { s.start with station := .listening, image := some b, joinTimer := some 0 } rfl

@[simp] theorem port_stall (n : ArmId) (s : State) : port (stall n s) = port s := by simp [stall]

/-! ### The water channel -/

@[simp] theorem port_enterWater (st : WaterState) (s : State) : port (enterWater st s) = port s := by
  simp only [enterWater]
  split_ifs <;> simp

@[simp] theorem port_quietWater (s : State) : port (quietWater s) = port s := rfl

@[simp] theorem port_waterOff (s : State) : port (waterOff s) = port s := by simp [waterOff]

@[simp] theorem port_stopWater (s : State) : port (stopWater s) = port s := by
  unfold stopWater
  split <;> simp

@[simp] theorem port_waterPeriod (b : StartBlock) (s : State) : port (waterPeriod b s) = port s := by
  have hread : ∀ u, port (readWaterInputs b u) = port u := by simp [readWaterInputs]
  have hmove : ∀ u, port (waterInputMove u) = port u := fun u => by
    unfold waterInputMove
    split <;> simp
  have htests : ∀ u, port (waterTests b u) = port u := fun u => by
    rcases waterTests_cases b u with h | ⟨_, _, h⟩ | ⟨_, _, h⟩ | ⟨_, _, h⟩ | ⟨_, h⟩ <;> rw [h]
    · simp [enterPriming]
    · rw [enterSpraying, port_enterWater]
      rfl
    · exact port_of_keeps (lossTest_keeps b u)
    · simp
  have houtputs : ∀ u, port (waterOutputs b u) = port u := fun u => port_of_keeps (waterOutputs_keeps b u)
  have hrecompute : ∀ u, port (waterRecompute b u) = port u := fun u => port_of_keeps (waterRecompute_keeps b u)
  simp [waterPeriod, hread, hmove, htests, houtputs, hrecompute]

@[simp] theorem port_failedPrime (s : State) : port (failedPrime s) = port s := by
  simp only [failedPrime]
  split_ifs <;> simp

@[simp] theorem port_dryWaitEnded (b : StartBlock) (s : State) : port (dryWaitEnded b s) = port s := by
  unfold dryWaitEnded
  split <;> simp [primeOutputs, enterPriming]

@[simp] theorem port_writeEnable (on : Bool) (s : State) : port (writeEnable on s) = port s := by
  simp only [writeEnable]
  split_ifs <;> simp

@[simp] theorem port_clearFaults (mask : FaultSet) (s : State) : port (clearFaults mask s) = port s := by
  simp only [clearFaults, releaseDry]
  split_ifs <;> simp

/-! ### The drive -/

@[simp] theorem port_restartSpeedSilence (s : State) : port (restartSpeedSilence s) = port s := by
  simp [restartSpeedSilence]

@[simp] theorem port_drivePeriod (b : StartBlock) (s : State) : port (drivePeriod b s) = port s := by
  have hread : ∀ u, port (readDriveInputs b u) = port u := fun u => by
    simp only [readDriveInputs]
    split_ifs <;> simp
  have htrip : ∀ u, port (tripTest u) = port u := fun u => port_of_keeps (tripTest_keeps u)
  have hmove : ∀ u, port (driveTransition b u) = port u := fun u => port_of_keeps (driveTransition_keeps b u)
  have hchain : ∀ u, port (driveChain b u) = port u := fun u => port_of_keeps (driveChain_keeps b u)
  have hstand : ∀ st u, port (standTest b st u) = port u := fun st u => port_of_keeps (standTest_keeps b st u)
  have htrim : ∀ u, port (updateTrim b u) = port u := fun u => port_of_keeps (updateTrim_keeps b u)
  have hquiet : ∀ u, port (quietPeriod u) = port u := fun u => by
    unfold quietPeriod
    split <;> simp
  simp [drivePeriod, driveBegin, hread, htrip, hmove, hchain, hstand, htrim, hquiet]

/-! ### The mode and SILENCED -/

@[simp] theorem port_switchMode (m : Mode) (s : State) : port (switchMode m s) = port s := rfl

@[simp] theorem port_changeMode (m : Mode) (s : State) : port (changeMode m s) = port s := by
  have harms : port (if stowsArms m then forArms stowDemand (switchMode m s) else switchMode m s) = port s := by
    split
    · rw [port_forArms port_stowDemand, port_switchMode]
    · rfl
  have hwater : ∀ u, port (waterModeChange m u) = port u := fun u => by
    simp only [waterModeChange]
    split_ifs <;> simp
  rw [changeMode_eq, port_makeDue, hwater, harms]

@[simp] theorem port_takeMode (m : Mode) (s : State) : port (takeMode m s) = port s := by
  unfold takeMode
  split <;> simp

@[simp] theorem port_demandTransport (s : State) : port (demandTransport s) = port s := by
  unfold demandTransport
  split
  · exact port_forArms port_stowDemand s
  · exact port_changeMode _ s

@[simp] theorem port_enterSilenced (s : State) : port (enterSilenced s) = port s := by
  have hfirst : ∀ t, port (stopWater (forArms silenceArm t)) = port t := fun t => by
    rw [port_stopWater, port_forArms port_silenceArm]
  exact (hfirst _).trans (port_raiseOnce .lineFault s)

@[simp] theorem port_failStart (s : State) : port (failStart s) = port s := by
  rw [failStart, port_handOver]
  rfl

@[simp] theorem port_enterRunning (s : State) : port (enterRunning s) = port s := by
  rw [enterRunning, port_testInherited, port_makeDue]
  rfl

theorem port_requestTable (s : State) (table : List PendingEntry) :
    port (s.withReq { s.req with table := table }) = port s := rfl

/-- What a request does to the plant and to its entry leaves the port. -/
theorem acts_port {r : Request} {s t : State} (acts : Acts r s t) : port t = port s := by
  have hsup : ∀ c, port (supersede r.src c s) = port s := fun _ => rfl
  cases acts with
  | nothing => rfl
  | free => rfl
  | refresh => rfl
  | release => rfl
  | mode m => rw [port_takeMode, hsup]
  | stow => rw [port_demandTransport, hsup]
  | stowPending => exact (port_requestTable _ _).trans (by rw [port_demandTransport, hsup])
  | arm n target => rw [port_armToTarget, hsup]
  | armPending n target => exact (port_requestTable _ _).trans (by rw [port_armToTarget, hsup])
  | water on => exact port_writeEnable on s
  | trim n v => exact port_withArm s n _
  | clear mask => exact port_clearFaults mask s

end Sys2Proof.Machine
end

section
/-! SUPPORT. The outgoing table and the queue of request frames (R125, R133–R141): a queued frame belongs to an entry that
is QUEUED, and no two entries and no two frames share a tag. -/

namespace Sys2Proof.Machine

-- One thread elaborates this section, so that the check's memory limit holds the stacks.
set_option Elab.async false

/-- The law over the two lists it speaks of. -/
structure OutLaw (out : List OutgoingEntry) (queue : List QueuedRequest) : Prop where
  room : out.length ≤ 4
  keys : (out.map OutgoingEntry.tag).Nodup
  frames : (queue.map QueuedRequest.tag).Nodup
  owned : ∀ q ∈ queue, ∃ e ∈ out, e.tag = q.tag ∧ e.state = .queued

theorem outgoingLaw_iff (s : State) : OutgoingLaw s ↔ OutLaw s.req.outgoing s.line.requests := by
  have howned : (∀ q ∈ s.line.requests, q.tag ∈ queuedTags s)
      ↔ ∀ q ∈ s.line.requests, ∃ e ∈ s.req.outgoing, e.tag = q.tag ∧ e.state = .queued := by
    simp [queuedTags, and_comm, and_assoc, and_left_comm]
  unfold OutgoingLaw
  rw [howned]
  exact ⟨fun ⟨hroom, hkeys, hframes, hown⟩ => ⟨hroom, hkeys, hframes, hown⟩,
    fun h => ⟨h.room, h.keys, h.frames, h.owned⟩⟩

namespace OutLaw

variable {out : List OutgoingEntry} {queue : List QueuedRequest}

theorem empty : OutLaw [] [] := ⟨by decide, .nil, .nil, by simp⟩

theorem sublist (h : OutLaw out queue) {queue' : List QueuedRequest} (hs : queue'.Sublist queue) : OutLaw out queue' :=
  ⟨h.room, h.keys, h.frames.sublist (hs.map _), fun q hq => h.owned q (hs.subset hq)⟩

/-- An entry leaves with its frame. -/
theorem remove (h : OutLaw out queue) (tag : Nibble) :
    OutLaw (out.filter (fun e => e.tag ≠ tag)) (queue.filter (fun q => q.tag ≠ tag)) := by
  refine ⟨(List.length_filter_le _ _).trans h.room, h.keys.sublist (List.filter_sublist.map _),
    h.frames.sublist (List.filter_sublist.map _), fun q hq => ?_⟩
  simp only [List.mem_filter, decide_eq_true_eq] at hq
  obtain ⟨e, he, htag, hstate⟩ := h.owned q hq.1
  exact ⟨e, by simp [he, htag, hq.2], htag, hstate⟩

/-- An entry without a frame changes as it may, and keeps its tag. -/
theorem update (h : OutLaw out queue) {tag : Nibble} {f : OutgoingEntry → OutgoingEntry}
    (hf : ∀ e, (f e).tag = e.tag) (hfree : ∀ q ∈ queue, q.tag ≠ tag) :
    OutLaw (out.map (fun e => if e.tag = tag then f e else e)) queue := by
  have htags : (out.map (fun e => if e.tag = tag then f e else e)).map OutgoingEntry.tag
      = out.map OutgoingEntry.tag := by
    rw [List.map_map]
    refine List.map_congr_left fun e _ => ?_
    simp only [Function.comp]
    split <;> simp [hf]
  refine ⟨by simpa using h.room, htags ▸ h.keys, h.frames, fun q hq => ?_⟩
  obtain ⟨e, he, htag, hstate⟩ := h.owned q hq
  refine ⟨e, List.mem_map.mpr ⟨e, he, if_neg ?_⟩, htag, hstate⟩
  exact htag ▸ hfree q hq

/-- A frame joins the queue for an entry that is QUEUED and has none. -/
theorem queueFrame (h : OutLaw out queue) {q : QueuedRequest} (hfree : ∀ x ∈ queue, x.tag ≠ q.tag)
    (hentry : ∃ e ∈ out, e.tag = q.tag ∧ e.state = .queued) : OutLaw out (queue ++ [q]) := by
  refine ⟨h.room, h.keys, ?_, fun x hx => ?_⟩
  · simp only [List.map_append, List.map_cons, List.map_nil, List.nodup_append, List.nodup_singleton,
      List.mem_singleton, List.mem_map]
    refine ⟨h.frames, trivial, ?_⟩
    rintro tag ⟨x, hx, rfl⟩ b rfl
    exact hfree x hx
  · rcases List.mem_append.mp hx with hx | hx
    · exact h.owned x hx
    · rw [List.mem_singleton.mp hx]
      exact hentry

/-- A new entry joins the table with a tag that no entry has. -/
theorem add (h : OutLaw out queue) {e : OutgoingEntry} (hroom : out.length < 4)
    (hfresh : e.tag ∉ out.map OutgoingEntry.tag) : OutLaw (out ++ [e]) queue := by
  refine ⟨by simpa using hroom, ?_, h.frames, fun q hq => ?_⟩
  · simp only [List.map_append, List.map_cons, List.map_nil, List.nodup_append, List.nodup_singleton,
      List.mem_singleton]
    refine ⟨h.keys, trivial, ?_⟩
    rintro tag htag b rfl rfl
    exact hfresh htag
  · obtain ⟨x, hx, hown⟩ := h.owned q hq
    exact ⟨x, List.mem_append_left _ hx, hown⟩

/-- An entry that is not QUEUED has no frame in the queue. -/
theorem no_frame (h : OutLaw out queue) {e : OutgoingEntry} (he : e ∈ out) (hstate : e.state ≠ .queued) :
    ∀ q ∈ queue, q.tag ≠ e.tag := by
  rintro q hq htag
  obtain ⟨x, hx, hxtag, hxstate⟩ := h.owned q hq
  have hsame : x = e := List.inj_on_of_nodup_map h.keys hx he (hxtag.trans htag)
  exact hstate (hsame ▸ hxstate)

end OutLaw

theorem OutgoingLaw.congr {s t : State} (h : OutgoingLaw s) (hout : t.req.outgoing = s.req.outgoing)
    (hqueue : t.line.requests = s.line.requests) : OutgoingLaw t := by
  rw [outgoingLaw_iff, hout, hqueue, ← outgoingLaw_iff]
  exact h

theorem OutgoingLaw.of_port {s t : State} (h : OutgoingLaw s) (hport : port t = port s) : OutgoingLaw t := by
  obtain ⟨-, -, hqueue, -, hout, -, -⟩ := port_eq_iff.mp hport
  exact h.congr hout hqueue

/-! ### The operations of the outgoing table -/

theorem removeOutgoing_outgoingLaw (tag : Nibble) {s : State} (h : OutgoingLaw s) : OutgoingLaw (removeOutgoing tag s) :=
  (outgoingLaw_iff _).mpr (((outgoingLaw_iff s).mp h).remove tag)

theorem giveUp_outgoingLaw (tag : Nibble) {s : State} (h : OutgoingLaw s) : OutgoingLaw (giveUp tag s) :=
  (removeOutgoing_outgoingLaw tag h).of_port (port_raiseOnce _ _)

theorem mapOutgoing_outgoingLaw {e : OutgoingEntry} {f : OutgoingEntry → OutgoingEntry} {s : State} (h : OutgoingLaw s)
    (he : e ∈ s.req.outgoing) (hstate : e.state ≠ .queued) (hf : ∀ x, (f x).tag = x.tag) :
    OutgoingLaw (mapOutgoing e.tag f s) :=
  have hlaw := (outgoingLaw_iff s).mp h
  (outgoingLaw_iff _).mpr (hlaw.update hf (hlaw.no_frame he hstate))

/-- An entry that waited joins the queue again (R138, R139). -/
theorem requeue_outgoingLaw {e x : OutgoingEntry} {s : State} (h : OutgoingLaw s) (hx : x ∈ s.req.outgoing)
    (hstate : x.state ≠ .queued) (htag : x.tag = e.tag) : OutgoingLaw (requeue e s) := by
  have hlaw := (outgoingLaw_iff s).mp h
  have hfree : ∀ q ∈ s.line.requests, q.tag ≠ e.tag := htag ▸ hlaw.no_frame hx hstate
  have hupdate := hlaw.update (f := fun y => { y with state := .queued, timer := none }) (fun _ => rfl) hfree
  refine (outgoingLaw_iff _).mpr (hupdate.queueFrame (q := ⟨e.dest, e.tag, e.kind, e.args⟩) hfree ?_)
  exact ⟨_, List.mem_map.mpr ⟨x, hx, if_pos htag⟩, htag, rfl⟩

theorem repeatExpired_outgoingLaw {e : OutgoingEntry} {s : State} (h : OutgoingLaw s) (he : e ∈ s.req.outgoing) :
    OutgoingLaw (repeatExpired e s) := by
  unfold repeatExpired
  split
  case h_1 hstate =>
    have hwaits : e.state ≠ .queued := by simp [hstate]
    split
    · exact giveUp_outgoingLaw _ h
    · have hmap := mapOutgoing_outgoingLaw (f := fun x => { x with repeatsLeft := x.repeatsLeft - 1 }) h he hwaits
        (fun _ => rfl)
      exact requeue_outgoingLaw (x := { e with repeatsLeft := e.repeatsLeft - 1 }) hmap
        (List.mem_map.mpr ⟨e, he, if_pos rfl⟩) hwaits rfl
  case h_2 hstate => exact requeue_outgoingLaw h he (by simp [hstate]) rfl
  case h_3 => exact h

theorem answered_outgoingLaw {code : Nat} {e : OutgoingEntry} {s : State} (h : OutgoingLaw s)
    (he : e ∈ s.req.outgoing) : OutgoingLaw (answered code e s) := by
  unfold answered backOffOrGiveUp
  split_ifs with hpending hqueued hbusy hqueued hlast
  · exact h
  · exact mapOutgoing_outgoingLaw h he hqueued (fun _ => rfl)
  · exact h
  · exact giveUp_outgoingLaw _ h
  · exact mapOutgoing_outgoingLaw h he hqueued (fun _ => rfl)
  · exact removeOutgoing_outgoingLaw _ h

theorem takeAnswer_outgoingLaw (f : Frame) {s : State} (h : OutgoingLaw s) : OutgoingLaw (takeAnswer f s) := by
  unfold takeAnswer
  split
  · next e hmatch => exact answered_outgoingLaw h (List.mem_of_find?_eq_some hmatch)
  · exact h

theorem removeAll_outgoingLaw (tags : List Nibble) {s : State} (h : OutgoingLaw s) :
    OutgoingLaw (tags.foldl (fun t tag => removeOutgoing tag t) s) := by
  induction tags generalizing s with
  | nil => exact h
  | cons tag tags ih => exact ih (removeOutgoing_outgoingLaw tag h)

theorem makeOutgoing_outgoingLaw {b : StartBlock} {i : Fin 8} {onEdge : Bool} {x : SwitchSlot} {s : State}
    (h : OutgoingLaw s) (room : s.req.outgoing.length < 4) : OutgoingLaw (makeOutgoing b i onEdge x s) := by
  have hlaw := (outgoingLaw_iff s).mp h
  have hfresh := (freshTag_spec s (by omega)).1
  refine (outgoingLaw_iff _).mpr (OutLaw.queueFrame (hlaw.add room hfresh) ?_ ⟨_, List.mem_append_right _
    (List.mem_singleton_self _), rfl, rfl⟩)
  intro q hq htag
  obtain ⟨e, he, hetag, -⟩ := hlaw.owned q hq
  exact hfresh (List.mem_map.mpr ⟨e, he, hetag.trans htag⟩)

theorem serveSlot_outgoingLaw (b : StartBlock) (i : Fin 8) (onEdge : Bool) (made : List Nibble)
    (slot : Option SwitchSlot) {s : State} (h : OutgoingLaw s) : OutgoingLaw (serveSlot b i onEdge made slot s) := by
  cases slot with
  | none => exact h
  | some x =>
    have hremove : OutgoingLaw (removeEarlier i x.dest made s) := removeAll_outgoingLaw _ h
    simp only [serveSlot]
    split
    · exact hremove.of_port (port_raiseOnce _ _)
    · next hroom => exact makeOutgoing_outgoingLaw hremove (by omega)

/-! ### The transmitter -/

theorem loseSending_requests (l : LinePort) : (loseSending l).requests.Sublist l.requests := by
  simp only [loseSending]
  split
  · exact .refl _
  · split
    case h_1 => split <;> exact .refl _
    case h_4 => exact List.filter_sublist
    all_goals exact .refl _

theorem cutOff_outgoingLaw {s : State} (h : OutgoingLaw s) : OutgoingLaw (cutOff s) := by
  have hlose : ∀ l : LinePort, l.requests.Sublist s.line.requests → OutgoingLaw (s.withLine l) := fun l hl =>
    (outgoingLaw_iff _).mpr (((outgoingLaw_iff s).mp h).sublist hl)
  have hlost := hlose { loseSending s.line with guardArmed := decide (s.start.station = .loading) }
    (loseSending_requests s.line)
  unfold cutOff
  simp only
  split
  · exact hlost.of_port (port_enterSilenced _)
  · exact hlost.of_port (port_enterSilenced _)
  · exact OutgoingLaw.of_port hlost (port_raiseOnce _ _)
  · exact hlost
  · exact hlost

/-- The frame of a request leaves the queue; its entry, then without a frame, waits for the answer (R137). -/
theorem requestSent_outgoingLaw (tag : Nibble) {s : State} (h : OutgoingLaw s) : OutgoingLaw (requestSent tag s) := by
  have hsent := ((outgoingLaw_iff s).mp h).sublist (queue' := s.line.requests.filter (fun q => q.tag ≠ tag))
    List.filter_sublist
  exact (outgoingLaw_iff _).mpr (hsent.update (fun _ => rfl) (by simp))

theorem warmRestart_outgoingLaw (s : State) : OutgoingLaw (warmRestart s) :=
  (outgoingLaw_iff _).mpr (by simpa [warmRestart, warmLine] using OutLaw.empty)

theorem frameEnded_outgoingLaw (o : Owner) {s : State} (h : OutgoingLaw s) : OutgoingLaw (frameEnded o s) := by
  cases o with
  | alert k =>
    simp only [frameEnded, alertSent]
    split <;> exact h
  | answer =>
    simp only [frameEnded, answerSent]
    split
    · split
      · exact warmRestart_outgoingLaw _
      · exact h
    · exact h
  | report => exact h
  | request tag => exact requestSent_outgoingLaw tag h
  | orphan => exact h

/-! ### The receive side, the peers and the restart -/

theorem takeReport_outgoingLaw (n : Fin 15) (seq : Byte) (v : ReportValues) {s : State} (h : OutgoingLaw s) :
    OutgoingLaw (takeReport n seq v s) := by
  have haccept : ∀ last u, OutgoingLaw u → OutgoingLaw (acceptReport n seq v last u) := fun last u hu =>
    OutgoingLaw.of_port (s := u.withPeer n _) hu (port_testInherited _)
  unfold takeReport
  split
  · exact haccept _ _ h
  · split_ifs
    · exact haccept _ _ h
    · exact h
    · exact haccept _ _ h
    · exact haccept _ (countGap s) h

theorem takeAlert_outgoingLaw (n : Fin 15) (k : FaultKind) {s : State} (h : OutgoingLaw s) :
    OutgoingLaw (takeAlert n k s) := by
  unfold takeAlert
  split
  · exact h
  · exact OutgoingLaw.of_port (s := s.withPeer n _) h (port_testInherited _)

theorem markEntry_outgoingLaw (n : Fin 15) (st : EntryState) {s : State} (h : OutgoingLaw s) :
    OutgoingLaw (markEntry n st s) := by
  unfold markEntry
  split
  · exact OutgoingLaw.of_port (s := s.withPeer n _) h (port_testInherited _)
  · exact h

theorem sortFrame_outgoingLaw (f : Frame) {s : State} (h : OutgoingLaw s) : OutgoingLaw (sortFrame f s) := by
  unfold sortFrame duplicateStation queueFrame
  split_ifs
  · exact h.of_port (port_enterSilenced s)
  all_goals exact h

theorem restartNow_outgoingLaw (straps : Straps) (s : State) : OutgoingLaw (restartNow straps s) := by
  unfold restartNow
  split
  · exact warmRestart_outgoingLaw s
  · exact (outgoingLaw_iff _).mpr OutLaw.empty

theorem elapse_outgoingLaw {s : State} (h : OutgoingLaw s) : OutgoingLaw (elapse s) := by
  obtain ⟨hroom, hkeys, hframes, howned⟩ := (outgoingLaw_iff s).mp h
  have htags : (s.req.outgoing.map (fun e => { e with timer := Timer.grow e.timer })).map OutgoingEntry.tag
      = s.req.outgoing.map OutgoingEntry.tag := by simp
  refine (outgoingLaw_iff _).mpr ⟨by simpa [elapse, RequestUnit.elapse] using hroom, htags ▸ hkeys, hframes, ?_⟩
  intro q hq
  obtain ⟨e, he, htag, hstate⟩ := howned q hq
  exact ⟨_, List.mem_map.mpr ⟨e, he, rfl⟩, htag, hstate⟩

/-! ### Every effect, and every step -/

theorem does_outgoingLaw {s t : State} (h : OutgoingLaw s) (does : Does s t) : OutgoingLaw t := by
  have hpop : OutgoingLaw (popRx s) := h
  cases does with
  | nothing => exact h
  | coldReset => exact (outgoingLaw_iff _).mpr OutLaw.empty
  | release => exact h
  | failStart miso => exact OutgoingLaw.of_port (s := endRead miso s) h (port_failStart _)
  | acceptStart miso arm1 arm2 levels =>
    exact OutgoingLaw.of_port (s := endRead miso s) h (port_acceptStart _ arm1 arm2 levels _)
  | join => exact h.of_port (port_enterRunning s)
  | pins p => exact h
  | drivePeriod b i => exact h.of_port (port_drivePeriod b _)
  | armPeriod b n raw => exact h.of_port (by simp)
  | waterPeriod b tank waterP => exact h.of_port (port_waterPeriod b _)
  | bucketClose b => exact h
  | speedEdge p m => exact h.of_port (port_restartSpeedSilence _)
  | engineEdge bad m => exact h.of_port (port_handOver _ _ _)
  | park => exact h
  | dwell => exact h
  | speedSilence => exact h.of_port (port_handOver _ _ s)
  | engineSilence => exact h.of_port (port_handOver _ _ s)
  | stall n => exact h.of_port (port_stall n s)
  | blind n => exact h.of_port (port_blindExpired n s)
  | failedPrime => exact h.of_port (port_failedPrime s)
  | dryWaitEnded b => exact h.of_port (port_dryWaitEnded b s)
  | pattern b => exact h
  | age n st => exact markEntry_outgoingLaw n st h
  | entryDiscard src tag => exact h
  | entryOrphaned src tag => exact h
  | repeatExpiry tag e found => exact repeatExpired_outgoingLaw h (List.mem_of_find?_eq_some found)
  | switch i d => exact h
  | edge b i d onEdge => exact serveSlot_outgoingLaw _ _ _ _ _ (serveSlot_outgoingLaw _ _ _ _ _ h)
  | reportTimer => exact OutgoingLaw.of_port (s := s.withLine _) h (port_makeDue _)
  | checkError => exact h
  | frame f => exact sortFrame_outgoingLaw f h
  | cutOff => exact cutOff_outgoingLaw h
  | popRx => exact hpop
  | report f n seq v => exact takeReport_outgoingLaw n seq v hpop
  | alert n k => exact takeAlert_outgoingLaw n k hpop
  | answer f => exact takeAnswer_outgoingLaw f hpop
  | missed => exact hpop
  | reply r u _ _ _ _ acts => exact OutgoingLaw.congr (s := u) (hpop.of_port (acts_port acts)) rfl rfl
  | restart straps => exact restartNow_outgoingLaw straps _
  | lost => exact h
  | offer o f => exact h
  | frameSent x => exact frameEnded_outgoingLaw x.owner h

/-- Settles O50: a frame joins the queue with an entry that is QUEUED, and leaves it before that entry does or with it. -/
theorem everyStepKeepsTheOutgoingLaw : Obligations.EveryStepKeepsTheOutgoingLaw := by
  unfold Obligations.EveryStepKeepsTheOutgoingLaw
  exact step_keeps (fun _ _ h => h) (fun _ h => elapse_outgoingLaw h) (fun _ _ => does_outgoingLaw)

end Sys2Proof.Machine
end

section
/-! SUPPORT. The line law (R40, R48, R51, R121, R149): the queues hold at most four frames, the counters stop at 255, and
the station holds nothing of itself. -/

namespace Sys2Proof.Machine

-- One thread elaborates this section, so that the check's memory limit holds the stacks.
set_option Elab.async false

/-- The part of the line law that holds in every station state. -/
structure PortLaw (p : Port) : Prop where
  rx : p.rx.length ≤ 4
  answers : p.answers.length ≤ 4
  counters : countersHeld p.counters
  sources : ∀ f ∈ p.rx, f.src ≠ p.number
  own : ∀ n : Fin 15, n.val = p.number.toNat → p.peers[n] = none

/-- A loading station has received nothing and knows no peer. -/
def loadingClear (s : State) : Prop := s.start.station = .loading → s.line.rx = [] ∧ s.peers = peersAbsent

theorem lineLaw_iff (s : State) : LineLaw s ↔ resetLaw s ∧ PortLaw (port s) ∧ loadingClear s := by
  constructor
  · rintro ⟨hreset, hrx, hanswers, hcounters, hsources, hown, hload⟩
    exact ⟨hreset, ⟨hrx, hanswers, hcounters, hsources, hown⟩, hload⟩
  · rintro ⟨hreset, ⟨hrx, hanswers, hcounters, hsources, hown⟩, hload⟩
    exact ⟨hreset, hrx, hanswers, hcounters, hsources, hown, hload⟩

theorem LineLaw.portLaw {s : State} (h : LineLaw s) : PortLaw (port s) := ((lineLaw_iff s).mp h).2.1

theorem LineLaw.clear {s : State} (h : LineLaw s) : loadingClear s := ((lineLaw_iff s).mp h).2.2

/-- RESET low and the station state, which the law ties together (R36). -/
def StationKept (s t : State) : Prop := t.pins.resetN = s.pins.resetN ∧ t.start.station = s.start.station

theorem StationKept.of_keeps {l : List Part} {s t : State} (h : KeepsAllBut l s t) (hpins : Part.pins ∉ l := by decide)
    (hstart : Part.start ∉ l := by decide) : StationKept s t := by
  rw [StationKept, h.pins hpins, h.start hstart]
  exact ⟨rfl, rfl⟩

theorem StationKept.trans {s t u : State} (h : StationKept s t) (h' : StationKept t u) : StationKept s u :=
  ⟨h'.1.trans h.1, h'.2.trans h.2⟩

theorem resetLaw_of_kept {s t : State} (h : resetLaw s) (hkept : StationKept s t) : resetLaw t := by
  obtain ⟨hpin, hstation⟩ := hkept
  unfold resetLaw
  rw [hpin, hstation]
  exact h

theorem LineLaw.of_port {s t : State} (h : LineLaw s) (hport : port t = port s) (hkept : StationKept s t) :
    LineLaw t := by
  refine (lineLaw_iff t).mpr ⟨resetLaw_of_kept h.1 hkept, hport ▸ h.portLaw, fun hload => ?_⟩
  obtain ⟨hrx, -, -, -, -, hpeers, -⟩ := port_eq_iff.mp hport
  rw [hrx, hpeers]
  exact h.clear (hkept.2 ▸ hload)

/-- A station that is not loading owes the law of its port alone, while RESET is high. -/
theorem LineLaw.of_high {t : State} (hport : PortLaw (port t)) (hhigh : t.pins.resetN = true)
    (hload : t.start.station ≠ .loading) : LineLaw t :=
  (lineLaw_iff t).mpr ⟨fun hlow => absurd (hhigh.symm.trans hlow) (by decide), hport, fun h => absurd h hload⟩

theorem LineLaw.high {s : State} (h : LineLaw s) (hload : s.start.station ≠ .loading) : s.pins.resetN = true := by
  by_contra hlow
  exact hload (h.1 (by simpa using hlow))

/-! ### The queues and the counters -/

/-- The receive queue shortens, the answers stay within their places, the counters within 255. -/
theorem LineLaw.withLine {s : State} (h : LineLaw s) {l : LinePort} (hrx : l.rx.Sublist s.line.rx)
    (hanswers : l.answers.length ≤ 4) (hcounters : countersHeld l.counters) : LineLaw (s.withLine l) := by
  obtain ⟨hreset, ⟨hroom, -, -, hsources, hown⟩, hclear⟩ := (lineLaw_iff s).mp h
  refine (lineLaw_iff _).mpr ⟨hreset,
    ⟨hrx.length_le.trans hroom, hanswers, hcounters, fun f hf => hsources f (hrx.subset hf), hown⟩, fun hload => ?_⟩
  obtain ⟨hempty, hpeers⟩ := hclear hload
  exact ⟨List.sublist_nil.mp (hempty ▸ hrx), hpeers⟩

/-- A change of the line port outside the receive queue, the answers and the counters. -/
theorem LineLaw.withLine_same {s : State} (h : LineLaw s) {l : LinePort} (hrx : l.rx = s.line.rx)
    (hanswers : l.answers = s.line.answers) (hcounters : l.counters = s.line.counters) : LineLaw (s.withLine l) :=
  h.withLine (hrx ▸ .refl _) (hanswers ▸ h.portLaw.answers) (hcounters ▸ h.portLaw.counters)

theorem countersHeld_reset : countersHeld .reset := by simp [countersHeld, Counters.reset]

theorem bump_le (n : Nat) : bump n ≤ 255 := by
  unfold bump
  omega

theorem LineLaw.withCounters {s : State} (h : LineLaw s) {c : Counters} (hc : countersHeld c) :
    LineLaw (s.withLine { s.line with counters := c }) :=
  h.withLine (.refl _) h.portLaw.answers hc

theorem countCheckError_lineLaw {s : State} (h : LineLaw s) : LineLaw (countCheckError s) := by
  obtain ⟨-, hmissed, hdup, hgap, horphan, hunmatched⟩ := h.portLaw.counters
  exact h.withCounters ⟨bump_le _, hmissed, hdup, hgap, horphan, hunmatched⟩

theorem countMissed_lineLaw {s : State} (h : LineLaw s) : LineLaw (countMissed s) := by
  obtain ⟨hcheck, -, hdup, hgap, horphan, hunmatched⟩ := h.portLaw.counters
  exact h.withCounters ⟨hcheck, bump_le _, hdup, hgap, horphan, hunmatched⟩

theorem countDuplicate_lineLaw {s : State} (h : LineLaw s) : LineLaw (countDuplicate s) := by
  obtain ⟨hcheck, hmissed, -, hgap, horphan, hunmatched⟩ := h.portLaw.counters
  exact h.withCounters ⟨hcheck, hmissed, bump_le _, hgap, horphan, hunmatched⟩

theorem countGap_lineLaw {s : State} (h : LineLaw s) : LineLaw (countGap s) := by
  obtain ⟨hcheck, hmissed, hdup, -, horphan, hunmatched⟩ := h.portLaw.counters
  exact h.withCounters ⟨hcheck, hmissed, hdup, bump_le _, horphan, hunmatched⟩

theorem countOrphan_lineLaw {s : State} (h : LineLaw s) : LineLaw (countOrphan s) := by
  obtain ⟨hcheck, hmissed, hdup, hgap, -, hunmatched⟩ := h.portLaw.counters
  exact h.withCounters ⟨hcheck, hmissed, hdup, hgap, bump_le _, hunmatched⟩

theorem countUnmatched_lineLaw {s : State} (h : LineLaw s) : LineLaw (countUnmatched s) := by
  obtain ⟨hcheck, hmissed, hdup, hgap, horphan, -⟩ := h.portLaw.counters
  exact h.withCounters ⟨hcheck, hmissed, hdup, hgap, horphan, bump_le _⟩

theorem popRx_lineLaw {s : State} (h : LineLaw s) : LineLaw (popRx s) :=
  h.withLine (List.tail_sublist _) h.portLaw.answers h.portLaw.counters

theorem queueAnswer_lineLaw {d t k : Nibble} {r : Result} {v : Word} {x : Bool} {s : State} (h : LineLaw s)
    (room : s.line.answers.length < 4) : LineLaw (queueAnswer d t k r v x s) :=
  h.withLine (.refl _) (by simpa using room) h.portLaw.counters

/-! ### The outgoing side -/

theorem removeOutgoing_lineLaw (tag : Nibble) {s : State} (h : LineLaw s) : LineLaw (removeOutgoing tag s) :=
  LineLaw.withLine_same (s := s.withReq _) h rfl rfl rfl

theorem giveUp_lineLaw (tag : Nibble) {s : State} (h : LineLaw s) : LineLaw (giveUp tag s) :=
  (removeOutgoing_lineLaw tag h).of_port (port_raiseOnce _ _) (.of_keeps (raiseOnce_keeps _ _))

theorem requeue_lineLaw (e : OutgoingEntry) {s : State} (h : LineLaw s) : LineLaw (requeue e s) :=
  LineLaw.withLine_same (s := mapOutgoing e.tag _ s) h rfl rfl rfl

theorem repeatExpired_lineLaw (e : OutgoingEntry) {s : State} (h : LineLaw s) : LineLaw (repeatExpired e s) := by
  unfold repeatExpired
  split
  · split
    · exact giveUp_lineLaw _ h
    · exact requeue_lineLaw (s := mapOutgoing e.tag _ s) e h
  · exact requeue_lineLaw e h
  · exact h

theorem takeAnswer_lineLaw (f : Frame) {s : State} (h : LineLaw s) : LineLaw (takeAnswer f s) := by
  unfold takeAnswer answered backOffOrGiveUp
  split
  · split_ifs
    · exact h
    · exact h
    · exact h
    · exact giveUp_lineLaw _ h
    · exact h
    · exact removeOutgoing_lineLaw _ h
  · exact countUnmatched_lineLaw h

theorem removeAll_lineLaw (tags : List Nibble) {s : State} (h : LineLaw s) :
    LineLaw (tags.foldl (fun t tag => removeOutgoing tag t) s) := by
  induction tags generalizing s with
  | nil => exact h
  | cons tag tags ih => exact ih (removeOutgoing_lineLaw tag h)

theorem serveSlot_lineLaw (b : StartBlock) (i : Fin 8) (onEdge : Bool) (made : List Nibble)
    (slot : Option SwitchSlot) {s : State} (h : LineLaw s) : LineLaw (serveSlot b i onEdge made slot s) := by
  cases slot with
  | none => exact h
  | some x =>
    have hremove : LineLaw (removeEarlier i x.dest made s) := removeAll_lineLaw _ h
    simp only [serveSlot]
    split
    · exact hremove.of_port (port_raiseOnce _ _) (.of_keeps (raiseOnce_keeps _ _))
    · exact LineLaw.withLine_same (s := (removeEarlier i x.dest made s).withReq _) hremove rfl rfl rfl

/-! ### The peers -/

/-- The entry of another station changes while the station is not loading. -/
theorem LineLaw.withPeer {s : State} (h : LineLaw s) {n : Fin 15} {e : Option PeerEntry}
    (hother : n.val ≠ s.start.number.toNat) (hload : s.start.station ≠ .loading) : LineLaw (s.withPeer n e) := by
  obtain ⟨hrx, hanswers, hcounters, hsources, hown⟩ := h.portLaw
  refine LineLaw.of_high ⟨hrx, hanswers, hcounters, hsources, fun m hm => ?_⟩ (h.high hload) hload
  have hne : n.val ≠ m.val := fun heq => hother (heq.trans hm)
  exact (Vector.getElem_set_ne n.isLt m.isLt hne).trans (hown m hm)

/-- An entry that is present is another station's, and the station is not loading. -/
theorem LineLaw.of_present {s : State} (h : LineLaw s) {n : Fin 15} {e : PeerEntry} (hn : s.peers[n] = some e) :
    n.val ≠ s.start.number.toNat ∧ s.start.station ≠ .loading := by
  refine ⟨fun hown => ?_, fun hload => ?_⟩
  · exact absurd (hn.symm.trans (h.portLaw.own n hown)) (by simp)
  · rw [(h.clear hload).2] at hn
    simp [peersAbsent] at hn

theorem LineLaw.withPeer_test {s : State} (h : LineLaw s) {n : Fin 15} {e : Option PeerEntry}
    (hother : n.val ≠ s.start.number.toNat) (hload : s.start.station ≠ .loading) :
    LineLaw (testInherited (s.withPeer n e)) :=
  (h.withPeer hother hload).of_port (port_testInherited _) (.of_keeps (testInherited_keeps _))

theorem takeReport_lineLaw {n : Fin 15} {seq : Byte} {v : ReportValues} {s : State} (h : LineLaw s)
    (hother : n.val ≠ s.start.number.toNat) (hload : s.start.station ≠ .loading) : LineLaw (takeReport n seq v s) := by
  unfold takeReport
  split
  · exact h.withPeer_test hother hload
  · split_ifs
    · exact h.withPeer_test hother hload
    · exact countDuplicate_lineLaw h
    · exact h.withPeer_test hother hload
    · exact (countGap_lineLaw h).withPeer_test hother hload

theorem takeAlert_lineLaw (n : Fin 15) (k : FaultKind) {s : State} (h : LineLaw s) : LineLaw (takeAlert n k s) := by
  unfold takeAlert
  split
  · exact h
  · next hn =>
    obtain ⟨hother, hload⟩ := h.of_present hn
    exact h.withPeer_test hother hload

theorem markEntry_lineLaw (n : Fin 15) (st : EntryState) {s : State} (h : LineLaw s) : LineLaw (markEntry n st s) := by
  unfold markEntry
  split
  · next hn =>
    obtain ⟨hother, hload⟩ := h.of_present hn
    exact h.withPeer_test hother hload
  · exact h

theorem entryIndex_val {src : Nibble} {n : Fin 15} (h : entryIndex src = some n) : n.val = src.toNat := by
  unfold entryIndex at h
  split at h
  · cases h; rfl
  · cases h

/-! ### SILENCED, the cut-off and the transmitter -/

theorem enterSilenced_lineLaw {s : State} (h : LineLaw s) (hload : s.start.station ≠ .loading) :
    LineLaw (enterSilenced s) := by
  have hfirst : ∀ t, KeepsAllBut [.line, .req, .sp, .arm1, .arm2, .water] t (stopWater (forArms silenceArm t)) :=
    fun t => ((forArms_keeps silenceArm_keeps t).mono).trans ((stopWater_keeps _).mono)
  refine LineLaw.of_high (port_enterSilenced s ▸ h.portLaw) ?_ ?_
  · rw [(enterSilenced_keeps s).pins]
    exact h.high hload
  · simp only [enterSilenced, (hfirst _).start]
    simp

theorem sortFrame_lineLaw {f : Frame} {s : State} (h : LineLaw s) (hload : s.start.station ≠ .loading) :
    LineLaw (sortFrame f s) := by
  unfold sortFrame duplicateStation queueFrame
  split_ifs with hown hsilence hdst hfull
  · exact enterSilenced_lineLaw h hload
  · exact h
  · exact countMissed_lineLaw h
  · obtain ⟨hrx, hanswers, hcounters, hsources, hpeer⟩ := h.portLaw
    refine LineLaw.of_high ⟨?_, hanswers, hcounters, fun x hx => ?_, hpeer⟩ (h.high hload) hload
    · simp [port]; omega
    · rcases List.mem_append.mp hx with hx | hx
      · exact hsources x hx
      · rw [List.mem_singleton.mp hx]
        exact hown
  · exact h

theorem loseSending_spec (l : LinePort) :
    (loseSending l).rx = l.rx ∧ (loseSending l).answers.length ≤ l.answers.length
      ∧ (loseSending l).counters = l.counters := by
  simp only [loseSending]
  split
  · exact ⟨rfl, le_refl _, rfl⟩
  · split
    case h_1 => split <;> exact ⟨rfl, le_refl _, rfl⟩
    all_goals exact ⟨rfl, by simp, rfl⟩

theorem cutOff_lineLaw {s : State} (h : LineLaw s) : LineLaw (cutOff s) := by
  obtain ⟨hrx, hanswers, hcounters⟩ := loseSending_spec s.line
  have hlost : LineLaw
      (s.withLine { loseSending s.line with guardArmed := decide (s.start.station = .loading) }) :=
    h.withLine (hrx ▸ .refl _) (hanswers.trans h.portLaw.answers) (hcounters ▸ h.portLaw.counters)
  unfold cutOff
  simp only
  split
  case h_1 hst => exact enterSilenced_lineLaw hlost (by rw [hst]; decide)
  case h_2 hst => exact enterSilenced_lineLaw hlost (by rw [hst]; decide)
  case h_3 =>
    exact LineLaw.of_port (hlost.withLine_same (l := { (loseSending s.line) with
        guardArmed := decide (s.start.station = .loading), heldOff := true }) rfl rfl rfl)
      (port_raiseOnce _ _) (.of_keeps (raiseOnce_keeps _ _))
  all_goals exact hlost

theorem portLaw_empty {c : Counters} (hc : countersHeld c) (out : List OutgoingEntry) (number : Nibble) :
    PortLaw ⟨[], [], [], c, out, peersAbsent, number⟩ :=
  ⟨by simp, by simp, hc, by simp, fun n _ => by simp [peersAbsent]⟩

theorem warmRestart_lineLaw {s : State} (h : LineLaw s) (hload : s.start.station ≠ .loading) :
    LineLaw (warmRestart s) := by
  have hport : port (warmRestart s) = ⟨[], [], [], s.line.counters, [], peersAbsent, s.start.number⟩ := by
    simp [port, warmRestart, warmLine]
  refine LineLaw.of_high (hport ▸ portLaw_empty h.portLaw.counters _ _) ?_ (by simp [warmRestart])
  simpa [warmRestart] using h.high hload

theorem restartNow_lineLaw (straps : Straps) {s : State} (h : LineLaw s) : LineLaw (restartNow straps s) := by
  unfold restartNow
  split
  · next hsilenced => exact warmRestart_lineLaw h (by rw [hsilenced]; decide)
  · refine (lineLaw_iff _).mpr ⟨fun _ => rfl, ?_, fun _ => ⟨rfl, rfl⟩⟩
    exact portLaw_empty h.portLaw.counters _ _

theorem frameEnded_lineLaw (o : Owner) {s : State} (h : LineLaw s) : LineLaw (frameEnded o s) := by
  have htail : LineLaw (s.withLine { s.line with answers := s.line.answers.tail }) :=
    h.withLine (.refl _) ((List.tail_sublist _).length_le.trans h.portLaw.answers) h.portLaw.counters
  cases o with
  | alert k =>
    simp only [frameEnded, alertSent]
    split
    · exact h.withLine_same rfl rfl rfl
    · exact h
  | answer =>
    simp only [frameEnded, answerSent]
    split
    · split
      · next hrun => exact warmRestart_lineLaw htail (by simp [hrun.2])
      · exact htail
    · exact htail
  | report =>
    have hroom : s.line.answers.length ≤ 4 := h.portLaw.answers
    exact h.withLine (.refl _) (by simpa using hroom) h.portLaw.counters
  | request tag => exact h.withLine_same (l := { s.line with requests := _ }) rfl rfl rfl
  | orphan => exact h

/-! ### Requests keep the station state -/

theorem takeMode_stationKept (m : Mode) (s : State) : StationKept s (takeMode m s) := by
  unfold takeMode
  split
  · exact ⟨rfl, rfl⟩
  · have harms := (modeArms_keeps m (switchMode m s)).1
    have hrest := ((harms.mono (l' := [.line, .req, .sp, .arm1, .arm2, .water])).trans
      ((waterModeChange_keeps m _).mono)).trans ((makeDue_keeps _).mono)
    exact StationKept.of_keeps (s := switchMode m s) hrest

theorem demandTransport_stationKept (s : State) : StationKept s (demandTransport s) := by
  unfold demandTransport
  split
  · exact .of_keeps (forArms_keeps stowDemand_keeps s)
  · next hmode =>
    have htake := takeMode_stationKept .transport s
    rwa [takeMode, if_neg hmode] at htake

theorem acts_stationKept {r : Request} {s t : State} (acts : Acts r s t) : StationKept s t := by
  have hsup : ∀ c, StationKept s (supersede r.src c s) := fun _ => ⟨rfl, rfl⟩
  have hmove : ∀ n target u, StationKept u (armToTarget n target u) := fun n target u =>
    .of_keeps (armToTarget_keeps n target u) (by cases n <;> decide) (by cases n <;> decide)
  cases acts with
  | nothing => exact ⟨rfl, rfl⟩
  | free => exact ⟨rfl, rfl⟩
  | refresh => exact ⟨rfl, rfl⟩
  | release => exact ⟨rfl, rfl⟩
  | mode m => exact (hsup _).trans (takeMode_stationKept m _)
  | stow => exact (hsup _).trans (demandTransport_stationKept _)
  | stowPending => exact (hsup _).trans (demandTransport_stationKept _)
  | arm n target => exact (hsup _).trans (hmove n target _)
  | armPending n target => exact ((hsup _).trans (hmove n target _)).trans ⟨rfl, rfl⟩
  | water on => exact .of_keeps (writeEnable_keeps on s)
  | trim n v => exact .of_keeps (State.withArm_keeps s n _) (by cases n <;> decide) (by cases n <;> decide)
  | clear mask => exact .of_keeps (clearFaults_keeps mask s)

theorem elapse_lineLaw {s : State} (h : LineLaw s) : LineLaw (elapse s) := by
  obtain ⟨hreset, ⟨hrx, hanswers, hcounters, hsources, hown⟩, hclear⟩ := (lineLaw_iff s).mp h
  refine (lineLaw_iff _).mpr ⟨hreset, ⟨hrx, hanswers, hcounters, hsources, fun n hn => ?_⟩, fun hload => ?_⟩
  · have hnone : s.peers[n.val] = none := hown n hn
    simp [port, elapse, hnone]
  · obtain ⟨hempty, hpeers⟩ := hclear hload
    exact ⟨hempty, by simp [elapse, hpeers, peersAbsent]⟩

theorem acceptStart_station (b : StartBlock) (arm1 arm2 : Raw) (levels : BitVec 8) (s : State) :
    (acceptStart b arm1 arm2 levels s).start.station = .listening := by
  have hstart : ∀ n raw u, (firstPosition b n raw u).start = u.start := fun n raw u =>
    (firstPosition_keeps b n raw u).start (by cases n <;> decide)
  simp [acceptStart, hstart]

theorem acceptStart_resetN (b : StartBlock) (arm1 arm2 : Raw) (levels : BitVec 8) (s : State) :
    (acceptStart b arm1 arm2 levels s).pins.resetN = s.pins.resetN := by
  simp [acceptStart, firstPosition_resetN]

/-! ### Every effect, and every step -/

theorem does_lineLaw {s t : State} (h : LineLaw s) (does : Does s t) : LineLaw t := by
  have hpop : LineLaw (popRx s) := popRx_lineLaw h
  have hpins : ∀ p : Pins, p.resetN = s.pins.resetN → LineLaw (s.withPins p) := fun p hp => h.of_port rfl ⟨hp, rfl⟩
  cases does with
  | nothing => exact h
  | coldReset =>
    exact (lineLaw_iff _).mpr ⟨fun _ => rfl, portLaw_empty countersHeld_reset _ _, fun _ => ⟨rfl, rfl⟩⟩
  | release straps low =>
    obtain ⟨hempty, hpeers⟩ := h.clear (h.1 low)
    refine (lineLaw_iff _).mpr ⟨fun hlow => absurd hlow (by simp [beginLoading]), ?_, fun _ => ⟨hempty, hpeers⟩⟩
    refine ⟨h.portLaw.rx, h.portLaw.answers, h.portLaw.counters, fun f hf => ?_, fun n _ => ?_⟩
    · have hf' : f ∈ s.line.rx := hf
      exact absurd (hempty ▸ hf') List.not_mem_nil
    · simp [port, beginLoading, hpeers, peersAbsent]
  | failStart miso runs =>
    have hstation : (failStart (endRead miso s)).start.station ≠ .loading := by simp [failStart]
    refine LineLaw.of_high ?_ (by rw [(failStart_keeps _).pins]; exact (loadRuns_spec runs).2) hstation
    exact (port_failStart (endRead miso s)).symm ▸ h.portLaw
  | acceptStart miso arm1 arm2 levels runs =>
    refine LineLaw.of_high ?_ (by rw [acceptStart_resetN]; exact (loadRuns_spec runs).2)
      (by rw [acceptStart_station]; decide)
    exact (port_acceptStart _ arm1 arm2 levels (endRead miso s)).symm ▸ h.portLaw
  | join due =>
    simp only [joinDue, Bool.and_eq_true, decide_eq_true_eq] at due
    refine LineLaw.of_high ((port_enterRunning s).symm ▸ h.portLaw) ?_ (by simp [enterRunning])
    rw [(enterRunning_keeps s).pins]
    exact h.high (by rw [due.1]; decide)
  | pins p reset => exact hpins p reset
  | drivePeriod b i =>
    exact (hpins { s.pins with drive := i } rfl).of_port (port_drivePeriod b _) (.of_keeps (drivePeriod_keeps b _))
  | armPeriod b n raw =>
    have hpin : LineLaw (setPositionPin n raw s) := by cases n <;> exact hpins _ rfl
    exact hpin.of_port (port_armPeriod b n _)
      (.of_keeps (armPeriod_keeps b n _) (by cases n <;> decide) (by cases n <;> decide))
  | waterPeriod b tank waterP =>
    exact (hpins { s.pins with tank := tank, waterP := waterP } rfl).of_port (port_waterPeriod b _)
      (.of_keeps (waterPeriod_keeps b _))
  | bucketClose b => exact h
  | speedEdge p m reset =>
    exact LineLaw.of_port (s := (s.withPins p).withDrive { s.drive with meas := m }) (hpins p reset)
      (port_restartSpeedSilence _) (.of_keeps (restartSpeedSilence_keeps _))
  | engineEdge bad m =>
    exact LineLaw.of_port (s := s.withDrive { s.drive with engineSilence := 0, engineBad := bad, meas := m }) h
      (port_handOver _ _ _) (.of_keeps (handOver_keeps _ _ _))
  | park => exact h
  | dwell => exact h
  | speedSilence => exact h.of_port (port_handOver _ _ s) (.of_keeps (handOver_keeps _ _ s))
  | engineSilence => exact h.of_port (port_handOver _ _ s) (.of_keeps (handOver_keeps _ _ s))
  | stall n =>
    exact h.of_port (port_stall n s) (.of_keeps (stall_keeps n s) (by cases n <;> decide) (by cases n <;> decide))
  | blind n =>
    exact h.of_port (port_blindExpired n s)
      (.of_keeps (blindExpired_keeps n s) (by cases n <;> decide) (by cases n <;> decide))
  | failedPrime => exact h.of_port (port_failedPrime s) (.of_keeps (failedPrime_keeps s))
  | dryWaitEnded b => exact h.of_port (port_dryWaitEnded b s) (.of_keeps (dryWaitEnded_keeps b s))
  | pattern b => exact h
  | age n st => exact markEntry_lineLaw n st h
  | entryDiscard src tag => exact h
  | entryOrphaned src tag => exact countOrphan_lineLaw (s := freeEntry src tag s) h
  | repeatExpiry tag e => exact repeatExpired_lineLaw e h
  | switch i d => exact h
  | edge b i d onEdge => exact serveSlot_lineLaw _ _ _ _ _ (serveSlot_lineLaw _ _ _ _ _ h)
  | reportTimer =>
    have hdue : ∀ u, LineLaw u → LineLaw (makeDue u) := fun u hu =>
      hu.of_port (port_makeDue u) (.of_keeps (makeDue_keeps u))
    exact hdue _ (h.withLine_same rfl rfl rfl)
  | checkError => exact countCheckError_lineLaw h
  | frame f on => exact sortFrame_lineLaw h on
  | cutOff => exact cutOff_lineLaw h
  | popRx => exact hpop
  | report f n seq v front source =>
    have hload : s.start.station ≠ .loading := fun hload => by
      rw [(h.clear hload).1] at front
      exact absurd front List.not_mem_nil
    refine takeReport_lineLaw hpop (fun hown => h.portLaw.sources f front ?_) hload
    exact BitVec.eq_of_toNat_eq ((entryIndex_val source).symm.trans hown)
  | alert n k => exact takeAlert_lineLaw n k hpop
  | answer f => exact takeAnswer_lineLaw f hpop
  | missed => exact countMissed_lineLaw hpop
  | reply r u _ _ _ room acts =>
    have hport := acts_port acts
    obtain ⟨-, hanswers, -⟩ := port_eq_iff.mp hport
    exact queueAnswer_lineLaw (hpop.of_port hport (acts_stationKept acts)) (by rw [hanswers]; exact room)
  | restart straps => exact restartNow_lineLaw straps hpop
  | lost => exact h
  | offer o f => exact h
  | frameSent x => exact frameEnded_lineLaw x.owner h

/-- Settles O56: a frame joins the queue from another station, an entry is made from such a frame, every counter is bumped
up to 255, and each restart or reset empties the queues and the peer table. -/
theorem everyStepKeepsTheLineLaw : Obligations.EveryStepKeepsTheLineLaw := by
  unfold Obligations.EveryStepKeepsTheLineLaw
  exact step_keeps (fun _ _ h => h) (fun _ h => elapse_lineLaw h) (fun _ _ => does_lineLaw)

end Sys2Proof.Machine
end

section
/-! SUPPORT. The queue of commands: a step runs the command at the front, every command completes, and an empty queue lets
one millisecond pass. -/

namespace Sys2Proof.Machine

-- One thread elaborates this section, so that the check's memory limit holds the stacks.
set_option Elab.async false

/-- Settles O1. -/
theorem stepRunsTheFrontCommand : Obligations.StepRunsTheFrontCommand := by
  unfold Obligations.StepRunsTheFrontCommand
  intro c rest s hpending
  simp only [step, hpending]

/-- Settles O57. -/
theorem resetKeepsEveryLaw : Obligations.ResetKeepsEveryLaw := by
  unfold Obligations.ResetKeepsEveryLaw
  refine ⟨armsLaw_reset, waterLaw_reset, driveLaw_reset, .of_empty rfl, (outgoingLaw_iff _).mpr OutLaw.empty, ?_⟩
  exact (lineLaw_iff _).mpr ⟨fun _ => rfl, portLaw_empty countersHeld_reset _ _, fun _ => ⟨rfl, rfl⟩⟩

/-! ### Every command completes -/

/-- No branch of a command answers with a fault or a refusal: the commands without a test, with one, with several. -/
theorem exec_completes (c : Instr) (s : State) : ∃ t, exec c s = .next t := by
  cases c
  case coldReset | setMode | armMove | waterSet | trimSet | faultClear | query | unknownRequestKind =>
    exact ⟨_, rfl⟩
  case resetRelease | joinTimerExpiry | speedEdge | engineEdge | parkTimerExpiry | dwellTimerExpiry
      | speedSilenceExpiry | engineSilenceExpiry | moveTimerExpiry | blindTimerExpiry | primeTimerExpiry
      | lossTimerExpiry | staleExpiry | lostExpiry | entryDiscard | switchLevelChange | reportTimerExpiry
      | babbleGuardCutoff | frameSent =>
    simp only [exec, execResetRelease, execJoinTimerExpiry, execSpeedEdge, execEngineEdge, execParkTimerExpiry,
      execDwellTimerExpiry, execSpeedSilenceExpiry, execEngineSilenceExpiry, execMoveTimerExpiry,
      execBlindTimerExpiry, execPrimeTimerExpiry, execLossTimerExpiry, execStaleExpiry, execLostExpiry,
      execEntryDiscard, execSwitchLevelChange, execReportTimerExpiry, execBabbleGuardCutoff, execFrameSent]
    split <;> exact ⟨_, rfl⟩
  all_goals
    simp only [exec, execLoadCompletion, execDrvControlPeriod, execArmControlPeriod, execWtrControlPeriod,
      execBucketClose, execDryWaitExpiry, execPatternTimerExpiry, execRepeatTimerExpiry, execSettlingTimerExpiry,
      execFrameArrival, execReportArrival, execAlertArrival, execAnswerArrival, execRestart, execLineIdle]
    repeat' split
    all_goals exact ⟨_, rfl⟩

theorem acts_pending {r : Request} {s t : State} (acts : Acts r s t) : t.pending = s.pending := by
  have hsup : ∀ c, (supersede r.src c s).pending = s.pending := fun _ => rfl
  have hmove : ∀ n target u, (armToTarget n target u).pending = u.pending := fun n target u =>
    (armToTarget_keeps n target u).pending (by cases n <;> decide)
  cases acts with
  | nothing => rfl
  | free => rfl
  | refresh => rfl
  | release => rfl
  | mode m => exact (takeMode_keeps m _).pending
  | stow => exact (demandTransport_keeps _).pending
  | stowPending => exact (demandTransport_keeps _).pending
  | arm n target => exact hmove n target _
  | armPending n target => exact hmove n target _
  | water on => exact (writeEnable_keeps on s).pending
  | trim n v => exact (State.withArm_keeps s n _).pending (by cases n <;> decide)
  | clear mask => exact (clearFaults_keeps mask s).pending

theorem frameEnded_pending (o : Owner) (s : State) : (frameEnded o s).pending = s.pending := by
  cases o with
  | alert k =>
    simp only [frameEnded, alertSent]
    split <;> rfl
  | answer =>
    simp only [frameEnded, answerSent]
    split
    · split
      · exact (warmRestart_spec _).1 .pending (by decide)
      · rfl
    · rfl
  | report => rfl
  | request tag => rfl
  | orphan => rfl

/-- No effect of a command touches the queue of commands. -/
theorem does_pending {s t : State} (does : Does s t) : t.pending = s.pending := by
  cases does with
  | nothing => rfl
  | coldReset => rfl
  | release => rfl
  | failStart miso => exact (failStart_keeps _).pending
  | acceptStart miso arm1 arm2 levels =>
    have hfirst : ∀ b n raw u, (firstPosition b n raw u).pending = u.pending := fun b n raw u =>
      (firstPosition_keeps b n raw u).pending (by cases n <;> decide)
    simp [acceptStart, hfirst, endRead]
  | join => exact (enterRunning_keeps s).pending
  | pins p => rfl
  | drivePeriod b i => exact (drivePeriod_keeps b _).pending
  | armPeriod b n raw =>
    rw [(armPeriod_keeps b n _).pending (by cases n <;> decide), (setPositionPin_keeps n raw s).pending]
  | waterPeriod b tank waterP => exact (waterPeriod_keeps b _).pending
  | bucketClose b => rfl
  | speedEdge p m => exact (restartSpeedSilence_keeps _).pending
  | engineEdge bad m => exact (handOver_keeps _ _ _).pending
  | park => rfl
  | dwell => rfl
  | speedSilence => exact (handOver_keeps _ _ s).pending
  | engineSilence => exact (handOver_keeps _ _ s).pending
  | stall n => exact (stall_keeps n s).pending (by cases n <;> decide)
  | blind n => exact (blindExpired_keeps n s).pending (by cases n <;> decide)
  | failedPrime => exact (failedPrime_keeps s).pending
  | dryWaitEnded b => exact (dryWaitEnded_keeps b s).pending
  | pattern b => rfl
  | age n st => exact (markEntry_keeps n st s).pending
  | entryDiscard src tag => rfl
  | entryOrphaned src tag => rfl
  | repeatExpiry tag e => exact (repeatExpired_keeps e s).pending
  | switch i d => rfl
  | edge b i d onEdge => exact (switchEdge_keeps b i onEdge _).pending
  | reportTimer => exact (makeDue_keeps _).pending
  | checkError => rfl
  | frame f => exact (sortFrame_keeps f s).pending
  | cutOff => exact (cutOff_keeps s).pending
  | popRx => rfl
  | report f n seq v => exact (takeReport_keeps n seq v _).pending
  | alert n k => exact (takeAlert_keeps n k _).pending
  | answer f => exact (takeAnswer_keeps f _).pending
  | missed => rfl
  | reply r u _ _ _ _ acts => exact (queueAnswer_keeps _ _ _ _ _ _ u).pending.trans ((acts_pending acts).trans rfl)
  | restart straps =>
    unfold restartNow
    split
    · exact (warmRestart_spec _).1 .pending (by decide)
    · rfl
  | lost => rfl
  | offer o f => rfl
  | frameSent x => exact frameEnded_pending x.owner _

/-- Settles O3. -/
theorem everyCommandCompletes : Obligations.EveryCommandCompletes := by
  unfold Obligations.EveryCommandCompletes
  intro c s
  obtain ⟨t, ht⟩ := exec_completes c s
  exact ⟨t, ht, does_pending (exec_does ht)⟩

/-! ### One millisecond -/

/-- A peer entry whose both expiries are due goes to LOST (R28, R29). -/
theorem peerExpiry_iff (n : Fin 15) (s : State) :
    (lostDue n s = true ↔ ∃ e, s.peers[n] = some e ∧ e.status ≠ .lost ∧ 50 * e.vals.period ≤ e.age)
      ∧ (lostDue n s = false ∧ staleDue n s = true ↔ ∃ e, s.peers[n] = some e ∧ e.status = .fresh
          ∧ 20 * e.vals.period ≤ e.age ∧ e.age < 50 * e.vals.period) := by
  unfold lostDue staleDue
  split
  · next e he =>
    rw [he]
    cases hstatus : e.status <;> simp [hstatus, and_comm]
  · next he => simp [he]

theorem reportTimerDue_iff (s : State) :
    reportTimerDue s = true
      ↔ (∃ b, s.start.image = some b ∧ ∃ ms, s.line.reportTimer = some ms ∧ 10 * b.line.period ≤ ms)
        ∨ (s.start.image = none ∧ ∃ ms, s.line.reportTimer = some ms ∧ 100 ≤ ms) := by
  unfold reportTimerDue reportPeriod
  split <;> simp_all [Timer.reached_iff]

theorem elapse_peers (s : State) (n : Fin 15) : (elapse s).peers[n] = s.peers[n].map PeerEntry.older :=
  Vector.getElem_map _ _

/-- Settles O2: the tick is `elapse` and the list of the due expiries, whose members `mem_dueExpiries` lists. -/
theorem emptyQueuePassesOneMillisecond : Obligations.EmptyQueuePassesOneMillisecond := by
  unfold Obligations.EmptyQueuePassesOneMillisecond
  intro s hempty
  have hstep : step s = .next ((elapse s).withPending (dueExpiries (elapse s))) := by
    simp [step, hempty, tick, elapse]
  refine ⟨_, hstep, ?_, rfl, rfl, ?_, elapse_peers s, ?_, rfl, rfl, rfl, ?_⟩
  · intro p hp
    cases p <;> simp_all [Same, elapse]
  · rintro (_ | _) <;> rfl
  · simp [elapse, driveElapse, Timer.grow]
  · extract_lets gone within joins
    have hjoins : ∀ c, joins c ↔ c ∈ dueExpiries (elapse s) := fun _ => Iff.rfl
    have hgone : ∀ t limit, Timer.reached t limit = true ↔ gone t limit := Timer.reached_iff
    have hwithin : ∀ t limit, dueBy (elapse s) t limit = true ↔ within t limit := dueBy_iff (elapse s)
    have hcause : ∀ k, k ≠ .arm1Fault → k ≠ .arm2Fault → active k s = hasKind (elapse s).faults.cause k := by
      intro k h1 h2
      simp [active_eq, h1, h2, elapse]
    simp only [hjoins, mem_dueExpiries, reduceCtorEq, and_false, false_or, or_false, and_true, exists_false,
      Instr.moveTimerExpiry.injEq, Instr.blindTimerExpiry.injEq, Instr.lostExpiry.injEq, Instr.staleExpiry.injEq,
      Instr.entryDiscard.injEq, Instr.repeatTimerExpiry.injEq, Instr.settlingTimerExpiry.injEq, exists_eq_right']
    refine ⟨?_, hwithin _ _, hwithin _ _, ?_, ?_, ?_, ?_, hwithin _ _, hwithin _ _, hwithin _ _, hgone _ _, ?_, ?_, ?_,
      ?_, ?_, ?_⟩
    · have hfive : (fun b : StartBlock => 50 * b.line.period) = fun b => 5 * b.line.period * 10 := by
        funext b
        omega
      rw [joinDue, Bool.and_eq_true, hwithin, hfive, decide_eq_true_eq]
      rfl
    · rw [speedSilenceDue, hcause .speedSensor (by decide) (by decide)]
      simp only [Bool.and_eq_true, decide_eq_true_eq, Bool.not_eq_true', and_assoc]
      rfl
    · rw [engineSilenceDue, hcause .engineSensor (by decide) (by decide)]
      simp only [Bool.and_eq_true, decide_eq_true_eq, Bool.not_eq_true', and_assoc]
      rfl
    · rw [bucketDue, Bool.and_eq_true, hgone]
      rfl
    · exact fun n => ⟨hwithin _ _, hwithin _ _⟩
    · intro n
      obtain ⟨hlost, hstale⟩ := peerExpiry_iff n (elapse s)
      refine ⟨hlost, Iff.trans ⟨?_, fun h => ⟨n, h.1, h.2, rfl⟩⟩ hstale⟩
      rintro ⟨m, hnot, hdue, rfl⟩
      exact ⟨hnot, hdue⟩
    · intro requester tag
      constructor
      · rintro ⟨e, he, hdue, hrequester, htag⟩
        obtain ⟨b, hb, ms, hms, hle⟩ := (hwithin _ _).mp hdue
        cases hms
        exact ⟨b, e, hb, he, hrequester.symm, htag.symm, hle⟩
      · rintro ⟨b, e, hb, he, rfl, rfl, hle⟩
        exact ⟨e, he, (hwithin _ _).mpr ⟨b, hb, _, rfl, hle⟩, rfl, rfl⟩
    · intro tag
      constructor
      · rintro ⟨e, he, hdue, htag⟩
        exact ⟨e, he, htag.symm, (hwithin _ _).mp hdue⟩
      · rintro ⟨e, he, htag, hdue⟩
        exact ⟨e, he, (hwithin _ _).mpr hdue, htag.symm⟩
    · exact fun i => hgone _ _
    · exact reportTimerDue_iff (elapse s)
    · rw [guardDue, Bool.and_eq_true, Bool.and_eq_true, decide_eq_true_eq, and_assoc]
      rfl

end Sys2Proof.Machine
end

section
/-! SUPPORT. Reset, its release, and the first timers of the station. -/

namespace Sys2Proof.Machine

-- One thread elaborates this section, so that the check's memory limit holds the stacks.
set_option Elab.async false

/-- Settles O4. -/
theorem resetHoldsTheColdValues : Obligations.ResetHoldsTheColdValues := by
  unfold Obligations.ResetHoldsTheColdValues
  have hpeers : ∀ n : Fin 15, State.reset.peers[n] = none := fun n => by simp [State.reset, peersAbsent]
  refine ⟨rfl, rfl, rfl, rfl, rfl, rfl, rfl, rfl, rfl, rfl, rfl, rfl, rfl, hpeers, rfl, rfl, rfl, by decide,
    rfl, rfl, rfl, rfl, by decide, rfl, rfl, rfl, rfl, rfl, rfl, rfl, rfl, rfl, rfl, rfl, rfl, rfl, rfl, rfl, rfl,
    rfl, rfl, rfl, ?_, rfl, rfl, rfl, rfl, rfl, rfl, rfl⟩
  rintro (_ | _) <;> exact ⟨rfl, rfl, rfl, rfl, rfl, rfl⟩

/-! ### Cold reset and release -/

/-- What the output pins carry while the station loads and nothing is sticky (R36, R37). -/
theorem outputs_undriven {s : State} (hstation : s.start.station = .loading) (hfaults : s.faults.sticky = 0)
    (hspi : s.start.spi = ⟨false, [], 0⟩) :
    outputs s = ⟨0, 0, false, ⟨false, false, false, 0⟩, ⟨false, false, false, 0⟩, 0, 0, false, false, []⟩ := by
  have hdriven : outputsDriven s = false := by simp [outputsDriven, hstation]
  simp [outputs, hdriven, armPins, faultAsserted, hfaults, hspi, spiWaveOf, spiBits]

/-- The read command of the start memory as the SPI pins carry it (R37). -/
theorem spiWaveOf_readCommand : spiWaveOf ⟨true, [0x03#8, 0x00#8, 0x00#8], 0⟩
    = ([false, false, false, false, false, false, true, true] ++ List.replicate 16 false).flatMap
        (fun b => [⟨false, some b⟩, ⟨true, some b⟩, ⟨false, some b⟩]) := by decide

theorem armAtRelease_spec (role : BitVec 3) (n : ArmId) :
    (armAtRelease role n).state = (if maskHas (roleMask role) (armChannel n) then .held else .stowed)
      ∧ (armAtRelease role n).resume = false ∧ (armAtRelease role n).moveTimer = none
      ∧ (armAtRelease role n).command = 0 := by
  unfold armAtRelease
  split <;> exact ⟨rfl, rfl, rfl, rfl⟩

theorem beginLoading_keeps (straps : Straps) (s : State) :
    KeepsAllBut [.pins, .start, .arm1, .arm2] s (beginLoading straps s) := by
  intro p hp
  cases p <;> simp_all [Same, beginLoading]

/-- Settles O5. -/
theorem coldResetAndItsRelease : Obligations.ColdResetAndItsRelease := by
  unfold Obligations.ColdResetAndItsRelease
  refine ⟨fun s => ⟨coldState s, rfl, ?_⟩, fun straps s hlow => ⟨beginLoading straps s, ?_, ?_⟩,
    fun straps s hhigh => ?_⟩
  · have hout := outputs_undriven (s := coldState s) rfl rfl rfl
    have hsettle : ∀ i : Fin 8, ((coldState s).req.switches[i]).settle = none := fun i => by
      simp [coldState, resetDebouncer]
    refine ⟨rfl, rfl, rfl, rfl, rfl, rfl, hsettle, rfl, rfl, rfl, rfl, rfl, rfl, rfl, rfl, rfl, ?_⟩
    rw [hout]
    exact ⟨rfl, rfl, rfl, rfl, rfl, rfl, rfl, rfl, rfl, rfl⟩
  · simp [exec, execResetRelease, hlow]
  · refine ⟨beginLoading_keeps straps s, rfl, rfl, rfl, spiWaveOf_readCommand, ?_⟩
    rintro (_ | _)
    · exact armAtRelease_spec straps.role .one
    · exact armAtRelease_spec straps.role .two
  · simp [exec, execResetRelease, hhigh]

/-! ### The inherited causes -/

theorem travelSource_congr {s t : State} (hstart : t.start = s.start) (hpeers : t.peers = s.peers) :
    travelSource t = travelSource s := by
  unfold travelSource drivePeers peerHasDrive populated
  rw [hstart, hpeers]

theorem driveConflict_congr {s t : State} (hstart : t.start = s.start) (hpeers : t.peers = s.peers) :
    driveConflict t = driveConflict s := by
  unfold driveConflict drivePeers peerHasDrive populated
  rw [hstart, hpeers]

/-- Travel and engine speed of another station come from the peer table alone. -/
theorem view_congr_of_away {s t : State} (hstart : t.start = s.start) (hpeers : t.peers = s.peers)
    (haway : travelSource s ≠ .own) : viewTravel t = viewTravel s ∧ viewEngine t = viewEngine s := by
  unfold viewTravel viewEngine
  rw [travelSource_congr hstart hpeers, hpeers]
  split <;> simp_all

theorem mem_inheritedKinds (k : FaultKind) : k ∈ inheritedKinds ↔ k = .travelLost ∨ k = .engineLost ∨ k = .driveConflict := by
  simp [inheritedKinds]

/-- The causes the test hands over, each on the table it tests (R33, R157). -/
theorem active_testInherited {s : State} (hruns : s.start.station = .running ∨ s.start.station = .silenced) :
    active .travelLost (testInherited s) = (decide (travelSource s ≠ .own) && decide ((viewTravel s).quality = .bad))
      ∧ active .engineLost (testInherited s)
          = (decide (travelSource s ≠ .own) && decide ((viewEngine s).quality = .bad))
      ∧ active .driveConflict (testInherited s) = driveConflict s := by
  simp only [testInherited, if_pos hruns]
  refine ⟨?_, ?_, active_handOver_self (by decide) (by decide) _ _⟩
  · rw [active_handOver_other (by decide), active_handOver_other (by decide),
      active_handOver_self (by decide) (by decide)]
  · rw [active_handOver_other (by decide), active_handOver_self (by decide) (by decide)]

/-- A cause that the test finds present becomes sticky (R158). -/
theorem sticky_testInherited {k : FaultKind} (hk : k ∈ inheritedKinds) {s : State}
    (hruns : s.start.station = .running ∨ s.start.station = .silenced) :
    sticky k (testInherited s) = (sticky k s || active k (testInherited s)) := by
  obtain ⟨htravel, hengine, hconflict⟩ := active_testInherited hruns
  rcases (mem_inheritedKinds k).mp hk with rfl | rfl | rfl
  · rw [htravel]
    simp [testInherited, hruns, sticky_handOver, Bool.or_comm]
  · rw [hengine]
    simp [testInherited, hruns, sticky_handOver, Bool.or_comm]
  · rw [hconflict]
    simp [testInherited, hruns, sticky_handOver, Bool.or_comm]

theorem testInherited_resting {s : State} (hruns : ¬ (s.start.station = .running ∨ s.start.station = .silenced)) :
    testInherited s = s := if_neg hruns

/-- From any state with the same station state and faults, the test is the one the statements speak of. -/
theorem inheritedTested_testInherited {s u : State} (hstart : u.start = s.start) (hfaults : u.faults = s.faults) :
    InheritedTested s (testInherited u) := by
  have hsource := travelSource_congr (testInherited_start u) (testInherited_peers u)
  refine ⟨fun hruns => ?_, fun hrun hsil => ?_, fun k hk => ?_⟩
  · rw [← hstart] at hruns
    obtain ⟨htravel, hengine, hconflict⟩ := active_testInherited hruns
    rw [hsource, htravel, hengine, hconflict, driveConflict_congr (testInherited_start u) (testInherited_peers u)]
    refine ⟨?_, ?_, rfl, fun k hk => ?_⟩
    · rw [Bool.and_eq_true, decide_eq_true_eq, decide_eq_true_eq]
      exact and_congr_right fun haway => by
        rw [(view_congr_of_away (testInherited_start u) (testInherited_peers u) haway).1]
    · rw [Bool.and_eq_true, decide_eq_true_eq, decide_eq_true_eq]
      exact and_congr_right fun haway => by
        rw [(view_congr_of_away (testInherited_start u) (testInherited_peers u) haway).2]
    · rw [sticky_testInherited hk hruns, sticky_congr hfaults]
  · rw [testInherited_resting (by rw [hstart]; simp [hrun, hsil]), hfaults]
  · obtain ⟨hact, hsticky⟩ := testInherited_other hk u
    rw [hact, hsticky, active_congr hfaults, sticky_congr hfaults]
    exact ⟨rfl, rfl⟩

/-! ### The join timer and the report timer -/

/-- RUNNING before the inherited causes are tested. -/
def enterRunningQuiet (s : State) : State :=
  makeDue ((s.withStart { s.start with station := .running, joinTimer := none }).withLine
    { s.line with reportTimer := some 0 })

theorem enterRunning_eq (s : State) : enterRunning s = testInherited (enterRunningQuiet s) := rfl

/-- Settles O8. -/
theorem joinAndReportTimersExpire : Obligations.JoinAndReportTimersExpire := by
  unfold Obligations.JoinAndReportTimersExpire
  refine ⟨fun s b n hlisten himage htimer hdue => ⟨enterRunning s, ?_, enterRunning_keeps s, ?_⟩,
    fun s ms period htimer hdue hperiod => ?_⟩
  · have hjoin : joinDue s = true := by
      rw [joinDue, Bool.and_eq_true, dueBy_iff, decide_eq_true_eq]
      exact ⟨hlisten, b, himage, n, htimer, by omega⟩
    simp [exec, execJoinTimerExpiry, hjoin]
  · have hstart : (enterRunning s).start = { s.start with station := .running, joinTimer := none } := by
      simp [enterRunning]
    have hline : (enterRunning s).line = { s.line with reportTimer := some 0, reportDue := true } := by
      simp [enterRunning, makeDue]
    obtain ⟨hcauses, -, -⟩ := inheritedTested_testInherited (s := enterRunningQuiet s) rfl rfl
    obtain ⟨htravel, hengine, hconflict, -⟩ := hcauses (.inl (by simp [enterRunningQuiet]))
    exact ⟨hstart, hline, hconflict, htravel, hengine⟩
  · have hreport : reportPeriod s = period := by
      unfold reportPeriod
      rcases hperiod with ⟨b, himage, rfl⟩ | ⟨himage, rfl⟩ <;> simp [himage]
    have hreached : reportTimerDue s = true := by
      simp [reportTimerDue, hreport, htimer, Timer.reached, hdue]
    simp only [exec, execReportTimerExpiry, hreached, if_true, hreport, htimer, makeDue, State.withLine_start]
    exact ⟨fun hon => by rw [if_pos hon]; rfl, fun hrun hfail => by rw [if_neg (by simp [hrun, hfail])]; rfl⟩

end Sys2Proof.Machine
end

section
/-! SUPPORT. The checks of the start memory (R171) and what the load completion leaves. -/

namespace Sys2Proof.Machine

-- One thread elaborates this section, so that the check's memory limit holds the stacks.
set_option Elab.async false

/-- The number that sixteen levels of SPI_MISO spell from level 16 i on. -/
def spelledWord (miso : List Bool) (i : Nat) : Nat := numOf ((List.range 16).map (fun k => miso.getD (16 * i + k) true))

theorem spelledWord_lt (miso : List Bool) (i : Nat) : spelledWord miso i < 65536 := by
  have h := numOf_lt ((List.range 16).map (fun k => miso.getD (16 * i + k) true))
  rwa [List.length_map, List.length_range] at h

theorem headerWords_getD (miso : List Bool) (i : Nat) (h : i < 2) :
    ((headerWords miso).getD i 0).toNat = spelledWord miso i := by
  rw [headerWords, wordsOf_getD _ _ (by simp; omega), readBytes_getD _ _ _ (by omega), readBytes_getD _ _ _ (by omega),
    show 8 * (2 * i + 1) = 8 * (2 * i) + 8 by ring, ← List.drop_drop, wordOf_takeByte_toNat]
  refine congrArg numOf (List.map_congr_left fun k _ => ?_)
  simp [List.getD_eq_getElem?_getD, show 8 * (2 * i) = 16 * i by ring]

theorem blockLength_eq (miso : List Bool) : blockLength miso = spelledWord miso 1 := headerWords_getD miso 1 (by omega)

/-- The header that passes checks 2, 3 and 4 of R171. -/
def headerGood (miso : List Bool) : Prop :=
  spelledWord miso 0 = 0x0C61 ∧ 1076 ≤ spelledWord miso 1 ∧ spelledWord miso 1 ≤ 2048 ∧ spelledWord miso 1 % 2 = 0

theorem headerFails_eq_false_iff (miso : List Bool) : headerFails miso = false ↔ headerGood miso := by
  have hcode : (headerWords miso).getD 0 0 = formatCode ↔ spelledWord miso 0 = 0x0C61 := by
    rw [← headerWords_getD miso 0 (by omega), ← BitVec.toNat_inj]
    rfl
  simp only [headerFails, headerGood, blockLength_eq, Bool.or_eq_false_iff, Bool.and_eq_false_iff, decide_eq_false_iff_not,
    not_not, ← hcode, fixedPartBytes]
  constructor
  · rintro ⟨⟨⟨⟨-, h0⟩, h1⟩, h2⟩, h3⟩
    exact ⟨h0, by omega, by omega, by omega⟩
  · rintro ⟨h0, h1, h2, h3⟩
    exact ⟨⟨⟨⟨.inr (by omega), h0⟩, by omega⟩, by omega⟩, by omega⟩

theorem wordSum_toNat (ws : List Word) : (wordSum ws).toNat = (ws.map BitVec.toNat).sum % 65536 := by
  have hfold : ∀ (l : List Word) (a : Word), (l.foldl (· + ·) a).toNat = (a.toNat + (l.map BitVec.toNat).sum) % 65536 := by
    intro l
    induction l with
    | nil => intro a; simp [Nat.mod_eq_of_lt a.isLt]
    | cons x l ih =>
      intro a
      rw [List.foldl_cons, ih, BitVec.toNat_add, List.map_cons, List.sum_cons]
      omega
  rw [wordSum, hfold]
  simp

/-- The words of a block of even length are those its levels spell. -/
theorem blockWords_map_toNat (miso : List Bool) :
    (blockWords miso).map BitVec.toNat = (List.range (spelledWord miso 1 / 2)).map (spelledWord miso) := by
  have hlen : (blockWords miso).length = spelledWord miso 1 / 2 := by simp [blockWords, blockLength_eq]
  refine List.ext_getElem (by simp [hlen]) fun i hi _ => ?_
  have hi' : i < (blockWords miso).length := by simpa using hi
  have hword := blockWords_getD miso i (by rw [blockLength_eq]; omega)
  rw [List.getD_eq_getElem _ _ hi'] at hword
  rw [List.getElem_map, List.getElem_map, List.getElem_range, hword]
  rfl

/-- The three parts of R171 that a load has to pass. -/
def loadGood (number : Nibble) (miso : List Bool) : Prop :=
  number ≠ 15 ∧ headerGood miso ∧ ((List.range (spelledWord miso 1 / 2)).map (spelledWord miso)).sum % 65536 = 0

theorem loadFails_eq_false_iff (number : Nibble) (miso : List Bool) :
    loadFails number miso = false ↔ loadGood number miso := by
  have hsum : wordSum (blockWords miso) = 0
      ↔ ((List.range (spelledWord miso 1 / 2)).map (spelledWord miso)).sum % 65536 = 0 := by
    rw [← BitVec.toNat_inj, wordSum_toNat, blockWords_map_toNat]
    rfl
  rw [loadGood, ← hsum, ← headerFails_eq_false_iff]
  simp [loadFails, and_assoc]

theorem bytesTaken_of_good {miso : List Bool} (h : headerGood miso) : bytesTaken miso = spelledWord miso 1 := by
  rw [bytesTaken, (headerFails_eq_false_iff miso).mpr h, ← blockLength_eq]
  rfl

theorem bytesTaken_of_bad {miso : List Bool} (h : ¬ headerGood miso) : bytesTaken miso = 4 := by
  rw [← headerFails_eq_false_iff, Bool.not_eq_false] at h
  rw [bytesTaken, h]
  rfl

/-- The bytes taken follow on the SPI pins what was sent (R37, R170). -/
theorem spiWaveOf_taken (selected : Bool) (p : Spi) (n : Nat) (hnone : p.taken = 0) :
    spiWaveOf ⟨selected, p.sent, n⟩
      = spiWaveOf p ++ (List.replicate (8 * n) [⟨false, none⟩, ⟨true, none⟩, ⟨false, none⟩]).flatten := by
  have hrest : (List.replicate (8 * n) (none : Option Bool)).flatMap spiBit
      = (List.replicate (8 * n) [⟨false, none⟩, ⟨true, none⟩, ⟨false, none⟩]).flatten := by
    rw [List.flatMap_replicate]
    rfl
  simp only [spiWaveOf, spiBits, hnone, Nat.mul_zero, List.replicate_zero, List.append_nil, List.flatMap_append, hrest]

/-! ### The first positions (R70) -/

theorem setPositionPin_pin (n : ArmId) (raw : Raw) (s : State) : positionPin n (setPositionPin n raw s) = raw := by
  cases n <;> rfl

theorem setPositionPin_arm (n m : ArmId) (raw : Raw) (s : State) : (setPositionPin n raw s).arm m = s.arm m := by
  cases n <;> cases m <;> rfl

theorem setPositionPin_faults (n : ArmId) (raw : Raw) (s : State) : (setPositionPin n raw s).faults = s.faults := by
  cases n <;> rfl

theorem setPositionPin_line (n : ArmId) (raw : Raw) (s : State) : (setPositionPin n raw s).line = s.line := by
  cases n <;> rfl

theorem setPositionPin_populated (n : ArmId) (raw : Raw) (s : State) (c : Channel) :
    populated c (setPositionPin n raw s) = populated c s := by cases n <;> rfl

theorem populated_withArm (c : Channel) (s : State) (n : ArmId) (a : Arm) : populated c (s.withArm n a) = populated c s := by
  cases n <;> rfl

theorem firstPosition_absent {b : StartBlock} {n : ArmId} {raw : Raw} {s : State}
    (h : populated (armChannel n) s = false) : firstPosition b n raw s = setPositionPin n raw s := by
  simp [firstPosition, setPositionPin_populated, h]

theorem positionPin_withArm (n : ArmId) (s : State) (a : Arm) : positionPin n (s.withArm n a) = positionPin n s := by
  cases n <;> rfl

theorem firstPosition_stowed {b : StartBlock} {n : ArmId} {raw : Raw} {s : State}
    (h : populated (armChannel n) s = true) (hspan : inSpan raw = true) (hstow : stowPosition b n ≤ raw.toNat) :
    firstPosition b n raw s
      = enterArm n .stowed false ((setPositionPin n raw s).withArm n { s.arm n with position := raw }) := by
  simp [firstPosition, setPositionPin_populated, setPositionPin_pin, setPositionPin_arm, positionPin_withArm, h, hspan,
    hstow]

theorem firstPosition_standing {b : StartBlock} {n : ArmId} {raw : Raw} {s : State}
    (h : populated (armChannel n) s = true) (hspan : inSpan raw = true) (hstow : raw.toNat < stowPosition b n) :
    firstPosition b n raw s = (setPositionPin n raw s).withArm n { s.arm n with position := raw } := by
  simp [firstPosition, setPositionPin_populated, setPositionPin_pin, setPositionPin_arm, positionPin_withArm, h, hspan,
    hstow]

theorem firstPosition_bad {b : StartBlock} {n : ArmId} {raw : Raw} {s : State}
    (h : populated (armChannel n) s = true) (hspan : inSpan raw = false) :
    firstPosition b n raw s
      = handOver (armFault n) true ((setPositionPin n raw s).withArm n { s.arm n with position := raw }) := by
  simp [firstPosition, setPositionPin_populated, setPositionPin_pin, setPositionPin_arm, positionPin_withArm, h, hspan]

theorem firstPosition_arm_other {b : StartBlock} {n m : ArmId} (hm : m ≠ n) {raw : Raw} {s : State} :
    (firstPosition b n raw s).arm m = s.arm m :=
  (firstPosition_keeps b n raw s).arm m (by cases m <;> cases n <;> simp_all [armPart])

theorem active_firstPosition_other {b : StartBlock} {n m : ArmId} (hm : m ≠ n) {raw : Raw} {s : State} :
    active (armFault m) (firstPosition b n raw s) = active (armFault m) s := by
  have hne : armFault m ≠ armFault n := by cases m <;> cases n <;> simp_all [armFault]
  simp only [firstPosition]
  split_ifs
  · exact active_congr (by simp [setPositionPin_faults]) _
  · exact active_congr (by simp [setPositionPin_faults]) _
  · rw [active_handOver_other hne]
    exact active_congr (by simp [setPositionPin_faults]) _
  · exact active_congr (setPositionPin_faults n raw s) _

theorem enterArm_alertSlot (n : ArmId) (st : ArmState) (r : Bool) (s : State) :
    (enterArm n st r s).line.alertSlot = s.line.alertSlot := by
  have hdue : ∀ u, (makeDue u).line.alertSlot = u.line.alertSlot := fun u => by
    unfold makeDue
    split <;> rfl
  simp only [enterArm, endOperations]
  split_ifs <;> simp [hdue, stopBrush]

/-- A first position that is GOOD leaves the ALERT slot. -/
theorem firstPosition_alertSlot {b : StartBlock} {n : ArmId} {raw : Raw} {s : State} (hspan : inSpan raw = true) :
    (firstPosition b n raw s).line.alertSlot = s.line.alertSlot := by
  have hpin := setPositionPin_line n raw s
  simp only [firstPosition, setPositionPin_pin, positionPin_withArm, hspan, if_true]
  split_ifs <;> simp [enterArm_alertSlot, hpin]

/-- From s to t an arm has read its first position (R70). -/
structure FirstRead (b : StartBlock) (n : ArmId) (raw : Raw) (s t : State) : Prop where
  absent : populated (armChannel n) s = false → t.arm n = s.arm n
  position : populated (armChannel n) s = true → (t.arm n).position = raw
  stowed : populated (armChannel n) s = true → inSpan raw = true → stowPosition b n ≤ raw.toNat →
    (t.arm n).state = .stowed
  standing : populated (armChannel n) s = true → inSpan raw = true → raw.toNat < stowPosition b n →
    (t.arm n).state = (s.arm n).state
  bad : populated (armChannel n) s = true → inSpan raw = false →
    (t.arm n).state = (s.arm n).state ∧ active (armFault n) t = true ∧ sticky (armFault n) t = true

theorem firstPosition_read (b : StartBlock) (n : ArmId) (raw : Raw) (s : State) :
    FirstRead b n raw s (firstPosition b n raw s) := by
  have harm : ∀ k (u : State), (handOver k true u).arm n = u.arm n := fun k u =>
    (handOver_keeps k true u).arm n (by cases n <;> decide)
  refine ⟨fun h => ?_, fun h => ?_, fun h hspan hstow => ?_, fun h hspan hstow => ?_, fun h hspan => ?_⟩
  · rw [firstPosition_absent h, setPositionPin_arm]
  · by_cases hspan : inSpan raw = true
    · by_cases hstow : stowPosition b n ≤ raw.toNat
      · rw [firstPosition_stowed h hspan hstow, enterArm_arm]
        simp [Arm.entered]
      · rw [firstPosition_standing h hspan (by omega)]
        simp
    · rw [firstPosition_bad h (by simpa using hspan), harm]
      simp
  · rw [firstPosition_stowed h hspan hstow, enterArm_arm]
    rfl
  · rw [firstPosition_standing h hspan hstow]
    simp
  · rw [firstPosition_bad h hspan, harm]
    exact ⟨by simp, active_handOver_present _ _, sticky_handOver_present _ _⟩

/-- What the first position of the other arm leaves. -/
theorem FirstRead.congr {b : StartBlock} {n : ArmId} {raw : Raw} {s t u v : State} (h : FirstRead b n raw s t)
    (hrole : u.start.role = s.start.role) (hbefore : u.arm n = s.arm n) (hafter : v.arm n = t.arm n)
    (hactive : active (armFault n) v = active (armFault n) t) (hsticky : sticky (armFault n) v = sticky (armFault n) t) :
    FirstRead b n raw u v := by
  have hpop : populated (armChannel n) u = populated (armChannel n) s := by
    unfold populated
    rw [hrole]
  obtain ⟨habsent, hposition, hstowed, hstanding, hbad⟩ := h
  constructor <;> rw [hpop, hafter]
  · rwa [hbefore]
  · exact hposition
  · exact hstowed
  · rwa [hbefore]
  · rwa [hbefore, hactive, hsticky]

/-- The state in which the first positions are read. -/
def listening (b : StartBlock) (s : State) : State :=
  s.withStart { s.start with station := .listening, image := some b, joinTimer := some 0 }

/-- Both first positions, ARM1 before ARM2 (R168). -/
def firstPositions (b : StartBlock) (arm1 arm2 : Raw) (s : State) : State :=
  firstPosition b .two arm2 (firstPosition b .one arm1 s)

theorem acceptStart_parts (b : StartBlock) (arm1 arm2 : Raw) (levels : BitVec 8) (s : State) :
    KeepsAllBut [.req, .drive] (firstPositions b arm1 arm2 (listening b s)) (acceptStart b arm1 arm2 levels s)
      ∧ (acceptStart b arm1 arm2 levels s).req.switches = firstLevels levels
      ∧ (acceptStart b arm1 arm2 levels s).drive.meas.bucketTimer = some 0 :=
  ⟨((State.withReq_keeps _ _).mono).trans ((State.withDrive_keeps _ _).mono), rfl, rfl⟩

theorem firstPositions_start (b : StartBlock) (arm1 arm2 : Raw) (s : State) :
    (firstPositions b arm1 arm2 s).start = s.start :=
  ((firstPosition_keeps b .two arm2 _).start).trans (firstPosition_keeps b .one arm1 s).start

theorem firstPositions_read (b : StartBlock) (arm1 arm2 : Raw) (s : State) :
    FirstRead b .one arm1 s (firstPositions b arm1 arm2 s) ∧ FirstRead b .two arm2 s (firstPositions b arm1 arm2 s) := by
  constructor
  · refine (firstPosition_read b .one arm1 s).congr rfl rfl ?_ ?_ ?_
    · exact firstPosition_arm_other (by decide)
    · exact active_firstPosition_other (m := .one) (by decide)
    · exact sticky_firstPosition_other (m := .one) (by decide)
  · refine (firstPosition_read b .two arm2 _).congr ?_ ?_ rfl rfl rfl
    · rw [(firstPosition_keeps b .one arm1 s).start]
    · exact (firstPosition_arm_other (by decide)).symm

/-- A trip that is handed over for the first time takes the ALERT slot (R163). -/
theorem handOver_alertSlot {k : FaultKind} (htrip : k.isTrip = true) {s : State} (hfirst : sticky k s = false) :
    (handOver k true s).line.alertSlot = some k := by
  simp [handOver_line, htrip, hfirst]

theorem armFault_isTrip (n : ArmId) : (armFault n).isTrip = true := by cases n <;> rfl

theorem firstPosition_bad_alertSlot {b : StartBlock} {n : ArmId} {raw : Raw} {s : State}
    (h : populated (armChannel n) s = true) (hspan : inSpan raw = false) (hfirst : sticky (armFault n) s = false) :
    (firstPosition b n raw s).line.alertSlot = some (armFault n) := by
  rw [firstPosition_bad h hspan, handOver_alertSlot (armFault_isTrip n)]
  rw [← hfirst]
  exact sticky_congr (by simp [setPositionPin_faults]) _

/-- The later hand-over keeps the slot where both arms read BAD (R164). -/
theorem firstPositions_alertSlot {b : StartBlock} {arm1 arm2 : Raw} {s : State} :
    (populated .arm1 s = true → inSpan arm1 = false → sticky .arm1Fault s = false → inSpan arm2 = true →
      (firstPositions b arm1 arm2 s).line.alertSlot = some .arm1Fault)
    ∧ (populated .arm2 s = true → inSpan arm2 = false → sticky .arm2Fault s = false →
      (firstPositions b arm1 arm2 s).line.alertSlot = some .arm2Fault) := by
  constructor
  · intro h hspan hfirst hother
    rw [firstPositions, firstPosition_alertSlot hother]
    exact firstPosition_bad_alertSlot (n := .one) h hspan hfirst
  · intro h hspan hfirst
    refine firstPosition_bad_alertSlot (n := .two) ?_ hspan ?_
    · unfold populated
      rw [(firstPosition_keeps b .one arm1 s).start]
      exact h
    · exact (sticky_firstPosition_other (m := .two) (by decide)).trans hfirst

/-! ### The load completion -/

theorem exec_loadCompletion {miso : List Bool} {arm1 arm2 : Raw} {levels : BitVec 8} {s : State}
    (hload : s.start.station = .loading) (hhigh : s.pins.resetN = true) :
    exec (.loadCompletion miso arm1 arm2 levels) s
      = .next (if loadFails s.start.number miso then failStart (endRead miso s)
          else acceptStart (imageOf s.start.number miso) arm1 arm2 levels (endRead miso s)) := by
  have hruns : loadRuns s = true := by simp [loadRuns, hload, hhigh]
  simp only [exec, execLoadCompletion, hruns, if_true]
  split <;> simp_all [endRead]

/-- A sticky trip pulls FAULT_N low (R164). -/
theorem faultAsserted_of_trip {k : FaultKind} (htrip : k.isTrip = true) {s : State} (h : sticky k s = true) :
    faultAsserted s = true := by
  have hmask : tripKinds.getLsbD k.num = true := by cases k <;> simp_all [FaultKind.isTrip] <;> rfl
  by_contra hnone
  have hzero : s.faults.sticky &&& tripKinds = 0 := by simpa [faultAsserted] using hnone
  have hbit : (s.faults.sticky &&& tripKinds).getLsbD k.num = true := by
    rw [BitVec.getLsbD_and, hmask, Bool.and_true]
    exact h
  rw [hzero] at hbit
  simp at hbit

/-- FAILED_START before CONFIG_BAD is handed over. -/
def failedQuiet (s : State) : State :=
  (s.withStart { s.start with station := .failedStart, image := none }).withLine
    { s.line with reportTimer := some 0, heldOff := s.line.heldOff || decide (s.start.number = 15) }

theorem failStart_eq (s : State) : failStart s = handOver .configBad true (failedQuiet s) := rfl

theorem failStart_line (s : State) :
    (failStart s).line.reportTimer = some 0 ∧ (s.start.number = 15 → (failStart s).line.heldOff = true)
      ∧ (sticky .configBad s = false → (failStart s).line.alertSlot = some .configBad) := by
  have hline : ∀ k u, (handOver k true u).line.reportTimer = u.line.reportTimer
      ∧ (handOver k true u).line.heldOff = u.line.heldOff := fun k u => by
    rw [handOver_line]
    split <;> exact ⟨rfl, rfl⟩
  rw [failStart_eq]
  refine ⟨(hline _ _).1, fun hnumber => ?_, fun hfirst => handOver_alertSlot rfl hfirst⟩
  rw [(hline _ _).2]
  simp [failedQuiet, hnumber]

theorem endRead_keeps (miso : List Bool) (s : State) : KeepsAllBut [.start] s (endRead miso s) :=
  State.withStart_keeps s _

/-- Settles O6. -/
theorem loadCompletionChecksTheBlock : Obligations.LoadCompletionChecksTheBlock := by
  unfold Obligations.LoadCompletionChecksTheBlock
  intro miso arm1 arm2 levels s hload hhigh
  extract_lets word header good
  have hheader : header ↔ headerGood miso := Iff.rfl
  have hgood : good ↔ loadFails s.start.number miso = false := (loadFails_eq_false_iff _ _).symm
  have htaken : bytesTaken miso = if header then word 1 else 4 := by
    split
    · next h => exact bytesTaken_of_good h
    · next h => exact bytesTaken_of_bad h
  have hread : ∀ t : State, t.start.spi = ⟨false, s.start.spi.sent, bytesTaken miso⟩ →
      t.start.spi.selected = false ∧ t.start.spi.taken = (if header then word 1 else 4)
      ∧ (s.start.spi.taken = 0 → (outputs t).spiWave = (outputs s).spiWave
          ++ (List.replicate (8 * t.start.spi.taken) [⟨false, none⟩, ⟨true, none⟩, ⟨false, none⟩]).flatten)
      ∧ (outputs t).spiSelected = false := by
    intro t ht
    refine ⟨by rw [ht], by rw [ht, ← htaken], fun hnone => ?_, by simp [outputs, ht]⟩
    simp only [outputs, ht]
    exact spiWaveOf_taken _ _ _ hnone
  refine ⟨_, exec_loadCompletion hload hhigh, ?_⟩
  by_cases hpass : loadFails s.start.number miso = false
  · rw [hpass, if_neg Bool.false_ne_true]
    obtain ⟨hparts, hswitches, hbucket⟩ := acceptStart_parts (imageOf s.start.number miso) arm1 arm2 levels (endRead miso s)
    have hstart : (acceptStart (imageOf s.start.number miso) arm1 arm2 levels (endRead miso s)).start
        = { (endRead miso s).start with
            station := .listening, image := some (imageOf s.start.number miso), joinTimer := some 0 } :=
      hparts.start.trans (firstPositions_start _ _ _ _)
    obtain ⟨hone, htwo⟩ := firstPositions_read (imageOf s.start.number miso) arm1 arm2
      (listening (imageOf s.start.number miso) (endRead miso s))
    obtain ⟨hslot1, hslot2⟩ := firstPositions_alertSlot (b := imageOf s.start.number miso) (arm1 := arm1) (arm2 := arm2)
      (s := listening (imageOf s.start.number miso) (endRead miso s))
    obtain ⟨hsel, htake, hwave, hsel'⟩ := hread _ (by rw [hstart]; rfl)
    refine ⟨hsel, htake, hwave, hsel', by rw [hstart]; rfl, by rw [hstart]; rfl, by rw [hstart]; rfl, fun _ => ?_,
      fun hnot => absurd (hgood.mpr hpass) hnot⟩
    refine ⟨by rw [hstart], by rw [hstart], by rw [hstart], hbucket, fun i => ?_, fun n => ?_⟩
    · rw [hswitches]
      simp [firstLevels]
    · have hfaults := hparts.faults
      have hline := hparts.line
      cases n with
      | one =>
        have h := hone.congr (u := s) rfl rfl (hparts.arm .one (by decide)) (active_congr hfaults _)
          (sticky_congr hfaults _)
        exact ⟨h.absent, fun hpop => ⟨h.position hpop, h.stowed hpop, h.standing hpop, fun hspan =>
          ⟨(h.bad hpop hspan).1, (h.bad hpop hspan).2.1, (h.bad hpop hspan).2.2, fun hfirst hother =>
            hline ▸ hslot1 hpop hspan hfirst (hother.resolve_left (by decide))⟩⟩⟩
      | two =>
        have h := htwo.congr (u := s) rfl rfl (hparts.arm .two (by decide)) (active_congr hfaults _)
          (sticky_congr hfaults _)
        exact ⟨h.absent, fun hpop => ⟨h.position hpop, h.stowed hpop, h.standing hpop, fun hspan =>
          ⟨(h.bad hpop hspan).1, (h.bad hpop hspan).2.1, (h.bad hpop hspan).2.2, fun hfirst _ =>
            hline ▸ hslot2 hpop hspan hfirst⟩⟩⟩
  · rw [Bool.not_eq_false] at hpass
    have hnot : ¬ good := by simp [hgood, hpass]
    rw [if_pos hpass]
    obtain ⟨htimer, hheld, hslot⟩ := failStart_line (endRead miso s)
    obtain ⟨hsel, htake, hwave, hsel'⟩ := hread (failStart (endRead miso s)) (by simp [failStart, endRead])
    have hsticky : sticky .configBad (failStart (endRead miso s)) = true := sticky_handOver_present _ _
    refine ⟨hsel, htake, hwave, hsel', by simp [failStart, endRead], by simp [failStart, endRead],
      by simp [failStart, endRead], fun h => absurd h hnot, fun _ => ?_⟩
    exact ⟨by simp [failStart], by simp [failStart], htimer, active_handOver_present _ _, hsticky,
      faultAsserted_of_trip (k := .configBad) rfl hsticky, hslot, hheld,
      ((endRead_keeps miso s).mono).trans (failStart_keeps _)⟩

end Sys2Proof.Machine
end

section
/-! SUPPORT. The parameters of an accepted block: each is spelled by its words and stands in its range (R171, R179). -/

namespace Sys2Proof.Machine

-- One thread elaborates this section, so that the check's memory limit holds the stacks.
set_option Elab.async false

/-- Word i as sixteen levels of SPI_MISO spell it. -/
def misoWord (miso : List Bool) (i : Nat) : Word := BitVec.ofNat 16 (spelledWord miso i)

/-- Byte i as eight levels of SPI_MISO spell it. -/
def misoByte (miso : List Bool) (i : Nat) : Byte :=
  BitVec.ofNat 8 (numOf ((List.range 8).map (fun k => miso.getD (8 * i + k) true)))

theorem misoWord_toNat (miso : List Bool) (i : Nat) : (misoWord miso i).toNat = spelledWord miso i := by
  rw [misoWord, BitVec.toNat_ofNat]
  exact Nat.mod_eq_of_lt (spelledWord_lt miso i)

/-- An accepted block holds the fixed part, and its words are those that SPI_MISO spells. -/
theorem blockWords_accepted {number : Nibble} {miso : List Bool} (h : loadFails number miso = false) :
    538 ≤ (blockWords miso).length ∧ ∀ i < 538, (blockWords miso).getD i 0 = misoWord miso i := by
  obtain ⟨-, ⟨-, hlong, -, -⟩, -⟩ := (loadFails_eq_false_iff _ _).mp h
  refine ⟨by simp only [blockWords, wordsOf_length, readBytes_length, blockLength_eq]; omega, fun i hi => ?_⟩
  refine BitVec.eq_of_toNat_eq ?_
  rw [misoWord_toNat, blockWords_getD miso i (by rw [blockLength_eq]; omega)]
  rfl

theorem takeByte_drop (miso : List Bool) (i : Nat) : takeByte (miso.drop (8 * i)) = misoByte miso i := by
  rw [takeByte, misoByte]
  refine congrArg _ (congrArg numOf (List.map_congr_left fun k _ => ?_))
  simp [List.getD_eq_getElem?_getD]

theorem bytes_of_wordOf (hi lo : Byte) : hiByte (wordOf hi lo) = hi ∧ loByte (wordOf hi lo) = lo := by
  have hhi := hi.isLt
  have hlo := lo.isLt
  constructor <;> refine BitVec.eq_of_toNat_eq ?_
  · rw [hiByte, BitVec.extractLsb'_toNat, wordOf_toNat, Nat.shiftRight_eq_div_pow]
    omega
  · rw [loByte, BitVec.extractLsb'_toNat, wordOf_toNat, Nat.shiftRight_eq_div_pow]
    omega

/-- The two bytes of a word of an accepted block. -/
theorem misoWord_bytes {number : Nibble} {miso : List Bool} (h : loadFails number miso = false) {i : Nat} (hi : i < 538) :
    hiByte (misoWord miso i) = misoByte miso (2 * i) ∧ loByte (misoWord miso i) = misoByte miso (2 * i + 1) := by
  obtain ⟨-, ⟨-, hlong, -, -⟩, -⟩ := (loadFails_eq_false_iff _ _).mp h
  have hlen : 2 * i + 1 < blockLength miso := by rw [blockLength_eq]; omega
  rw [← (blockWords_accepted h).2 i hi, blockWords, wordsOf_getD _ _ (by simpa using hlen),
    readBytes_getD _ _ _ (by omega), readBytes_getD _ _ _ hlen, takeByte_drop, takeByte_drop]
  exact bytes_of_wordOf _ _

/-! ### Ranges (R171) -/

theorem within_between {lo hi : Nat} (h : lo ≤ hi) (n : Nat) : between lo hi (within lo hi n) := by
  unfold between within
  omega

theorem within_le {hi : Nat} (n : Nat) : within 0 hi n ≤ hi := (within_between (Nat.zero_le hi) n).2

/-- A value taken at the step below stays between two ends that stand on steps. -/
theorem onStep_between {step lo hi n : Nat} (hstep : 0 < step) (hlo : step ∣ lo) (h : between lo hi n) :
    between lo hi (onStep step n) ∧ onStep step n % step = 0 := by
  obtain ⟨k, rfl⟩ := hlo
  obtain ⟨h1, h2⟩ := h
  refine ⟨⟨?_, (Nat.div_mul_le_self n step).trans h2⟩, Nat.mul_mod_left _ _⟩
  rw [onStep, Nat.mul_comm step k]
  exact Nat.mul_le_mul_right step ((Nat.le_div_iff_mul_le hstep).mpr (by rwa [Nat.mul_comm]))

theorem lineParamsOf_inRange (ws : List Word) : lineInRange (lineParamsOf ws) :=
  ⟨within_between (by decide) _, within_between (by decide) _, within_between (by decide) _,
    within_between (by decide) _, within_between (by decide) _, within_between (by decide) _,
    within_between (by decide) _, within_between (by decide) _⟩

theorem driveParamsOf_inRange (ws : List Word) : driveInRange (driveParamsOf ws) := by
  have hpark := onStep_between (step := 10) (by decide) (by decide) (within_between (show 0 ≤ 5000 by decide) (wordAt ws 17))
  have hdwell := onStep_between (step := 10) (by decide) (by decide)
    (within_between (show 100 ≤ 2000 by decide) (wordAt ws 18))
  exact ⟨within_le _, within_le _, within_le _, within_le _, within_le _, within_le _, within_le _, hpark.1.2, hpark.2,
    hdwell.1, hdwell.2, within_le _, within_le _, within_le _, within_le _, within_le _, within_le _⟩

theorem armParamsOf_inRange (ws : List Word) : armsInRange (armParamsOf ws) := by
  have hmove := onStep_between (step := 100) (by decide) (by decide)
    (within_between (show 1000 ≤ 15000 by decide) (wordAt ws 29))
  have hblind := onStep_between (step := 100) (by decide) (by decide)
    (within_between (show 0 ≤ 10000 by decide) (wordAt ws 30))
  exact ⟨within_between (by decide) _, within_between (by decide) _, within_between (by decide) _,
    within_between (by decide) _, hmove.1, hmove.2, hblind.1.2, hblind.2, within_le _, within_le _, within_le _⟩

theorem waterParamsOf_inRange (ws : List Word) : waterInRange (waterParamsOf ws) := by
  have hprime := onStep_between (step := 100) (by decide) (by decide)
    (within_between (show 1000 ≤ 20000 by decide) (wordAt ws 37))
  have hloss := onStep_between (step := 100) (by decide) (by decide)
    (within_between (show 500 ≤ 5000 by decide) (wordAt ws 38))
  have hdry := within_between (show 5 ≤ 120 by decide) (wordAt ws 39)
  refine ⟨within_between (by decide) _, within_between (by decide) _, within_between (by decide) _, hprime.1, hprime.2,
    hloss.1, hloss.2, ?_, ?_, within_le _⟩
  · unfold between at *
    simp only [waterParamsOf]
    omega
  · simp [waterParamsOf]

/-! ### Curves, rules and the pattern -/

theorem wordAt_drop (ws : List Word) (d i : Nat) : wordAt (ws.drop d) i = wordAt ws (d + i) := by
  simp [wordAt, List.getD_eq_getElem?_getD]

theorem getD_drop (ws : List Word) (d i : Nat) : (ws.drop d).getD i 0 = ws.getD (d + i) 0 := by
  simp [List.getD_eq_getElem?_getD]

/-- How many points a curve has (R4). -/
theorem curveOf_points_length {ws : List Word} (h : 19 ≤ ws.length) :
    (curveOf ws).points.length = bitsAt (wordAt ws 1) 0 4 + 2 := by
  have hcount : bitsAt (wordAt ws 1) 0 4 < 16 := Nat.mod_lt _ (by decide)
  simp only [curveOf, List.length_map, List.length_take, List.length_drop]
  omega

theorem curveOf_inRange {ws : List Word} (h : 19 ≤ ws.length) : curveInRange (curveOf ws) := by
  have hcount : bitsAt (wordAt ws 1) 0 4 < 16 := Nat.mod_lt _ (by decide)
  have hlen := curveOf_points_length h
  have hmin := BitVec.le_toInt (ws.getD 0 0)
  have hmax := BitVec.toInt_lt (x := ws.getD 0 0)
  refine ⟨hmin, by simp only [curveOf]; omega, by simp only [curveOf]; omega, by omega, by omega, ?_⟩
  intro y hy
  simp only [curveOf, List.mem_map] at hy
  obtain ⟨w, -, rfl⟩ := hy
  have : bitsAt w.toNat 0 12 < 2 ^ 12 := Nat.mod_lt _ (by decide)
  omega

theorem curveOf_points {ws : List Word} (h : 19 ≤ ws.length) :
    (curveOf ws).points = (List.range (wordAt ws 1 % 16 + 2)).map (fun i => wordAt ws (2 + i) % 4096) := by
  have hlen := curveOf_points_length h
  have hbits : bitsAt (wordAt ws 1) 0 4 = wordAt ws 1 % 16 := by simp [bitsAt]
  refine List.ext_getElem (by simp [hlen, hbits]) fun i hi hi' => ?_
  have hbound : 2 + i < ws.length := by
    rw [hlen] at hi
    have hcount : bitsAt (wordAt ws 1) 0 4 < 16 := Nat.mod_lt _ (by decide)
    omega
  simp only [curveOf, List.getElem_map, List.getElem_take, List.getElem_drop, List.getElem_range, wordAt,
    List.getD_eq_getElem _ _ hbound]
  simp [bitsAt]

theorem quantityOf_eq (n : Nat) : quantityOf n
    = [TestQuantity.travelAbs, .engineDroop, .tankLevel, .loopPressure, .armPosition, .brushSum].getD n .brushSum := by
  match n with
  | 0 | 1 | 2 | 3 | 4 | 5 => rfl
  | n + 6 => simp [quantityOf]

theorem conditionOf_eq {n : Nat} (h : n < 8) : conditionOf n
    = [Condition.always, .gt, .eq, .lt, .never, .ge, .ne, .le].getD n .always := by
  interval_cases n <;> rfl

theorem mixOf_eq (n : Nat) : mixOf n = [Mix.a, .b, .min, .max, .sum, .diff, .avg].getD n .zero := by
  match n with
  | 0 | 1 | 2 | 3 | 4 | 5 | 6 => rfl
  | n + 7 => simp [mixOf]

theorem slotsOf_toNat (w : Word) (i : Fin 4) : ((slotsOf w).getD i.val 0).toNat = w.toNat / 16 ^ (3 - i.val) % 16 := by
  fin_cases i <;> simp [slotsOf, BitVec.extractLsb'_toNat, Nat.shiftRight_eq_div_pow]

/-- Slot 4 a + b is slot b of word a. -/
theorem flatMap_slotsOf_getD (ws : List Word) (a b : Nat) (hb : b < 4) (ha : a < ws.length) :
    (ws.flatMap slotsOf).getD (4 * a + b) 0 = (slotsOf (ws.getD a 0)).getD b 0 := by
  have hfour : ∀ w, (slotsOf w).length = 4 := fun _ => rfl
  induction ws generalizing a with
  | nil => simp at ha
  | cons w ws ih =>
    rw [List.flatMap_cons]
    cases a with
    | zero =>
      rw [List.getD_append _ _ _ _ (by rw [hfour]; omega)]
      simp
    | succ a =>
      rw [List.getD_append_right _ _ _ _ (by rw [hfour]; omega), hfour, show 4 * (a + 1) + b - 4 = 4 * a + b by omega,
        ih a (by simpa using ha), List.getD_cons_succ]

theorem pattern_slot {ws : List Word} (h : 100 ≤ ws.length) (i : Fin 16) :
    ((bankOf ws).pattern.getD i.val 0).toNat = wordAt ws (95 + i.val / 4) / 16 ^ (3 - i.val % 4) % 16 := by
  have hlt := i.isLt
  have hsplit : i.val = 4 * (i.val / 4) + i.val % 4 := (Nat.div_add_mod _ _).symm
  have hword : ((ws.drop 95).take 4).getD (i.val / 4) 0 = ws.getD (95 + i.val / 4) 0 := by
    rw [← getD_drop]
    simp only [List.getD_eq_getElem?_getD]
    rw [List.getElem?_take_of_lt (by omega)]
  rw [bankOf, hsplit, flatMap_slotsOf_getD _ _ _ (by omega) (by simp; omega), hword, ← hsplit]
  exact slotsOf_toNat _ ⟨i.val % 4, by omega⟩

theorem pattern_length {ws : List Word} (h : 100 ≤ ws.length) : (bankOf ws).pattern.length = 16 := by
  have hfour : ∀ l : List Word, (l.flatMap slotsOf).length = 4 * l.length := fun l => by
    induction l with
    | nil => rfl
    | cons w l ih =>
      rw [List.flatMap_cons, List.length_append, ih, List.length_cons, Nat.mul_succ, Nat.add_comm]
      rfl
  rw [bankOf, hfour, List.length_take, List.length_drop]
  omega

theorem bankOf_inRange {ws : List Word} (h : 100 ≤ ws.length) : bankInRange (bankOf ws) := by
  have hdrop : ∀ d, d ≤ 81 → 19 ≤ (ws.drop d).length := fun d hd => by simp; omega
  have hcompare : ∀ l, (ruleOf l).compare ≤ 65535 := fun l => by
    have := (l.getD 1 0).isLt
    simp only [ruleOf, wordAt]
    omega
  refine ⟨curveOf_inRange (by omega), curveOf_inRange (hdrop 19 (by omega)), curveOf_inRange (hdrop 38 (by omega)),
    curveOf_inRange (hdrop 57 (by omega)), ⟨within_le _, within_le _⟩, ⟨within_le _, within_le _⟩,
    ⟨within_le _, within_le _⟩, ⟨within_le _, within_le _⟩, ⟨within_le _, within_le _⟩, ⟨within_le _, within_le _⟩,
    within_le _, hcompare _, hcompare _, within_le _, within_le _, pattern_length h, within_le _⟩

theorem slotOf_inRange (number : Nibble) (ws : List Word) (x : SwitchSlot) (h : slotOf number ws = some x) :
    x.dest ≠ 15 ∧ x.dest ≠ number := by
  simp only [slotOf] at h
  split at h
  · cases h
  · next hused =>
    cases h
    simp only [not_or] at hused
    exact hused.2

theorem imageOf_inRange {number : Nibble} {miso : List Bool} (h : loadFails number miso = false) :
    imageInRange number (imageOf number miso) := by
  have hlen := (blockWords_accepted h).1
  have hbank : ∀ c, c ≤ 341 → bankInRange (bankOf ((blockWords miso).drop c)) := fun c hc =>
    bankOf_inRange (by rw [List.length_drop]; omega)
  refine ⟨lineParamsOf_inRange _, driveParamsOf_inRange _, armParamsOf_inRange _, waterParamsOf_inRange _,
    hbank 41 (by omega), hbank 141 (by omega), hbank 241 (by omega), hbank 341 (by omega), by simp [imageOf], ?_⟩
  intro x hx
  simp only [imageOf, List.mem_map] at hx
  obtain ⟨k, -, hk⟩ := hx
  exact slotOf_inRange _ _ _ hk

/-! ### The words of each parameter -/

/-- The bank that the words from word c on spell (R2, R179). -/
def BankSpelled (word : Nat → Word) (c : Nat) (k : Bank) : Prop :=
  let w := fun i : Nat => (word i).toNat
  let held := fun lo hi i : Nat => max lo (min hi (w i))
  let times := fun i : Nat => (⟨held 0 6000 i, held 0 6000 (i + 1)⟩ : RampTimes)
  let pair := fun i : Nat => (⟨held 0 4000 i, held 0 4000 (i + 1)⟩ : DeratePair)
  (∀ x ∈ [(k.pedal, c), (k.feed, c + 19), (k.brush, c + 38), (k.water, c + 57)],
    x.1.x0 = (word x.2).toInt ∧ x.1.shift = min 11 (w (x.2 + 1) / 16 % 16)
      ∧ x.1.points = (List.range (w (x.2 + 1) % 16 + 2)).map (fun i => w (x.2 + 2 + i) % 4096))
  ∧ k.drvTimes = times (c + 76) ∧ k.brTimes = times (c + 78) ∧ k.wtrTimes = times (c + 80)
  ∧ k.drvPair = pair (c + 82) ∧ k.brPair = pair (c + 84) ∧ k.wtrPair = pair (c + 86)
  ∧ k.blindShare = held 0 256 (c + 88)
  ∧ (∀ x ∈ [(k.brRule, c + 89), (k.wtrRule, c + 91)],
    x.1.quantity = [TestQuantity.travelAbs, .engineDroop, .tankLevel, .loopPressure, .armPosition,
        .brushSum].getD (w x.2 / 4096 % 8) .brushSum
      ∧ x.1.code = [Condition.always, .gt, .eq, .lt, .never, .ge, .ne, .le].getD
          (w x.2 / 256 % 8) .always
      ∧ x.1.fg = [Mix.a, .b, .min, .max, .sum, .diff, .avg].getD (w x.2 / 16 % 16) .zero
      ∧ x.1.bg = [Mix.a, .b, .min, .max, .sum, .diff, .avg].getD (w x.2 % 16) .zero
      ∧ x.1.compare = w (x.2 + 1))
  ∧ k.waterTrim = held 0 4095 (c + 93) ∧ k.primeCommand = held 0 4095 (c + 94)
  ∧ (∀ i : Fin 16, (k.pattern.getD i.val 0).toNat
      = w (c + 95 + i.val / 4) / 16 ^ (3 - i.val % 4) % 16)
  ∧ k.blindCommand = held 0 4095 (c + 99)

section
variable {ws : List Word} {word : Nat → Word}

/-- A curve is spelled by its 19 words (R4). -/
theorem curveOf_spelled {d : Nat} (hlen : d + 19 ≤ ws.length) (h : ∀ i < 19, ws.getD (d + i) 0 = word (d + i)) :
    (curveOf (ws.drop d)).x0 = (word d).toInt ∧ (curveOf (ws.drop d)).shift = min 11 ((word (d + 1)).toNat / 16 % 16)
      ∧ (curveOf (ws.drop d)).points
        = (List.range ((word (d + 1)).toNat % 16 + 2)).map (fun i => (word (d + 2 + i)).toNat % 4096) := by
  have hat : ∀ i < 19, wordAt (ws.drop d) i = (word (d + i)).toNat := fun i hi => by
    rw [wordAt_drop, wordAt, h i hi]
  refine ⟨?_, ?_, ?_⟩
  · simp only [curveOf, getD_drop]
    rw [h 0 (by decide)]
    rfl
  · simp only [curveOf, hat 1 (by decide), bitsAt]
    rfl
  · rw [curveOf_points (by rw [List.length_drop]; omega), hat 1 (by decide)]
    refine List.map_congr_left fun i hi => ?_
    rw [List.mem_range] at hi
    rw [hat (2 + i) (by omega), Nat.add_assoc]

/-- A blend rule is spelled by its two words (R8). -/
theorem ruleOf_spelled {d : Nat} (h : ∀ i < 2, ws.getD (d + i) 0 = word (d + i)) :
    (ruleOf (ws.drop d)).quantity = [TestQuantity.travelAbs, .engineDroop, .tankLevel, .loopPressure, .armPosition,
        .brushSum].getD ((word d).toNat / 4096 % 8) .brushSum
      ∧ (ruleOf (ws.drop d)).code = [Condition.always, .gt, .eq, .lt, .never, .ge, .ne, .le].getD
          ((word d).toNat / 256 % 8) .always
      ∧ (ruleOf (ws.drop d)).fg
        = [Mix.a, .b, .min, .max, .sum, .diff, .avg].getD ((word d).toNat / 16 % 16) .zero
      ∧ (ruleOf (ws.drop d)).bg = [Mix.a, .b, .min, .max, .sum, .diff, .avg].getD ((word d).toNat % 16) .zero
      ∧ (ruleOf (ws.drop d)).compare = (word (d + 1)).toNat := by
  have hzero : wordAt (ws.drop d) 0 = (word d).toNat := by
    rw [wordAt_drop, wordAt, h 0 (by decide), Nat.add_zero]
  have hone : wordAt (ws.drop d) 1 = (word (d + 1)).toNat := by rw [wordAt_drop, wordAt, h 1 (by decide)]
  simp only [ruleOf, hzero, hone, bitsAt, quantityOf_eq, mixOf_eq]
  refine ⟨rfl, conditionOf_eq (Nat.mod_lt _ (by decide)), rfl, ?_, trivial⟩
  rw [pow_zero, Nat.div_one]
  rfl

theorem bankOf_spelled {c : Nat} (hlen : c + 100 ≤ ws.length) (h : ∀ i < 100, ws.getD (c + i) 0 = word (c + i)) :
    BankSpelled word c (bankOf (ws.drop c)) := by
  have hat : ∀ i < 100, wordAt (ws.drop c) i = (word (c + i)).toNat := fun i hi => by
    rw [wordAt_drop, wordAt, h i hi]
  have hwithin : ∀ lo hi i, i < 100 → within lo hi (wordAt (ws.drop c) i) = max lo (min hi (word (c + i)).toNat) :=
    fun lo hi i hi' => by rw [hat i hi', within]
  have hcurve : ∀ d, d ≤ 81 → _ := fun d hd =>
    curveOf_spelled (ws := ws) (word := word) (d := c + d) (by omega) (fun i hi => by rw [Nat.add_assoc, h _ (by omega)])
  have hrule : ∀ d, d ≤ 98 → _ := fun d hd =>
    ruleOf_spelled (ws := ws) (word := word) (d := c + d) (fun i hi => by rw [Nat.add_assoc, h _ (by omega)])
  unfold BankSpelled
  extract_lets w held times pair
  refine ⟨?_, ?_, ?_, ?_, ?_, ?_, ?_, hwithin _ _ 88 (by decide), ?_, hwithin _ _ 93 (by decide),
    hwithin _ _ 94 (by decide), fun i => ?_, hwithin _ _ 99 (by decide)⟩
  · simp only [List.forall_mem_cons, List.not_mem_nil, false_imp_iff, implies_true, and_true, bankOf, List.drop_drop]
    exact ⟨hcurve 0 (by decide), hcurve 19 (by decide), hcurve 38 (by decide), hcurve 57 (by decide)⟩
  · exact congrArg₂ RampTimes.mk (hwithin _ _ 76 (by decide)) (hwithin _ _ 77 (by decide))
  · exact congrArg₂ RampTimes.mk (hwithin _ _ 78 (by decide)) (hwithin _ _ 79 (by decide))
  · exact congrArg₂ RampTimes.mk (hwithin _ _ 80 (by decide)) (hwithin _ _ 81 (by decide))
  · exact congrArg₂ DeratePair.mk (hwithin _ _ 82 (by decide)) (hwithin _ _ 83 (by decide))
  · exact congrArg₂ DeratePair.mk (hwithin _ _ 84 (by decide)) (hwithin _ _ 85 (by decide))
  · exact congrArg₂ DeratePair.mk (hwithin _ _ 86 (by decide)) (hwithin _ _ 87 (by decide))
  · simp only [List.forall_mem_cons, List.not_mem_nil, false_imp_iff, implies_true, and_true, bankOf, List.drop_drop]
    exact ⟨hrule 89 (by decide), hrule 91 (by decide)⟩
  · have hlt := i.isLt
    rw [pattern_slot (by rw [List.length_drop]; omega), hat _ (by omega), ← Nat.add_assoc]

end

/-- A slot is used where bit 15 of its first word is set and its destination is another station (R133, R179). -/
theorem slotOf_spelled (number : Nibble) (w0 w1 w2 : Word) (rest : List Word) :
    slotOf number (w0 :: w1 :: w2 :: rest)
      = if 32768 ≤ w0.toNat ∧ BitVec.ofNat 4 (w0.toNat / 256) ≠ 15 ∧ BitVec.ofNat 4 (w0.toNat / 256) ≠ number then
          some ⟨BitVec.ofNat 4 (w0.toNat / 256), BitVec.ofNat 4 w0.toNat, [hiByte w1, loByte w1, hiByte w2, loByte w2]⟩
        else none := by
  have hdest : w0.extractLsb' 8 4 = BitVec.ofNat 4 (w0.toNat / 256) := by
    refine BitVec.eq_of_toNat_eq ?_
    simp [BitVec.extractLsb'_toNat, Nat.shiftRight_eq_div_pow]
  have hkind : w0.extractLsb' 0 4 = BitVec.ofNat 4 w0.toNat := by
    refine BitVec.eq_of_toNat_eq ?_
    simp [BitVec.extractLsb'_toNat]
  have htop : w0.getLsbD 15 = false ↔ ¬ 32768 ≤ w0.toNat := by
    have hlt := w0.isLt
    rw [BitVec.getLsbD, Nat.testBit_eq_decide_div_mod_eq, decide_eq_false_iff_not]
    omega
  simp only [slotOf, List.getD_cons_zero, List.getD_cons_succ, hdest, hkind, htop]
  split_ifs with hunused hused hused
  · tauto
  · rfl
  · rfl
  · tauto

theorem slotOf_cons (number : Nibble) (ws : List Word) :
    slotOf number ws = slotOf number [ws.getD 0 0, ws.getD 1 0, ws.getD 2 0] := rfl

/-- Settles O7. -/
theorem acceptedParametersAreInRange : Obligations.AcceptedParametersAreInRange := by
  unfold Obligations.AcceptedParametersAreInRange
  intro number miso hpass
  extract_lets image spelled word byte w held stepped
  obtain ⟨hlen, hwords⟩ := blockWords_accepted hpass
  have hword : ∀ i, misoWord miso i = word i := fun _ => rfl
  have hat : ∀ i < 538, wordAt (blockWords miso) i = w i := fun i hi => by rw [wordAt, hwords i hi]; rfl
  have hheld : ∀ lo hi i, i < 538 → within lo hi (wordAt (blockWords miso) i) = held lo hi i := fun lo hi i hi' => by
    rw [hat i hi', within]
  have hbank : ∀ c, c ≤ 341 → BankSpelled word c (bankOf ((blockWords miso).drop c)) := fun c hc =>
    bankOf_spelled (by omega) (fun i hi => by rw [hwords _ (by omega), hword])
  refine ⟨imageOf_inRange hpass, ?_, ?_, ?_, ?_, ?_, ?_⟩
  · simp (discharger := omega) only [image, imageOf, lineParamsOf, hheld]
  · simp (discharger := omega) only [image, imageOf, driveParamsOf, hheld, stepped, onStep]
  · simp (discharger := omega) only [image, imageOf, armParamsOf, hheld, stepped, onStep]
  · simp (discharger := omega) only [image, imageOf, waterParamsOf, hheld, stepped, onStep]
  · intro m c hmc
    simp only [List.mem_cons, Prod.mk.injEq, List.not_mem_nil, or_false] at hmc
    rcases hmc with ⟨rfl, rfl⟩ | ⟨rfl, rfl⟩ | ⟨rfl, rfl⟩ | ⟨rfl, rfl⟩
    · exact hbank 41 (by decide)
    · exact hbank 141 (by decide)
    · exact hbank 241 (by decide)
    · exact hbank 341 (by decide)
  · intro k dest used
    have hk := k.isLt
    have hslot : image.switchMap.getD k.val none
        = slotOf number [word (441 + 3 * k.val), word (442 + 3 * k.val), word (443 + 3 * k.val)] := by
      have hfirst : image.switchMap.getD k.val none = slotOf number ((blockWords miso).drop (441 + 3 * k.val)) := by
        simp [image, imageOf, List.getD_eq_getElem?_getD, hk]
      rw [hfirst, slotOf_cons, getD_drop, getD_drop, getD_drop, hwords _ (by omega), hwords _ (by omega),
        hwords _ (by omega), hword, hword, hword, show 441 + 3 * k.val + 1 = 442 + 3 * k.val by omega,
        show 441 + 3 * k.val + 2 = 443 + 3 * k.val by omega, Nat.add_zero]
    obtain ⟨hhi1, hlo1⟩ := misoWord_bytes hpass (i := 442 + 3 * k.val) (by omega)
    obtain ⟨hhi2, hlo2⟩ := misoWord_bytes hpass (i := 443 + 3 * k.val) (by omega)
    have hbyte : ∀ i, misoByte miso i = byte i := fun _ => rfl
    rw [hword, hbyte] at hhi1 hlo1 hhi2 hlo2
    rw [hslot, slotOf_spelled, hhi1, hlo1, hhi2, hlo2, show 2 * (442 + 3 * k.val) = 884 + 6 * k.val by omega,
      show 2 * (443 + 3 * k.val) = 886 + 6 * k.val by omega, show 884 + 6 * k.val + 1 = 885 + 6 * k.val by omega,
      show 886 + 6 * k.val + 1 = 887 + 6 * k.val by omega]
    exact ⟨fun hused => if_pos hused, fun hused => if_neg hused⟩

end Sys2Proof.Machine
end

section
/-! SUPPORT. The ramp: one step toward its target, and full scale in its time (R12–R15). -/

namespace Sys2Proof.Machine

-- One thread elaborates this section, so that the check's memory limit holds the stacks.
set_option Elab.async false

/-- The phases a step of the ramp runs in (R12). -/
theorem Ramp.step_rising {r : Ramp} {full : Nat} {times : RampTimes} {t : Int}
    (h : r.out.natAbs < (effectiveTarget r.out t).natAbs) :
    r.step full times t = r.move full .rising times.rise (effectiveTarget r.out t) := by
  simp [Ramp.step, h]

theorem Ramp.step_falling {r : Ramp} {full : Nat} {times : RampTimes} {t : Int}
    (h : (effectiveTarget r.out t).natAbs ≤ r.out.natAbs) (hne : effectiveTarget r.out t ≠ r.out) :
    r.step full times t = r.move full .falling times.fall (effectiveTarget r.out t) := by
  simp [Ramp.step, Nat.not_lt.mpr h, hne]

theorem Ramp.step_standing {r : Ramp} {full : Nat} {times : RampTimes} {t : Int} (h : effectiveTarget r.out t = r.out) :
    r.step full times t = r.arrive r.out := by
  simp [Ramp.step, h]

/-- A moving period under a time ends at its target or one advance nearer (R14). -/
theorem Ramp.move_of_pos {r : Ramp} {full : Nat} {ph : Phase} {t : Nat} (ht : 0 < t) (target : Int) :
    r.move full ph t target
      = if toward r.out target (r.prepared full ph t).advance.1 = target then (r.prepared full ph t).arrive target
        else { r.prepared full ph t with
          out := toward r.out target (r.prepared full ph t).advance.1, err := (r.prepared full ph t).advance.2 } := by
  simp only [Ramp.move, Nat.ne_of_gt ht, if_false, Ramp.prepared_out]

theorem Ramp.move_arrives {r : Ramp} {full : Nat} {ph : Phase} {t : Nat} {target : Int}
    (h : (r.move full ph t target).out = target) :
    (r.move full ph t target).phase = .atTarget ∧ (r.move full ph t target).err = 0
      ∧ (r.move full ph t target).setUp = false := by
  rcases Nat.eq_zero_or_pos t with rfl | ht
  · exact ⟨rfl, rfl, rfl⟩
  · rw [Ramp.move_of_pos ht] at h ⊢
    split at h
    · next harrive => rw [if_pos harrive]; exact ⟨rfl, rfl, rfl⟩
    · next hnot => exact absurd h hnot

/-- At its target a ramp is AT_TARGET, with no error and not set up (R12, R14). -/
theorem Ramp.step_arrives {r : Ramp} {full : Nat} {times : RampTimes} {t : Int}
    (h : (r.step full times t).out = effectiveTarget r.out t) :
    (r.step full times t).phase = .atTarget ∧ (r.step full times t).err = 0 ∧ (r.step full times t).setUp = false := by
  by_cases hstand : effectiveTarget r.out t = r.out
  · rw [Ramp.step_standing hstand]
    exact ⟨rfl, rfl, rfl⟩
  · by_cases hrise : r.out.natAbs < (effectiveTarget r.out t).natAbs
    · rw [Ramp.step_rising hrise] at h ⊢
      exact Ramp.move_arrives h
    · rw [Ramp.step_falling (Nat.not_lt.mp hrise) hstand] at h ⊢
      exact Ramp.move_arrives h

theorem Ramp.move_zero (r : Ramp) (full : Nat) (ph : Phase) (target : Int) :
    (r.move full ph 0 target).out = target := rfl

theorem effectiveTarget_opposite {o t : Int} (h : (0 < o ∧ t < 0) ∨ (o < 0 ∧ 0 < t)) : effectiveTarget o t = 0 := if_pos h

theorem effectiveTarget_same {o t : Int} (h : ¬ ((0 < o ∧ t < 0) ∨ (o < 0 ∧ 0 < t))) : effectiveTarget o t = t := if_neg h

/-- The advance of a prepared ramp, with its error term after it (R13, R14). -/
theorem Ramp.advance_eq (p : Ramp) :
    (p.advance.1 : Int) = (if 0 ≤ p.err then (p.q : Int) + 1 else p.q)
      ∧ p.advance.2 = if 0 ≤ p.err then p.err + p.k2 else p.err + p.k1 := by
  unfold Ramp.advance
  split <;> simp

/-- The state a moving period leaves short of its target. -/
theorem Ramp.move_short {r : Ramp} {full : Nat} {ph : Phase} {t : Nat} (ht : 0 < t) {target : Int}
    (h : (r.move full ph t target).out ≠ target) :
    r.move full ph t target = { r.prepared full ph t with
      out := (r.move full ph t target).out, err := (r.prepared full ph t).advance.2 } := by
  rw [Ramp.move_of_pos ht] at h ⊢
  split at h
  · exact absurd rfl h
  · next hnot => rw [if_neg hnot]

theorem Ramp.move_toward {r : Ramp} {full : Nat} {ph : Phase} {t : Nat} (ht : 0 < t) (target : Int) :
    (r.move full ph t target).out = toward r.out target (r.prepared full ph t).advance.1 := by
  rw [Ramp.move_of_pos ht]
  split
  · next h => rw [h]; rfl
  · rfl

/-- Settles O11: below, at and above the target a step is a moving period or a standing one. -/
theorem rampStepStopsAtTargetAndZero : Obligations.RampStepStopsAtTargetAndZero := by
  unfold Obligations.RampStepStopsAtTargetAndZero
  intro r full times t o target o'
  obtain ⟨hup, hdown⟩ := Ramp.step_between r full times t
  have hcases := effectiveTarget_cases r.out t
  have hopposite : (0 < r.out ∧ t < 0) ∨ (r.out < 0 ∧ 0 < t) → target = 0 := effectiveTarget_opposite
  have hsame : ¬ ((0 < r.out ∧ t < 0) ∨ (r.out < 0 ∧ 0 < t)) → target = t := effectiveTarget_same
  refine ⟨hup, hdown, fun hpos => ?_, fun hneg => ?_, hopposite, hsame, Ramp.step_arrives, fun hlt hzero => ?_,
    fun hge hzero => ?_, fun ph time htime hphase => ?_, fun x => rfl⟩
  · have htarget : 0 ≤ target := by
      by_cases ht : t < 0
      · rw [hopposite (.inl ⟨hpos, ht⟩)]
      · rcases hcases with h | h <;> simp only [target, o, h] <;> omega
    rcases le_total o target with hle | hle
    · exact hpos.le.trans (hup hle).1
    · exact htarget.trans (hdown hle).1
  · have htarget : target ≤ 0 := by
      by_cases ht : 0 < t
      · rw [hopposite (.inr ⟨hneg, ht⟩)]
      · rcases hcases with h | h <;> simp only [target, o, h] <;> omega
    rcases le_total o target with hle | hle
    · exact (hup hle).2.trans htarget
    · exact (hdown hle).2.trans hneg.le
  · simp only [o', Ramp.step_rising hlt, hzero]
    rfl
  · by_cases hstand : target = o
    · simp only [o', Ramp.step_standing hstand]
      exact hstand.symm
    · simp only [o', Ramp.step_falling hge hstand, hzero]
      rfl
  · intro rem fresh p advance
    have hp : p = r.prepared full ph time := rfl
    have hstep : r.step full times t = r.move full ph time target := by
      rcases hphase with ⟨rfl, hlt, rfl⟩ | ⟨rfl, hge, hne, rfl⟩
      · exact Ramp.step_rising hlt
      · exact Ramp.step_falling hge hne
    obtain ⟨hadvance, herr⟩ := Ramp.advance_eq p
    constructor
    · have hout : o' = toward o target p.advance.1 := by
        simp only [o', hstep]
        exact Ramp.move_toward htime target
      rw [hout, toward, hadvance]
    · intro hne
      rw [hstep, Ramp.move_short htime (by rw [← hstep]; exact hne), ← hp, herr, ← hstep]

/-! ### Full scale in its time -/

/-- The advances of n periods are n times the quotient and one more for each long one (R14). -/
theorem advanceSum_eq (n : Nat) (r : Ramp) : advanceSum n r = n * r.q + longAdvances n r := by
  induction n generalizing r with
  | zero => simp [advanceSum, longAdvances]
  | succ n ih =>
    rw [advanceSum, longAdvances, ih]
    simp only [Ramp.advance]
    split <;> simp <;> ring

/-- The error term stays within one turn of its circle, of which each long advance takes one off (R13, R14). -/
theorem longAdvances_bounds {rem t : Nat} (hrem : rem < t) (n : Nat) (r : Ramp) (hk1 : r.k1 = 2 * (rem : Int))
    (hk2 : r.k2 = 2 * ((rem : Int) - t)) (hlow : 2 * (rem : Int) - 2 * t ≤ r.err) (hhigh : r.err < 2 * rem) :
    2 * (rem : Int) - 2 * t ≤ r.err + 2 * rem * n - 2 * t * longAdvances n r
      ∧ r.err + 2 * rem * n - 2 * t * longAdvances n r < 2 * (rem : Int) := by
  induction n generalizing r with
  | zero =>
    simp only [longAdvances, Nat.cast_zero, mul_zero, sub_zero, add_zero]
    exact ⟨hlow, hhigh⟩
  | succ n ih =>
    rw [longAdvances]
    by_cases hlong : 0 ≤ r.err
    · have hadvance : r.advance = (r.q + 1, r.err + r.k2) := if_pos hlong
      have hnext := ih { r with err := r.err + r.k2 } hk1 hk2 (by simp only; omega) (by simp only; omega)
      simp only [hadvance, if_true]
      push_cast
      simp only at hnext
      constructor <;> linarith [hnext.1, hnext.2, hk2]
    · have hadvance : r.advance = (r.q, r.err + r.k1) := if_neg hlong
      have hnext := ih { r with err := r.err + r.k1 } hk1 hk2 (by simp only; omega) (by simp only; omega)
      have hshort : ¬ r.q = r.q + 1 := by omega
      simp only [hadvance, hshort, if_false]
      push_cast
      simp only at hnext
      constructor <;> linarith [hnext.1, hnext.2, hk1]

/-- Settles O12: after t periods the error term is again within its circle, so full % t of them were long. -/
theorem rampCoversFullScaleInItsTime : Obligations.RampCoversFullScaleInItsTime := by
  unfold Obligations.RampCoversFullScaleInItsTime
  intro r full ph t ht
  have hrem : full % t < t := Nat.mod_lt _ ht
  have hbounds := longAdvances_bounds hrem t (r.setup full ph t) rfl rfl (by simp only [Ramp.setup]; omega)
    (by simp only [Ramp.setup]; omega)
  have hlong : longAdvances t (r.setup full ph t) = full % t := by
    generalize longAdvances t (r.setup full ph t) = n at hbounds
    simp only [Ramp.setup] at hbounds
    generalize full % t = m at hbounds hrem
    obtain ⟨hlow, hhigh⟩ := hbounds
    rcases lt_trichotomy n m with hlt | heq | hgt
    · have hprod : (t : Int) * n + t ≤ t * m := by exact_mod_cast (by nlinarith : t * n + t ≤ t * m)
      linarith
    · exact heq
    · have hprod : (t : Int) * m + t ≤ t * n := by exact_mod_cast (by nlinarith : t * m + t ≤ t * n)
      linarith
  refine ⟨?_, hlong⟩
  rw [advanceSum_eq, hlong]
  exact Nat.div_add_mod full t

end Sys2Proof.Machine
end

section
/-! SUPPORT. The drive period step by step (R47): what its reading, its transition, its chain and its standing tests leave
of the drive and of the fault unit. -/

namespace Sys2Proof.Machine

-- One thread elaborates this section, so that the check's memory limit holds the stacks.
set_option Elab.async false

theorem driveMeasures_iff (s : State) : driveMeasures s = true ↔ populated .drv s = true ∧ periodsRun s = true := by
  simp [driveMeasures]

theorem periodsRun_iff (s : State) : periodsRun s = true
    ↔ s.start.station = .listening ∨ s.start.station = .running ∨ s.start.station = .silenced := by
  simp [periodsRun, or_assoc]

theorem exec_drivePeriod {i : DriveInputs} {s : State} {b : StartBlock} (himage : s.start.image = some b)
    (hmeasures : driveMeasures s = true) :
    exec (.drvControlPeriod i) s = .next (drivePeriod b (s.withPins { s.pins with drive := i })) := by
  have hm : driveMeasures (s.withPins { s.pins with drive := i }) = true := hmeasures
  simp only [exec, execDrvControlPeriod, State.withPins_start, himage, hm, if_true]

theorem exec_drivePeriod_rests {i : DriveInputs} {s : State} (hrest : driveMeasures s = false) :
    exec (.drvControlPeriod i) s = .next (s.withPins { s.pins with drive := i }) := by
  have hm : driveMeasures (s.withPins { s.pins with drive := i }) = false := hrest
  simp only [exec, execDrvControlPeriod]
  split <;> simp [hm]

/-! ### Step 1: reading -/

/-- The drive after the inputs are read (R44, R161). -/
theorem readDriveInputs_drive (b : StartBlock) (s : State) :
    (readDriveInputs b s).drive = { s.drive with
      engineBad := active .engineSensor s
      pressure := if pressureValid s then
          max (barOf b.line.fullScale s.pins.drive.loopA) (barOf b.line.fullScale s.pins.drive.loopB)
        else s.drive.pressure } := by
  have hvalid : ∀ u : State, u.pins = s.pins → pressureValid u = pressureValid s := fun u hu => by
    rw [pressureValid, pressureValid, hu]
  simp only [readDriveInputs, handOver_drive]
  rw [hvalid _ (by simp)]
  split <;> simp [takeEngineSensor]

theorem readDriveInputs_sp (b : StartBlock) (s : State) : (readDriveInputs b s).sp = s.sp :=
  (readDriveInputs_keeps b s).sp

theorem readDriveInputs_start (b : StartBlock) (s : State) : (readDriveInputs b s).start = s.start :=
  (readDriveInputs_keeps b s).start

theorem readDriveInputs_pins (b : StartBlock) (s : State) : (readDriveInputs b s).pins = s.pins :=
  (readDriveInputs_keeps b s).pins

/-- The causes that reading hands over (R42, R43, R44). -/
theorem active_readDriveInputs (b : StartBlock) (s : State) (k : FaultKind) :
    active k (readDriveInputs b s)
      = if k = .pressureInput then !pressureValid s
        else if k = .pedalInput then !inSpan s.pins.drive.pedal
        else if k = .dirInput then decide (s.start.station = .running) && s.pins.drive.dirF && s.pins.drive.dirR
        else active k s := by
  have hvalid : ∀ u : State, u.pins = s.pins → pressureValid u = pressureValid s := fun u hu => by
    rw [pressureValid, pressureValid, hu]
  have hdrive : ∀ (u : State) d, active k (u.withDrive d) = active k u := fun _ _ => rfl
  have hif : ∀ (c : Bool) (u : State) d, active k (if c then u.withDrive d else u) = active k u := fun c u d => by
    split <;> rfl
  simp only [readDriveInputs]
  by_cases hp : k = .pressureInput
  · subst hp
    rw [active_handOver_self (by decide) (by decide), if_pos rfl, hvalid]
    split <;> simp
  · rw [active_handOver_other hp, if_neg hp, hif]
    by_cases hpedal : k = .pedalInput
    · subst hpedal
      rw [active_handOver_self (by decide) (by decide), if_pos rfl]
      simp
    · rw [active_handOver_other hpedal, if_neg hpedal]
      by_cases hdir : k = .dirInput
      · subst hdir
        rw [active_handOver_self (by decide) (by decide), if_pos rfl]
        rfl
      · rw [active_handOver_other hdir, if_neg hdir, hdrive]

/-- Reading makes PEDAL_INPUT sticky where its cause is present, and leaves the sticky speed sensor (R158). -/
theorem sticky_readDriveInputs (b : StartBlock) (s : State) :
    sticky .pedalInput (readDriveInputs b s) = (!inSpan s.pins.drive.pedal || sticky .pedalInput s)
      ∧ sticky .speedSensor (readDriveInputs b s) = sticky .speedSensor s := by
  have hif : ∀ k (c : Bool) (u : State) d, sticky k (if c then u.withDrive d else u) = sticky k u := fun k c u d => by
    split <;> rfl
  have hdrive : ∀ k (u : State) d, sticky k (u.withDrive d) = sticky k u := fun _ _ _ => rfl
  simp only [readDriveInputs]
  constructor
  · rw [sticky_handOver_other (by decide), hif, sticky_handOver, if_pos rfl, sticky_handOver_other (by decide), hdrive]
    simp
  · rw [sticky_handOver_other (by decide), hif, sticky_handOver_other (by decide), sticky_handOver_other (by decide),
      hdrive]

theorem selector_congr {s t : State} (hpins : t.pins.drive = s.pins.drive) (hstart : t.start = s.start) :
    selector t = selector s := by
  rw [selector, selector, hpins, hstart]

theorem driveTripSticky_iff (s : State) :
    driveTripSticky s = true ↔ sticky .pedalInput s = true ∨ sticky .speedSensor s = true := by
  simp [driveTripSticky]

/-- What trips the drive at step 2, said of the state before the period (R54). -/
theorem trips_iff (b : StartBlock) (s : State) :
    (driveTripSticky (readDriveInputs b s) = true ∨ (readDriveInputs b s).start.station = .silenced)
      ↔ inSpan s.pins.drive.pedal = false ∨ sticky .pedalInput s = true ∨ sticky .speedSensor s = true
        ∨ s.start.station = .silenced := by
  obtain ⟨hpedal, hspeed⟩ := sticky_readDriveInputs b s
  rw [driveTripSticky_iff, hpedal, hspeed, readDriveInputs_start, Bool.or_eq_true, Bool.not_eq_true', or_assoc, or_assoc]

/-! ### The standing of a drive -/

/-- What steps 2 and 3 and the standing tests decide of a drive. -/
structure Stance where
  state : DriveState
  lastDir : Option Direction
  pendDir : Option Direction
  brakeApplied : Bool
  parkTimer : Timer
  dwellTimer : Timer

def stance (x : Drive) : Stance := ⟨x.state, x.lastDir, x.pendDir, x.brakeApplied, x.parkTimer, x.dwellTimer⟩

/-- What only reading, edges and bucket closes change of a drive. -/
def sensed (x : Drive) : Nat × Bool × Nat × Measure := (x.pressure, x.engineBad, x.engineSilence, x.meas)

theorem stance_driveChain (b : StartBlock) (s : State) : stance (driveChain b s).drive = stance s.drive := rfl

theorem stance_updateTrim (b : StartBlock) (s : State) : stance (updateTrim b s).drive = stance s.drive := by
  unfold updateTrim
  split <;> rfl

theorem restartSpeedSilence_drive (s : State) : (restartSpeedSilence s).drive = { s.drive with speedSilence := 0 } := by
  simp [restartSpeedSilence]

theorem quietPeriod_drive (s : State) : (quietPeriod s).drive
    = { s.drive with speedSilence := if s.drive.command.natAbs ≤ 400 then 0 else s.drive.speedSilence } := by
  unfold quietPeriod
  split <;> simp [restartSpeedSilence_drive, *]

theorem quietPeriod_sp (s : State) : (quietPeriod s).sp = s.sp := (quietPeriod_keeps s).sp

/-- The drive after its standing tests, before trim and silence. -/
def stood (b : StartBlock) (s : State) : State :=
  standTest b (driveBegin b s).drive.state (driveChain b (driveTransition b (driveBegin b s)))

theorem drivePeriod_eq (b : StartBlock) (s : State) : drivePeriod b s = quietPeriod (updateTrim b (stood b s)) := rfl

theorem stance_drivePeriod (b : StartBlock) (s : State) : stance (drivePeriod b s).drive = stance (stood b s).drive := by
  have hsilence : ∀ (x : Drive) n, stance { x with speedSilence := n } = stance x := fun _ _ => rfl
  rw [drivePeriod_eq, quietPeriod_drive, hsilence, stance_updateTrim]

theorem drivePeriod_sp (b : StartBlock) (s : State) :
    (drivePeriod b s).sp = (driveChain b (driveTransition b (driveBegin b s))).sp := by
  rw [drivePeriod_eq, quietPeriod_sp, updateTrim_sp, stood, standTest_sp]

/-- The standing tests change no more than the stance and, into PARKED, the trim. -/
theorem standTest_drive (b : StartBlock) (st : DriveState) (s : State) :
    (standTest b st s).drive.command = s.drive.command ∧ (standTest b st s).drive.cut = s.drive.cut
      ∧ (standTest b st s).drive.speedSilence = s.drive.speedSilence ∧ sensed (standTest b st s).drive = sensed s.drive := by
  have hstart : ∀ expired : Drive → Drive, (∀ x, (expired x).command = x.command ∧ (expired x).cut = x.cut
      ∧ (expired x).speedSilence = x.speedSilence ∧ sensed (expired x) = sensed x) → ∀ x,
      (startPark b expired x).command = x.command ∧ (startPark b expired x).cut = x.cut
      ∧ (startPark b expired x).speedSilence = x.speedSilence ∧ sensed (startPark b expired x) = sensed x := by
    intro expired he x
    unfold startPark
    split_ifs
    · exact ⟨rfl, rfl, rfl, rfl⟩
    · exact he x
    · exact ⟨rfl, rfl, rfl, rfl⟩
  have hpark := hstart enterParked (fun _ => ⟨rfl, rfl, rfl, rfl⟩)
  have hbrake := hstart applyBrake (fun _ => ⟨rfl, rfl, rfl, rfl⟩)
  unfold standTest
  split
  · cases st
    case neutral =>
      simp only [standNeutral]
      split
      · exact hpark _
      · exact ⟨rfl, rfl, rfl, rfl⟩
    case changing =>
      simp only [standChanging]
      split_ifs <;> exact ⟨rfl, rfl, rfl, rfl⟩
    case tripped =>
      simp only [standTripped]
      split_ifs
      · exact ⟨rfl, rfl, rfl, rfl⟩
      · exact hbrake _
      · exact ⟨rfl, rfl, rfl, rfl⟩
      · exact ⟨rfl, rfl, rfl, rfl⟩
    all_goals exact ⟨rfl, rfl, rfl, rfl⟩
  · exact ⟨rfl, rfl, rfl, rfl⟩

/-! ### The standing tests by the state they find -/

theorem standTest_moved {b : StartBlock} {st : DriveState} {s : State} (h : s.drive.state ≠ st) :
    standTest b st s = s := if_neg h

theorem standTest_resting {b : StartBlock} {st : DriveState} {s : State}
    (h : st = .parked ∨ st = .forward ∨ st = .reverse) : standTest b st s = s := by
  unfold standTest
  rcases h with rfl | rfl | rfl <;> split <;> rfl

/-! ### Without a trip -/

theorem driveBegin_calm {b : StartBlock} {s : State}
    (h : ¬ (inSpan s.pins.drive.pedal = false ∨ sticky .pedalInput s = true ∨ sticky .speedSensor s = true
      ∨ s.start.station = .silenced)) : driveBegin b s = readDriveInputs b s := by
  rw [driveBegin, tripTest, if_neg fun hn => h ((trips_iff b s).mp hn.2)]

theorem driveBegin_tripped {b : StartBlock} {s : State} (h : s.drive.state = .tripped) :
    driveBegin b s = readDriveInputs b s := by
  have hstate : (readDriveInputs b s).drive.state = .tripped := by rw [readDriveInputs_drive]; exact h
  rw [driveBegin, tripTest, if_neg fun hn => hn.1 hstate]

theorem driveBegin_trips {b : StartBlock} {s : State} (hstate : s.drive.state ≠ .tripped)
    (h : inSpan s.pins.drive.pedal = false ∨ sticky .pedalInput s = true ∨ sticky .speedSensor s = true
      ∨ s.start.station = .silenced) :
    driveBegin b s
      = freshDrvRamp ((readDriveInputs b s).withDrive (enterTripped (readDriveInputs b s).drive)) := by
  have hstate' : (readDriveInputs b s).drive.state ≠ .tripped := by rw [readDriveInputs_drive]; exact hstate
  rw [driveBegin, tripTest, if_pos ⟨hstate', (trips_iff b s).mpr h⟩]

theorem stance_readDriveInputs (b : StartBlock) (s : State) : stance (readDriveInputs b s).drive = stance s.drive := by
  rw [readDriveInputs_drive]
  rfl

end Sys2Proof.Machine
end

section
/-! SUPPORT. What a drive period leaves of the readings and of the fault unit (R43, R44, R65), and its inputs (R47). -/

namespace Sys2Proof.Machine

-- One thread elaborates this section, so that the check's memory limit holds the stacks.
set_option Elab.async false

theorem sensed_driveTransition (b : StartBlock) (s : State) : sensed (driveTransition b s).drive = sensed s.drive := by
  unfold driveTransition
  split
  · unfold periodParked
    split
    · split <;> rfl
    · rfl
  · unfold periodDriving
    split
    · rfl
    · split <;> rfl
  · unfold periodDriving
    split
    · rfl
    · split <;> rfl
  · unfold periodNeutral
    split
    · split_ifs <;> rfl
    · rfl
  · unfold periodChanging
    split
    · rfl
    · split_ifs <;> rfl
  · rcases periodTripped_cases s with h | h <;> rw [h]
    rfl

theorem sensed_driveBegin (b : StartBlock) (s : State) : sensed (driveBegin b s).drive = sensed (readDriveInputs b s).drive := by
  rcases tripTest_cases (readDriveInputs b s) with h | ⟨_, h⟩ <;> rw [driveBegin, h]
  rfl

theorem sensed_updateTrim (b : StartBlock) (s : State) : sensed (updateTrim b s).drive = sensed s.drive := by
  unfold updateTrim
  split <;> rfl

/-- After step 1 a period leaves pressure, engine and measurements (R47). -/
theorem sensed_drivePeriod (b : StartBlock) (s : State) :
    sensed (drivePeriod b s).drive = sensed (readDriveInputs b s).drive := by
  have hsilence : ∀ (x : Drive) n, sensed { x with speedSilence := n } = sensed x := fun _ _ => rfl
  have hchain : ∀ u, sensed (driveChain b u).drive = sensed u.drive := fun _ => rfl
  rw [drivePeriod_eq, quietPeriod_drive, hsilence, sensed_updateTrim, stood, (standTest_drive _ _ _).2.2.2, hchain,
    sensed_driveTransition, sensed_driveBegin]

theorem stood_faults (b : StartBlock) (s : State) : (updateTrim b (stood b s)).faults = (readDriveInputs b s).faults := by
  rw [updateTrim_faults, stood, standTest_faults, driveChain_faults, driveTransition_faults, driveBegin, tripTest_faults]

theorem updateTrim_command (b : StartBlock) (s : State) :
    (updateTrim b s).drive.command = s.drive.command ∧ (updateTrim b s).drive.cut = s.drive.cut
      ∧ (updateTrim b s).drive.speedSilence = s.drive.speedSilence := by
  unfold updateTrim
  split <;> exact ⟨rfl, rfl, rfl⟩

/-- The drive that steps 3 to 5 leave, before the silence timer (R47). -/
theorem drivePeriod_drive (b : StartBlock) (s : State) : (drivePeriod b s).drive
    = { (updateTrim b (stood b s)).drive with
        speedSilence := if (updateTrim b (stood b s)).drive.command.natAbs ≤ 400 then 0
          else (updateTrim b (stood b s)).drive.speedSilence } := by
  rw [drivePeriod_eq, quietPeriod_drive]

/-- Command and cut state are the chain's (R60, R62). -/
theorem drivePeriod_command (b : StartBlock) (s : State) :
    (drivePeriod b s).drive.command = (driveChain b (driveTransition b (driveBegin b s))).drive.command
      ∧ (drivePeriod b s).drive.cut = (driveChain b (driveTransition b (driveBegin b s))).drive.cut := by
  obtain ⟨hcommand, hcut, -⟩ := standTest_drive b (driveBegin b s).drive.state
    (driveChain b (driveTransition b (driveBegin b s)))
  obtain ⟨htrim, htrim', -⟩ := updateTrim_command b (stood b s)
  rw [← hcommand, ← hcut, ← stood, ← htrim, ← htrim', drivePeriod_eq]
  generalize updateTrim b (stood b s) = w
  rw [quietPeriod_drive]
  exact ⟨rfl, rfl⟩

theorem drivePeriod_faults (b : StartBlock) (s : State) :
    (drivePeriod b s).faults = if (drivePeriod b s).drive.command.natAbs ≤ 400
      then (restartSpeedSilence (updateTrim b (stood b s))).faults else (readDriveInputs b s).faults := by
  have hcommand : (drivePeriod b s).drive.command = (updateTrim b (stood b s)).drive.command := by
    rw [drivePeriod_drive]
  rw [hcommand, drivePeriod_eq, quietPeriod]
  split
  · rfl
  · exact stood_faults b s

theorem faults_restartSpeedSilence (s : State) (k : FaultKind) :
    active k (restartSpeedSilence s) = (if k = .speedSensor then false else active k s)
      ∧ sticky k (restartSpeedSilence s) = sticky k s := by
  rw [restartSpeedSilence, sticky_handOver]
  constructor
  · split
    · next hk => rw [hk, active_handOver_self (by decide) (by decide)]
    · next hk => rw [active_handOver_other hk]; rfl
  · split
    · next hk => rw [hk]; rfl
    · rfl

/-- A quiet period ends the SPEED_SENSOR cause; every other cause is as reading left it (R65). -/
theorem active_drivePeriod (b : StartBlock) (s : State) (k : FaultKind) :
    active k (drivePeriod b s)
      = if k = .speedSensor ∧ (drivePeriod b s).drive.command.natAbs ≤ 400 then false
        else active k (readDriveInputs b s) := by
  have hfaults := drivePeriod_faults b s
  by_cases hquiet : (drivePeriod b s).drive.command.natAbs ≤ 400
  · rw [if_pos hquiet] at hfaults
    rw [active_congr hfaults, (faults_restartSpeedSilence _ k).1, active_congr (stood_faults b s)]
    simp [hquiet]
  · rw [if_neg hquiet] at hfaults
    rw [if_neg (fun h => hquiet h.2)]
    exact active_congr hfaults k

theorem sticky_drivePeriod (b : StartBlock) (s : State) (k : FaultKind) :
    sticky k (drivePeriod b s) = sticky k (readDriveInputs b s) := by
  have hfaults := drivePeriod_faults b s
  split at hfaults
  · rw [sticky_congr hfaults, (faults_restartSpeedSilence _ k).2, sticky_congr (stood_faults b s)]
  · exact sticky_congr hfaults k

/-- What steps 2 and 3 leave of the chain's results, and of the silence timer. -/
theorem driven_driveTransition (b : StartBlock) (s : State) :
    (driveTransition b (driveBegin b s)).drive.command = s.drive.command
      ∧ (driveTransition b (driveBegin b s)).drive.speedSilence = s.drive.speedSilence := by
  have hmove : ∀ u, (driveTransition b u).drive.command = u.drive.command
      ∧ (driveTransition b u).drive.speedSilence = u.drive.speedSilence := by
    intro u
    unfold driveTransition periodParked periodDriving periodNeutral periodChanging
    split
    case h_6 =>
      rcases periodTripped_cases u with h | h <;> rw [h] <;> exact ⟨rfl, rfl⟩
    all_goals
      simp only [State.withDrive_drive]
      repeat' split
      all_goals exact ⟨rfl, rfl⟩
  have hbegin : (driveBegin b s).drive.command = (readDriveInputs b s).drive.command
      ∧ (driveBegin b s).drive.speedSilence = (readDriveInputs b s).drive.speedSilence := by
    rcases tripTest_cases (readDriveInputs b s) with h | ⟨_, h⟩ <;> rw [driveBegin, h] <;> exact ⟨rfl, rfl⟩
  rw [(hmove _).1, (hmove _).2, hbegin.1, hbegin.2, readDriveInputs_drive]
  exact ⟨rfl, rfl⟩

theorem drivePeriod_speedSilence (b : StartBlock) (s : State) :
    (drivePeriod b s).drive.speedSilence
      = if (drivePeriod b s).drive.command.natAbs ≤ 400 then 0 else s.drive.speedSilence := by
  obtain ⟨-, -, htrim⟩ := updateTrim_command b (stood b s)
  obtain ⟨-, -, hstand, -⟩ := standTest_drive b (driveBegin b s).drive.state
    (driveChain b (driveTransition b (driveBegin b s)))
  have hchain : (driveChain b (driveTransition b (driveBegin b s))).drive.speedSilence
      = (driveTransition b (driveBegin b s)).drive.speedSilence := rfl
  have hsilence : (updateTrim b (stood b s)).drive.speedSilence = s.drive.speedSilence :=
    htrim.trans (hstand.trans (hchain.trans (driven_driveTransition b s).2))
  rw [drivePeriod_eq, quietPeriod_drive]
  generalize updateTrim b (stood b s) = w at hsilence ⊢
  rw [← hsilence]

theorem active_drivePeriod_other (b : StartBlock) (s : State) {k : FaultKind} (hk : k ≠ .speedSensor) :
    active k (drivePeriod b s) = active k (readDriveInputs b s) := by
  rw [active_drivePeriod, if_neg fun h => hk h.1]

theorem inSpan_iff (raw : Raw) : inSpan raw = true ↔ 82 ≤ raw.toNat ∧ raw.toNat ≤ 4013 := by simp [inSpan]

theorem pressureValid_iff (s : State) :
    pressureValid s = true ↔ inSpan s.pins.drive.loopA = true ∧ inSpan s.pins.drive.loopB = true := by
  simp [pressureValid]

/-- The readings a period leaves (R44, R161). -/
theorem drivePeriod_readings (b : StartBlock) (s : State) :
    (drivePeriod b s).drive.pressure = (if pressureValid s then
        max (barOf b.line.fullScale s.pins.drive.loopA) (barOf b.line.fullScale s.pins.drive.loopB)
      else s.drive.pressure)
    ∧ (drivePeriod b s).drive.engineBad = active .engineSensor s ∧ (drivePeriod b s).drive.meas = s.drive.meas := by
  have hsensed := sensed_drivePeriod b s
  rw [readDriveInputs_drive] at hsensed
  simp only [sensed, Prod.mk.injEq] at hsensed
  exact ⟨hsensed.1, hsensed.2.1, hsensed.2.2.2⟩

/-- The causes a period leaves, but for SPEED_SENSOR (R42, R43, R44). -/
theorem drivePeriod_causes (b : StartBlock) (s : State) :
    active .pedalInput (drivePeriod b s) = !inSpan s.pins.drive.pedal
      ∧ active .dirInput (drivePeriod b s)
        = (decide (s.start.station = .running) && s.pins.drive.dirF && s.pins.drive.dirR)
      ∧ active .pressureInput (drivePeriod b s) = !pressureValid s
      ∧ active .engineSensor (drivePeriod b s) = active .engineSensor s := by
  refine ⟨?_, ?_, ?_, ?_⟩ <;> rw [active_drivePeriod_other b s (by decide), active_readDriveInputs] <;> rfl

/-- A period takes the engine sensor into the quality of the engine speed (R45, R161). -/
theorem drivePeriod_engineQuality {b : StartBlock} {s : State} (hpop : populated .drv s = true) :
    (viewEngine (drivePeriod b s)).quality = .bad ↔ active .engineSensor s = true := by
  have hpop' : populated .drv (drivePeriod b s) = true := by
    unfold populated
    rw [(drivePeriod_keeps b s).start]
    exact hpop
  have hquality : (viewEngine (drivePeriod b s)).quality = ownEngineQuality (drivePeriod b s) := by
    simp [viewEngine, travelSource, hpop']
  rw [hquality, ownEngineQuality_bad, (drivePeriod_causes b s).2.2.2, (drivePeriod_readings b s).2.1]
  exact or_self_iff

/-- Settles O14. -/
theorem drivePeriodReadsItsInputs : Obligations.DrivePeriodReadsItsInputs := by
  unfold Obligations.DrivePeriodReadsItsInputs
  refine ⟨fun s => ⟨driveMeasures_iff s, periodsRun_iff s⟩, fun i s hrest => exec_drivePeriod_rests hrest, ?_⟩
  intro i s b himage hmeasures valid bar
  refine ⟨_, exec_drivePeriod himage hmeasures, ?_⟩
  generalize hu : s.withPins { s.pins with drive := i } = u
  have hpins : u.pins = { s.pins with drive := i } := by rw [← hu]; rfl
  have hstart : u.start = s.start := by rw [← hu]; rfl
  have hdrive : u.drive = s.drive := by rw [← hu]; rfl
  have hfaults : u.faults = s.faults := by rw [← hu]; rfl
  have hsp : u.sp = s.sp := by rw [← hu]; rfl
  have hkeeps := drivePeriod_keeps b u
  have hspan : ∀ raw, inSpan raw = true ↔ valid raw := inSpan_iff
  have hboth : pressureValid u = true ↔ valid i.loopA ∧ valid i.loopB := by
    rw [pressureValid_iff, hpins, hspan, hspan]
  obtain ⟨hpedal, hdir, hpressure, hengine⟩ := drivePeriod_causes b u
  obtain ⟨hbar, hbad, -⟩ := drivePeriod_readings b u
  obtain ⟨hbrush, hwater⟩ := drivePeriod_sites b u
  have hsensor : active .engineSensor u = active .engineSensor s := active_congr hfaults _
  have hall : KeepsAllBut [.pins, .line, .sp, .drive, .faults] s (drivePeriod b u) := by
    rw [← hu]
    exact ((State.withPins_keeps s _).mono).trans ((drivePeriod_keeps b _).mono)
  rw [hpins] at hpedal hdir hbar
  refine ⟨hall, hkeeps.pins.trans hpins, (hbrush .one).trans (by rw [hsp]; rfl), (hbrush .two).trans (by rw [hsp]; rfl),
    hwater.trans (by rw [hsp]), ?_, ?_, ?_, ?_, ?_, ?_, hbad.trans hsensor, hengine.trans hsensor, ?_⟩
  · rw [hpedal, ← hspan]
    simp
  · intro hnot
    rw [← hspan, Bool.not_eq_true] at hnot
    rw [sticky_drivePeriod, (sticky_readDriveInputs b u).1, hpins, hnot]
    rfl
  · rw [hdir, hstart]
    simp [and_assoc]
  · rw [hpressure, ← hboth]
    simp
  · intro hA hB
    rw [hbar, if_pos (hboth.mpr ⟨hA, hB⟩)]
    rfl
  · intro hnot
    rw [hbar, if_neg (fun h => hnot (hboth.mp h)), hdrive]
  · rw [drivePeriod_engineQuality, hsensor]
    unfold populated
    rw [hstart]
    exact ((driveMeasures_iff s).mp hmeasures).1

end Sys2Proof.Machine
end

section
/-! SUPPORT. The drive states over a period (R48 to R55): the transition of step 3, then the standing tests. -/

namespace Sys2Proof.Machine

-- One thread elaborates this section, so that the check's memory limit holds the stacks.
set_option Elab.async false

/-- The inputs of a period stand at the pins, and nothing else has changed (R47). -/
structure PinsRead (i : DriveInputs) (s u : State) : Prop where
  pins : u.pins = { s.pins with drive := i }
  start : u.start = s.start
  drive : u.drive = s.drive
  faults : u.faults = s.faults
  sp : u.sp = s.sp

theorem pinsRead (i : DriveInputs) (s : State) : PinsRead i s (s.withPins { s.pins with drive := i }) :=
  ⟨rfl, rfl, rfl, rfl, rfl⟩

/-- What trips the drive, or keeps it from its release (R54, R55). -/
def tripping (s : State) : Prop :=
  inSpan s.pins.drive.pedal = false ∨ sticky .pedalInput s = true ∨ sticky .speedSensor s = true
    ∨ s.start.station = .silenced

theorem PinsRead.tripping_iff {i : DriveInputs} {s u : State} (h : PinsRead i s u) :
    tripping u ↔ inSpan i.pedal = false ∨ sticky .pedalInput s = true ∨ sticky .speedSensor s = true
      ∨ s.start.station = .silenced := by
  rw [tripping, h.pins, sticky_congr h.faults, sticky_congr h.faults, h.start]

theorem PinsRead.travelQuality {i : DriveInputs} {s u : State} (h : PinsRead i s u) :
    ownTravelQuality u = ownTravelQuality s := by
  rw [ownTravelQuality, ownTravelQuality, sticky_congr h.faults, h.drive]

/-- The drive after step 3. -/
def moved (b : StartBlock) (s : State) : State := driveTransition b (driveBegin b s)

theorem stood_eq (b : StartBlock) (s : State) :
    stood b s = standTest b (driveBegin b s).drive.state (driveChain b (moved b s)) := rfl

/-! The chain changes command and cut state alone. -/

@[simp] theorem driveChain_state (b : StartBlock) (s : State) : (driveChain b s).drive.state = s.drive.state := rfl

@[simp] theorem driveChain_lastDir (b : StartBlock) (s : State) : (driveChain b s).drive.lastDir = s.drive.lastDir := rfl

@[simp] theorem driveChain_pendDir (b : StartBlock) (s : State) : (driveChain b s).drive.pendDir = s.drive.pendDir := rfl

@[simp] theorem driveChain_brakeApplied (b : StartBlock) (s : State) :
    (driveChain b s).drive.brakeApplied = s.drive.brakeApplied := rfl

@[simp] theorem driveChain_parkTimer (b : StartBlock) (s : State) :
    (driveChain b s).drive.parkTimer = s.drive.parkTimer := rfl

@[simp] theorem driveChain_dwellTimer (b : StartBlock) (s : State) :
    (driveChain b s).drive.dwellTimer = s.drive.dwellTimer := rfl

@[simp] theorem driveChain_trim (b : StartBlock) (s : State) : (driveChain b s).drive.trim = s.drive.trim := rfl

@[simp] theorem driveChain_meas (b : StartBlock) (s : State) : (driveChain b s).drive.meas = s.drive.meas := rfl

/-- A drive that step 3 moves to another state is left by the standing tests (R50, R52). -/
theorem stood_of_moved {b : StartBlock} {s : State} (h : (moved b s).drive.state ≠ (driveBegin b s).drive.state) :
    stood b s = driveChain b (moved b s) := by
  rw [stood_eq]
  exact standTest_moved h

/-- So is one that PARKED, FORWARD or REVERSE keeps. -/
theorem stood_of_resting {b : StartBlock} {s : State}
    (h : (driveBegin b s).drive.state = .parked ∨ (driveBegin b s).drive.state = .forward
      ∨ (driveBegin b s).drive.state = .reverse) : stood b s = driveChain b (moved b s) := by
  rw [stood_eq]
  exact standTest_resting h

/-- The standing tests of the states that step 3 keeps (R50, R52, R55). -/
theorem stood_neutral {b : StartBlock} {s : State} (hbegin : (driveBegin b s).drive.state = .neutral)
    (hkept : (moved b s).drive.state = .neutral) : (stood b s).drive = standNeutral b (driveChain b (moved b s)) := by
  have hchain : (driveChain b (moved b s)).drive.state = .neutral := hkept
  rw [stood_eq, hbegin, standTest, if_pos hchain]
  rfl

theorem stood_changing {b : StartBlock} {s : State} (hbegin : (driveBegin b s).drive.state = .changing)
    (hkept : (moved b s).drive.state = .changing) : (stood b s).drive = standChanging b (driveChain b (moved b s)) := by
  have hchain : (driveChain b (moved b s)).drive.state = .changing := hkept
  rw [stood_eq, hbegin, standTest, if_pos hchain]
  rfl

theorem stood_tripped {b : StartBlock} {s : State} (hbegin : (driveBegin b s).drive.state = .tripped)
    (hkept : (moved b s).drive.state = .tripped) : (stood b s).drive = standTripped b (driveChain b (moved b s)) := by
  have hchain : (driveChain b (moved b s)).drive.state = .tripped := hkept
  rw [stood_eq, hbegin, standTest, if_pos hchain]
  rfl

/-- Trim moves in FORWARD and REVERSE alone (R64). -/
theorem drivePeriod_trim_standing {b : StartBlock} {s : State} (hf : (stood b s).drive.state ≠ .forward)
    (hr : (stood b s).drive.state ≠ .reverse) : (drivePeriod b s).drive.trim = (stood b s).drive.trim := by
  have hkeep : updateTrim b (stood b s) = stood b s := by
    rw [updateTrim, if_neg]
    rintro ⟨h | h, -⟩
    · exact hf h
    · exact hr h
  rw [drivePeriod_drive, hkeep]

theorem stance_inj {x y : Drive} (h : stance x = stance y) :
    x.state = y.state ∧ x.lastDir = y.lastDir ∧ x.pendDir = y.pendDir ∧ x.brakeApplied = y.brakeApplied
      ∧ x.parkTimer = y.parkTimer ∧ x.dwellTimer = y.dwellTimer := by
  simpa [stance] using h

/-! ### TRIPPED -/

/-- The standing test of TRIPPED moves brake and park timer alone (R55). -/
theorem standTripped_keeps (b : StartBlock) (s : State) :
    (standTripped b s).state = s.drive.state ∧ (standTripped b s).lastDir = s.drive.lastDir
      ∧ (standTripped b s).pendDir = s.drive.pendDir ∧ (standTripped b s).dwellTimer = s.drive.dwellTimer
      ∧ (standTripped b s).trim = s.drive.trim
      ∧ (s.drive.brakeApplied = true → (standTripped b s).brakeApplied = true) := by
  unfold standTripped startPark
  split_ifs <;> exact ⟨rfl, rfl, rfl, rfl, rfl, by simp_all⟩

theorem tripReleased_iff (s : State) : tripReleased s = true
    ↔ driveTripSticky s = false ∧ s.start.station = .running ∧ selector s = none ∧ s.drive.brakeApplied = true := by
  simp [tripReleased, and_assoc]

theorem moved_of_held {b : StartBlock} {s : State} (hstate : (driveBegin b s).drive.state = .tripped)
    (hheld : tripReleased (driveBegin b s) = false) : moved b s = driveBegin b s := by
  rw [moved, driveTransition, hstate]
  simp only [periodTripped, hheld, Bool.false_eq_true, if_false]

/-- A TRIPPED drive without a release stays TRIPPED (R55). -/
theorem tripped_stays {b : StartBlock} {s : State} (hstate : (driveBegin b s).drive.state = .tripped)
    (hheld : tripReleased (driveBegin b s) = false) :
    (drivePeriod b s).drive.state = .tripped
      ∧ (drivePeriod b s).drive.lastDir = (driveBegin b s).drive.lastDir
      ∧ (drivePeriod b s).drive.pendDir = (driveBegin b s).drive.pendDir
      ∧ (drivePeriod b s).drive.dwellTimer = (driveBegin b s).drive.dwellTimer
      ∧ (drivePeriod b s).drive.trim = (driveBegin b s).drive.trim
      ∧ ((driveBegin b s).drive.brakeApplied = true → (drivePeriod b s).drive.brakeApplied = true) := by
  have hmoved := moved_of_held hstate hheld
  have hstood := stood_tripped hstate (hmoved ▸ hstate)
  obtain ⟨kstate, klast, kpend, kdwell, ktrim, kbrake⟩ := standTripped_keeps b (driveChain b (moved b s))
  rw [← hstood] at kstate klast kpend kdwell ktrim kbrake
  simp only [hmoved, driveChain_state, driveChain_lastDir, driveChain_pendDir, driveChain_dwellTimer, driveChain_trim,
    driveChain_brakeApplied] at kstate klast kpend kdwell ktrim kbrake
  obtain ⟨sstate, slast, spend, sbrake, -, sdwell⟩ := stance_inj (stance_drivePeriod b s)
  have htripped : (stood b s).drive.state = .tripped := kstate.trans hstate
  have htrim := drivePeriod_trim_standing (b := b) (s := s) (by rw [htripped]; decide) (by rw [htripped]; decide)
  exact ⟨sstate.trans htripped, slast.trans klast, spend.trans kpend, sdwell.trans kdwell, htrim.trans ktrim,
    fun h => sbrake.trans (kbrake h)⟩

/-- A drive that step 2 trips is held there for the period (R54, R55). -/
theorem tripReleased_of_tripping {b : StartBlock} {s : State} (h : tripping s) : tripReleased (driveBegin b s) = false := by
  have hfaults : driveTripSticky (driveBegin b s) = driveTripSticky (readDriveInputs b s) := by
    rw [driveTripSticky, driveTripSticky, driveBegin, sticky_congr (tripTest_faults _), sticky_congr (tripTest_faults _)]
  have hstart : (driveBegin b s).start = (readDriveInputs b s).start := tripTest_start _
  by_contra hrel
  obtain ⟨hsticky, hrun, -⟩ := (tripReleased_iff _).mp (by simpa using hrel)
  rcases (trips_iff b s).mpr h with hst | hsil
  · rw [hfaults, hst] at hsticky
    cases hsticky
  · rw [hstart, hsil] at hrun
    cases hrun

theorem drive_of_trips {b : StartBlock} {s : State} (hstate : s.drive.state ≠ .tripped) (h : tripping s) :
    (driveBegin b s).drive = enterTripped (readDriveInputs b s).drive ∧ (driveBegin b s).sp.drv.ramp = s.sp.drv.ramp.unset := by
  rw [driveBegin_trips hstate h]
  exact ⟨rfl, by simp [readDriveInputs_sp]⟩

/-- A TRIPPED drive ramps to 0 in the fault ramp time (R55, R59). -/
theorem tripped_ramp {b : StartBlock} {s : State} (hstate : (moved b s).drive.state = .tripped) :
    (drivePeriod b s).sp.drv.ramp
      = (moved b s).sp.drv.ramp.step 1500 ⟨b.drive.faultRamp, b.drive.faultRamp⟩ 0 := by
  have htarget : driveTarget b (moved b s) = 0 := by
    simp [driveTarget, pedalSpeed, pedalLooksUp, hstate, cappedSpeed]
  have htimes : driveTimes b (moved b s) = ⟨b.drive.faultRamp, b.drive.faultRamp⟩ := by simp [driveTimes, hstate]
  rw [drivePeriod_sp]
  show (moved b s).sp.drv.ramp.step 1500 (driveTimes b (moved b s)) (driveTarget b (moved b s)) = _
  rw [htarget, htimes]

/-- A ramp that is to set up afresh falls to 0 (R13, R59). -/
theorem Ramp.unset_step_zero (r : Ramp) (full t : Nat) :
    (r.unset.step full ⟨t, t⟩ 0).out.natAbs ≤ r.out.natAbs
      ∧ (t = 0 → (r.unset.step full ⟨t, t⟩ 0).out = 0)
      ∧ (0 < t → (r.unset.step full ⟨t, t⟩ 0).out = toward r.out 0 (r.setup full .falling t).advance.1
        ∧ ((r.unset.step full ⟨t, t⟩ 0).out ≠ 0
          → (r.unset.step full ⟨t, t⟩ 0).err = (r.setup full .falling t).advance.2)) := by
  have htarget : effectiveTarget r.unset.out 0 = 0 := effectiveTarget_same (by omega)
  by_cases hzero : r.out = 0
  · have hstand : r.unset.step full ⟨t, t⟩ 0 = r.unset.arrive r.unset.out :=
      Ramp.step_standing (by rw [htarget]; exact hzero.symm)
    have hout : (r.unset.step full ⟨t, t⟩ 0).out = 0 := by rw [hstand]; exact hzero
    rw [hout]
    refine ⟨by simp, fun _ => rfl, fun _ => ⟨?_, fun hne => absurd rfl hne⟩⟩
    rw [hzero]
    simp [toward]
  · have hfall : r.unset.step full ⟨t, t⟩ 0 = r.unset.move full .falling t 0 := by
      have := Ramp.step_falling (r := r.unset) (full := full) (times := ⟨t, t⟩) (t := 0) (by rw [htarget]; simp)
        (by rw [htarget]; exact fun h => hzero h.symm)
      rwa [htarget] at this
    have hbetween := Ramp.step_between r.unset full ⟨t, t⟩ 0
    rw [htarget, Ramp.unset_out] at hbetween
    refine ⟨by omega, fun ht => by rw [hfall, ht]; rfl, fun ht => ?_⟩
    have hprepared := Ramp.unset_prepared r full .falling t
    refine ⟨?_, fun hne => ?_⟩
    · rw [hfall, Ramp.move_toward ht, hprepared]
      rfl
    · rw [hfall] at hne ⊢
      rw [Ramp.move_short ht hne, hprepared]

/-- Settles O15. -/
theorem drivePeriodTrips : Obligations.DrivePeriodTrips := by
  unfold Obligations.DrivePeriodTrips
  intro i s b himage hmeasures hstate htrips
  refine ⟨_, exec_drivePeriod himage hmeasures, ?_⟩
  have hu := pinsRead i s
  generalize s.withPins { s.pins with drive := i } = u at hu ⊢
  have htrip : tripping u := hu.tripping_iff.mpr htrips
  obtain ⟨hbegin, hbeginRamp⟩ := drive_of_trips (b := b) (by rw [hu.drive]; exact hstate) htrip
  have hread := stance_inj (stance_readDriveInputs b u)
  have hheld := tripReleased_of_tripping (b := b) htrip
  have htripped : (driveBegin b u).drive.state = .tripped := by rw [hbegin]; rfl
  have hmoved : moved b u = driveBegin b u := moved_of_held htripped hheld
  obtain ⟨kstate, klast, kpend, kdwell, ktrim, -⟩ := tripped_stays htripped hheld
  have hramp := tripped_ramp (b := b) (s := u) (by rw [hmoved]; exact htripped)
  rw [hmoved, hbeginRamp, hu.sp] at hramp
  obtain ⟨hle, hzero, hpos⟩ := Ramp.unset_step_zero s.sp.drv.ramp 1500 b.drive.faultRamp
  rw [hbegin] at klast kpend kdwell ktrim
  rw [hramp]
  refine ⟨kstate, ktrim, kdwell, kpend, ?_, hle, hzero, hpos⟩
  rw [klast]
  exact hread.2.1.trans (by rw [hu.drive])

end Sys2Proof.Machine
end

section
/-! SUPPORT. The selector and the drive states (R48 to R55): a period without a trip, by the state in which it finds the
drive. -/

namespace Sys2Proof.Machine

-- One thread elaborates this section, so that the check's memory limit holds the stacks.
set_option Elab.async false

/-! ### What reading leaves of the tests of step 3 -/

theorem selector_readDriveInputs (b : StartBlock) (s : State) : selector (readDriveInputs b s) = selector s :=
  selector_congr (by rw [readDriveInputs_pins]) (readDriveInputs_start b s)

theorem pedalPressed_readDriveInputs (b : StartBlock) (s : State) :
    pedalPressed b (readDriveInputs b s) = pedalPressed b s := by
  rw [pedalPressed, pedalPressed, readDriveInputs_pins]

theorem ownTravelQuality_readDriveInputs (b : StartBlock) (s : State) :
    ownTravelQuality (readDriveInputs b s) = ownTravelQuality s := by
  rw [ownTravelQuality, ownTravelQuality, (sticky_readDriveInputs b s).2, readDriveInputs_drive]

theorem stopTest_readDriveInputs (b : StartBlock) (s : State) : stopTest b (readDriveInputs b s) = stopTest b s := by
  rw [stopTest, stopTest, ownTravelQuality_readDriveInputs, readDriveInputs_drive]

theorem atRest_readDriveInputs (b : StartBlock) (s : State) : atRest b (readDriveInputs b s) = atRest b s := by
  rw [atRest, atRest, stopTest_readDriveInputs, readDriveInputs_sp]

theorem atRest_iff (b : StartBlock) (s : State) : atRest b s = true ↔ s.sp.drv.ramp.out = 0
    ∧ (ownTravelQuality s = .bad ∨ s.drive.meas.v.natAbs ≤ b.drive.stopSpeed) := by
  simp [atRest, stopTest]

/-- The selector values (R42). -/
theorem selector_of_not_running {s : State} (h : s.start.station ≠ .running) : selector s = none := by
  simp [selector, h]

theorem selector_running {s : State} (h : s.start.station = .running) :
    (s.pins.drive.dirF = true → s.pins.drive.dirR = false → selector s = some .forward)
      ∧ (s.pins.drive.dirF = false → s.pins.drive.dirR = true → selector s = some .reverse) := by
  constructor <;> intro hf hr <;> simp [selector, h, hf, hr]

theorem selector_same {s : State} (h : s.pins.drive.dirF = s.pins.drive.dirR) : selector s = none := by
  unfold selector
  cases hr : s.pins.drive.dirR <;> rw [hr] at h <;> simp [h]

theorem selector_isSome {s : State} (h : s.pins.drive.dirF ≠ s.pins.drive.dirR) (hrun : s.start.station = .running) :
    selector s ≠ none := by
  unfold selector
  cases hf : s.pins.drive.dirF <;> cases hr : s.pins.drive.dirR <;> simp_all

/-! ### A period that leaves the standing tests nothing to do -/

/-- The stance that step 3 chooses is the one of the period where the drive changes state or stands in PARKED, FORWARD or
REVERSE. -/
theorem settles {b : StartBlock} {s : State} {x : Drive} (hmoved : (moved b s).drive = x)
    (h : x.state ≠ (driveBegin b s).drive.state
      ∨ (driveBegin b s).drive.state = .parked ∨ (driveBegin b s).drive.state = .forward
      ∨ (driveBegin b s).drive.state = .reverse) :
    stance (drivePeriod b s).drive = stance x
      ∧ (x.state ≠ .forward → x.state ≠ .reverse → (drivePeriod b s).drive.trim = x.trim) := by
  have hstood : stood b s = driveChain b (moved b s) := by
    rcases h with h | h
    · exact stood_of_moved (by rw [hmoved]; exact h)
    · exact stood_of_resting h
  have hstate : (stood b s).drive.state = x.state := by rw [hstood, driveChain_state, hmoved]
  constructor
  · rw [stance_drivePeriod, hstood, stance_driveChain, hmoved]
  · intro hf hr
    rw [drivePeriod_trim_standing (by rwa [hstate]) (by rwa [hstate]), hstood, driveChain_trim, hmoved]

theorem moved_calm {b : StartBlock} {s : State} (hcalm : ¬ tripping s) :
    moved b s = driveTransition b (readDriveInputs b s) := by
  rw [moved, driveBegin_calm hcalm]

/-- The drive state of a direction. -/
def Direction.own : Direction → DriveState
  | .forward => .forward
  | .reverse => .reverse

theorem stance_enterDirection (d : Direction) (x : Drive) :
    stance (enterDirection d x) = ⟨d.own, some d, none, false, none, none⟩ := by
  cases d <;> rfl

/-- Step 3 in each state, on the drive that reading leaves. -/
theorem readDriveInputs_state (b : StartBlock) (s : State) : (readDriveInputs b s).drive.state = s.drive.state := by
  rw [readDriveInputs_drive]

section
variable {b : StartBlock} {s : State} (hcalm : ¬ tripping s)
include hcalm

theorem moved_parked (h : s.drive.state = .parked) : (moved b s).drive = periodParked b (readDriveInputs b s) := by
  rw [moved_calm hcalm, driveTransition, readDriveInputs_state, h]
  rfl

theorem moved_driving (d : Direction) (h : s.drive.state = d.own) :
    (moved b s).drive = periodDriving d (readDriveInputs b s) := by
  cases d <;> rw [moved_calm hcalm, driveTransition, readDriveInputs_state, h] <;> rfl

theorem moved_neutral (h : s.drive.state = .neutral) :
    (moved b s).drive = periodNeutral b (readDriveInputs b s) := by
  rw [moved_calm hcalm, driveTransition, readDriveInputs_state, h]
  rfl

theorem moved_changing (h : s.drive.state = .changing) :
    (moved b s).drive = periodChanging (readDriveInputs b s) := by
  rw [moved_calm hcalm, driveTransition, readDriveInputs_state, h]
  rfl

theorem begin_state : (driveBegin b s).drive.state = s.drive.state := by
  rw [driveBegin_calm hcalm, readDriveInputs_state]

/-- A calm period settles on the drive that step 3 makes of the one it reads. -/
theorem settles_calm {x : Drive} (hmoved : (moved b s).drive = x)
    (h : x.state ≠ s.drive.state ∨ s.drive.state = .parked ∨ s.drive.state = .forward ∨ s.drive.state = .reverse) :
    stance (drivePeriod b s).drive = stance x
      ∧ (x.state ≠ .forward → x.state ≠ .reverse → (drivePeriod b s).drive.trim = x.trim) :=
  settles hmoved (by rwa [begin_state hcalm])

end

/-- The stance after entry to CHANGING (R49, R50). -/
theorem stance_enterChanging (b : StartBlock) (s : State) (d : Direction) : stance (enterChanging d (readDriveInputs b s).drive)
    = { stance s.drive with state := .changing, pendDir := some d, parkTimer := none } := by
  rw [← stance_readDriveInputs b s]
  rfl

/-! ### The outcomes of a calm period -/

section
variable {b : StartBlock} {s : State} (hcalm : ¬ tripping s)
include hcalm

theorem parked_departs {d : Direction} (h : s.drive.state = .parked) (hsel : selector s = some d)
    (hrun : s.start.station = .running) (hmode : s.start.mode ≠ .service) (hpressed : pedalPressed b s = true) :
    stance (drivePeriod b s).drive = ⟨d.own, some d, none, false, none, none⟩ := by
  have hx := moved_parked (b := b) hcalm h
  rw [periodParked, selector_readDriveInputs, hsel, readDriveInputs_start, pedalPressed_readDriveInputs] at hx
  simp only [hrun, hmode, hpressed, ne_eq, not_false_eq_true, and_self, if_true] at hx
  rw [(settles_calm hcalm hx (.inr (.inl h))).1, stance_enterDirection]

theorem parked_stays (h : s.drive.state = .parked)
    (hstays : selector s = none ∨ s.start.mode = .service ∨ pedalPressed b s = false) :
    stance (drivePeriod b s).drive = stance s.drive := by
  have hx : (moved b s).drive = (readDriveInputs b s).drive := by
    rw [moved_parked hcalm h, periodParked, selector_readDriveInputs, readDriveInputs_start, pedalPressed_readDriveInputs]
    split
    · rcases hstays with h | h | h <;> simp_all
    · rfl
  rw [(settles_calm hcalm hx (.inr (.inl h))).1, stance_readDriveInputs]

theorem driving_stays {d : Direction} (h : s.drive.state = d.own) (hsel : selector s = some d) :
    stance (drivePeriod b s).drive = stance s.drive := by
  have hx : (moved b s).drive = (readDriveInputs b s).drive := by
    rw [moved_driving hcalm d h, periodDriving, selector_readDriveInputs, hsel]
    exact if_pos rfl
  have hrest : s.drive.state = .forward ∨ s.drive.state = .reverse := by cases d <;> simp [h, Direction.own]
  rw [(settles_calm hcalm hx (.inr (.inr hrest))).1, stance_readDriveInputs]

/-- A driving drive whose selector is idle goes to NEUTRAL (R49, R64). -/
theorem driving_rests {d : Direction} (h : s.drive.state = d.own) (hsel : selector s = none) :
    stance (drivePeriod b s).drive = { stance s.drive with state := .neutral } ∧ (drivePeriod b s).drive.trim = 0 := by
  have hx : (moved b s).drive = enterNeutral (readDriveInputs b s).drive := by
    rw [moved_driving hcalm d h, periodDriving, selector_readDriveInputs, hsel]
  have hne : (enterNeutral (readDriveInputs b s).drive).state ≠ s.drive.state := by
    rw [h]
    cases d <;> simp [enterNeutral, Direction.own]
  obtain ⟨hstance, htrim⟩ := settles_calm hcalm hx (.inl hne)
  refine ⟨?_, htrim (by simp [enterNeutral]) (by simp [enterNeutral])⟩
  rw [hstance, ← stance_readDriveInputs b s]
  rfl

theorem driving_turns {own d : Direction} (h : s.drive.state = own.own) (hd : d ≠ own) (hsel : selector s = some d) :
    stance (drivePeriod b s).drive = { stance s.drive with state := .changing, pendDir := some d, parkTimer := none }
      ∧ (drivePeriod b s).drive.trim = 0 := by
  have hx : (moved b s).drive = enterChanging d (readDriveInputs b s).drive := by
    rw [moved_driving hcalm own h, periodDriving, selector_readDriveInputs, hsel]
    exact if_neg hd
  have hne : (enterChanging d (readDriveInputs b s).drive).state ≠ s.drive.state := by
    rw [h]
    cases own <;> simp [enterChanging, Direction.own]
  obtain ⟨hstance, htrim⟩ := settles_calm hcalm hx (.inl hne)
  exact ⟨hstance.trans (stance_enterChanging b s d), htrim (by simp [enterChanging]) (by simp [enterChanging])⟩

theorem neutral_departs {d : Direction} (h : s.drive.state = .neutral) (hsel : selector s = some d)
    (hmay : s.drive.lastDir = some d ∨ atRest b s = true) :
    stance (drivePeriod b s).drive = ⟨d.own, some d, none, false, none, none⟩ := by
  have hx : (moved b s).drive = enterDirection d (readDriveInputs b s).drive := by
    rw [moved_neutral hcalm h, periodNeutral, selector_readDriveInputs, hsel, atRest_readDriveInputs, readDriveInputs_drive]
    rcases hmay with h | h
    · exact if_pos h
    · simp only [h, if_true, ite_self]
  have hne : (enterDirection d (readDriveInputs b s).drive).state ≠ s.drive.state := by
    rw [h]
    cases d <;> simp [enterDirection]
  rw [(settles_calm hcalm hx (.inl hne)).1, stance_enterDirection]

theorem neutral_turns {d : Direction} (h : s.drive.state = .neutral) (hsel : selector s = some d)
    (hlast : s.drive.lastDir ≠ some d) (hrest : atRest b s = false) :
    stance (drivePeriod b s).drive = { stance s.drive with state := .changing, pendDir := some d, parkTimer := none }
      ∧ (drivePeriod b s).drive.trim = 0 := by
  have hx : (moved b s).drive = enterChanging d (readDriveInputs b s).drive := by
    rw [moved_neutral hcalm h, periodNeutral, selector_readDriveInputs, hsel, atRest_readDriveInputs, hrest]
    rw [readDriveInputs_drive]
    simp only [hlast, if_false, Bool.false_eq_true]
  have hne : (enterChanging d (readDriveInputs b s).drive).state ≠ s.drive.state := by simp [h, enterChanging]
  obtain ⟨hstance, htrim⟩ := settles_calm hcalm hx (.inl hne)
  exact ⟨hstance.trans (stance_enterChanging b s d), htrim (by simp [enterChanging]) (by simp [enterChanging])⟩

theorem changing_departs {d : Direction} (h : s.drive.state = .changing) (hsel : selector s = some d)
    (hpend : s.drive.pendDir ≠ some d) (hlast : s.drive.lastDir = some d) :
    stance (drivePeriod b s).drive = ⟨d.own, some d, none, false, none, none⟩ := by
  have hx : (moved b s).drive = enterDirection d (readDriveInputs b s).drive := by
    rw [moved_changing hcalm h, periodChanging, selector_readDriveInputs, hsel]
    simp only
    rw [if_neg (by rw [readDriveInputs_drive]; exact hpend), if_pos (by rw [readDriveInputs_drive]; exact hlast)]
  have hne : (enterDirection d (readDriveInputs b s).drive).state ≠ s.drive.state := by
    rw [h]
    cases d <;> simp [enterDirection]
  rw [(settles_calm hcalm hx (.inl hne)).1, stance_enterDirection]

theorem changing_rests (h : s.drive.state = .changing) (hsel : selector s = none) :
    stance (drivePeriod b s).drive
      = { stance s.drive with state := .neutral, pendDir := none, dwellTimer := none } := by
  have hx : (moved b s).drive
      = { (readDriveInputs b s).drive with state := .neutral, pendDir := none, dwellTimer := none } := by
    rw [moved_changing hcalm h, periodChanging, selector_readDriveInputs, hsel]
  rw [(settles_calm hcalm hx (.inl (by simp [h]))).1, ← stance_readDriveInputs b s]
  rfl

/-- The standing test of CHANGING moves the dwell timer alone (R52). -/
theorem changing_stays (h : s.drive.state = .changing)
    (hstays : ∀ d, selector s = some d → s.drive.pendDir = some d ∨ s.drive.lastDir ≠ some d)
    (hsel : selector s ≠ none) :
    (moved b s).drive = (readDriveInputs b s).drive
      ∧ (stood b s).drive = standChanging b (driveChain b (moved b s)) := by
  obtain ⟨d, hd⟩ := Option.ne_none_iff_exists'.mp hsel
  have hx : (moved b s).drive = (readDriveInputs b s).drive := by
    rw [moved_changing hcalm h, periodChanging, selector_readDriveInputs, hd]
    simp only
    split
    · rfl
    · next hpend =>
      refine if_neg fun hlast => ?_
      rcases hstays d hd with hp | hl
      · exact hpend (by rw [readDriveInputs_drive]; exact hp)
      · exact hl (by rw [readDriveInputs_drive] at hlast; exact hlast)
  exact ⟨hx, stood_changing ((begin_state hcalm).trans h) (by rw [hx, readDriveInputs_state, h])⟩

theorem neutral_stays (h : s.drive.state = .neutral) (hsel : selector s = none) :
    (moved b s).drive = (readDriveInputs b s).drive
      ∧ (stood b s).drive = standNeutral b (driveChain b (moved b s)) := by
  have hx : (moved b s).drive = (readDriveInputs b s).drive := by
    rw [moved_neutral hcalm h, periodNeutral, selector_readDriveInputs, hsel]
  exact ⟨hx, stood_neutral ((begin_state hcalm).trans h) (by rw [hx, readDriveInputs_state, h])⟩

end

theorem standChanging_keeps (b : StartBlock) (s : State) :
    (standChanging b s).state = s.drive.state ∧ (standChanging b s).lastDir = s.drive.lastDir
      ∧ (standChanging b s).pendDir = s.drive.pendDir ∧ (standChanging b s).brakeApplied = s.drive.brakeApplied
      ∧ (standChanging b s).parkTimer = s.drive.parkTimer ∧ (standChanging b s).trim = s.drive.trim := by
  unfold standChanging
  split_ifs <;> exact ⟨rfl, rfl, rfl, rfl, rfl, rfl⟩

/-- The standing test of NEUTRAL parks the drive or moves its park timer (R50). -/
theorem standNeutral_cases (b : StartBlock) (s : State) :
    (standNeutral b s).lastDir = s.drive.lastDir ∧ (s.drive.brakeApplied = true → (standNeutral b s).brakeApplied = true)
      ∧ ((standNeutral b s).state = s.drive.state ∧ (standNeutral b s).trim = s.drive.trim
        ∨ (standNeutral b s).state = .parked ∧ (standNeutral b s).trim = 0) := by
  unfold standNeutral startPark
  split_ifs
  · exact ⟨rfl, id, .inl ⟨rfl, rfl⟩⟩
  · exact ⟨rfl, fun _ => rfl, .inr ⟨rfl, rfl⟩⟩
  · exact ⟨rfl, id, .inl ⟨rfl, rfl⟩⟩
  · exact ⟨rfl, id, .inl ⟨rfl, rfl⟩⟩

end Sys2Proof.Machine
end

section
/-! SUPPORT. The selector and the drive states as the statements say them (R42, R48 to R55). -/

namespace Sys2Proof.Machine

-- One thread elaborates this section, so that the check's memory limit holds the stacks.
set_option Elab.async false

theorem tripping_of_silenced {s : State} (h : s.start.station = .silenced) : tripping s := .inr (.inr (.inr h))

/-- A drive that stands TRIPPED is held while a release condition is missing (R55). -/
theorem tripped_held {b : StartBlock} {s : State} (hstate : s.drive.state = .tripped)
    (h : tripping s ∨ s.start.station ≠ .running ∨ selector s ≠ none ∨ s.drive.brakeApplied = false) :
    (drivePeriod b s).drive.state = .tripped ∧ (drivePeriod b s).drive.lastDir = s.drive.lastDir
      ∧ (drivePeriod b s).drive.trim = s.drive.trim
      ∧ (s.drive.brakeApplied = true → (drivePeriod b s).drive.brakeApplied = true) := by
  have hbegin := driveBegin_tripped (b := b) hstate
  have hread := readDriveInputs_drive b s
  have hheld : tripReleased (driveBegin b s) = false := by
    rcases h with h | h
    · exact tripReleased_of_tripping h
    · by_contra hrel
      obtain ⟨-, hrun, hsel, hbrake⟩ := (tripReleased_iff _).mp (by simpa using hrel)
      rw [hbegin, readDriveInputs_start] at hrun
      rw [hbegin, selector_readDriveInputs] at hsel
      rw [hbegin, hread] at hbrake
      rcases h with h | h | h
      · exact h hrun
      · exact h hsel
      · exact absurd (hbrake.symm.trans h) (by decide)
  have htripped : (driveBegin b s).drive.state = .tripped := by rw [hbegin, hread, hstate]
  obtain ⟨kstate, klast, -, -, ktrim, kbrake⟩ := tripped_stays htripped hheld
  rw [hbegin, hread] at klast ktrim kbrake
  exact ⟨kstate, klast, ktrim, kbrake⟩

/-- A drive that a period trips (R54). -/
theorem trips_held {b : StartBlock} {s : State} (hstate : s.drive.state ≠ .tripped) (h : tripping s) :
    (drivePeriod b s).drive.state = .tripped ∧ (drivePeriod b s).drive.lastDir = s.drive.lastDir
      ∧ (s.drive.brakeApplied = true → (drivePeriod b s).drive.brakeApplied = true) := by
  have hbegin := (drive_of_trips (b := b) hstate h).1
  rw [readDriveInputs_drive] at hbegin
  have htripped : (driveBegin b s).drive.state = .tripped := by rw [hbegin]; rfl
  obtain ⟨kstate, klast, -, -, -, kbrake⟩ := tripped_stays htripped (tripReleased_of_tripping h)
  rw [hbegin] at klast kbrake
  exact ⟨kstate, klast, kbrake⟩

/-- The release of a TRIPPED drive (R55). -/
theorem tripped_released {b : StartBlock} {s : State} (hstate : s.drive.state = .tripped) (hcalm : ¬ tripping s)
    (hrun : s.start.station = .running) (hsel : selector s = none) (hbrake : s.drive.brakeApplied = true) :
    (drivePeriod b s).drive.state = .parked := by
  have hbegin := driveBegin_tripped (b := b) hstate
  have hrel : tripReleased (readDriveInputs b s) = true := by
    refine (tripReleased_iff _).mpr ⟨?_, ?_, ?_, ?_⟩
    · by_contra hst
      exact hcalm ((trips_iff b s).mp (.inl (by simpa using hst)))
    · rw [readDriveInputs_start]; exact hrun
    · rw [selector_readDriveInputs]; exact hsel
    · rw [readDriveInputs_drive]; exact hbrake
  have hmoved : (moved b s).drive = enterParked (readDriveInputs b s).drive := by
    rw [moved, hbegin, driveTransition, readDriveInputs_state, hstate]
    simp only [periodTripped, hrel, if_true]
    rfl
  have hne : (enterParked (readDriveInputs b s).drive).state ≠ (driveBegin b s).drive.state := by
    rw [hbegin, readDriveInputs_state, hstate]
    simp [enterParked]
  exact (stance_inj (settles hmoved (.inl hne)).1).1

/-- NEUTRAL with an idle selector (R50). -/
theorem neutral_idle {b : StartBlock} {s : State} (hcalm : ¬ tripping s) (h : s.drive.state = .neutral)
    (hsel : selector s = none) :
    ((drivePeriod b s).drive.state = .neutral ∨ (drivePeriod b s).drive.state = .parked)
      ∧ (drivePeriod b s).drive.lastDir = s.drive.lastDir
      ∧ (s.drive.brakeApplied = true → (drivePeriod b s).drive.brakeApplied = true) := by
  obtain ⟨hmoved, hstood⟩ := neutral_stays (b := b) hcalm h hsel
  obtain ⟨klast, kbrake, kstate⟩ := standNeutral_cases b (driveChain b (moved b s))
  obtain ⟨sstate, slast, -, sbrake, -, -⟩ := stance_inj (stance_drivePeriod b s)
  rw [← hstood] at klast kbrake kstate
  simp only [driveChain_state, driveChain_lastDir, driveChain_brakeApplied, driveChain_trim, hmoved, readDriveInputs_drive,
    h] at klast kbrake kstate
  rw [sstate, slast, sbrake]
  exact ⟨kstate.imp And.left And.left, klast, kbrake⟩

/-- CHANGING towards its pending direction (R51). -/
theorem changing_pends {b : StartBlock} {s : State} (hcalm : ¬ tripping s) (h : s.drive.state = .changing) {d : Direction}
    (hsel : selector s = some d) (hpend : s.drive.pendDir = some d) :
    (drivePeriod b s).drive.state = .changing ∧ (drivePeriod b s).drive.pendDir = some d := by
  obtain ⟨hmoved, hstood⟩ := changing_stays (b := b) hcalm h
    (fun e he => .inl (by rw [hpend, ← hsel, he])) (by simp [hsel])
  obtain ⟨kstate, -, kpend, -⟩ := standChanging_keeps b (driveChain b (moved b s))
  obtain ⟨sstate, -, spend, -⟩ := stance_inj (stance_drivePeriod b s)
  rw [← hstood] at kstate kpend
  simp only [driveChain_state, driveChain_pendDir, hmoved, readDriveInputs_drive] at kstate kpend
  exact ⟨sstate.trans (kstate.trans h), spend.trans (kpend.trans hpend)⟩

/-- Outside RUNNING a period without a trip takes no direction (R42). -/
theorem listening_period {b : StartBlock} {s : State} (hcalm : ¬ tripping s) (hsel : selector s = none)
    (hstate : s.drive.state ≠ .tripped) :
    ((drivePeriod b s).drive.state = .parked ∨ (drivePeriod b s).drive.state = .neutral)
      ∧ (drivePeriod b s).drive.lastDir = s.drive.lastDir
      ∧ (s.drive.brakeApplied = true → (drivePeriod b s).drive.brakeApplied = true)
      ∧ (s.drive.state = .parked → (drivePeriod b s).drive.state = .parked)
      ∧ (s.drive.state = .forward ∨ s.drive.state = .reverse ∨ s.drive.state = .changing →
          (drivePeriod b s).drive.state = .neutral) := by
  have hdriving : ∀ d : Direction, s.drive.state = d.own → (drivePeriod b s).drive.state = .neutral
      ∧ (drivePeriod b s).drive.lastDir = s.drive.lastDir
      ∧ (drivePeriod b s).drive.brakeApplied = s.drive.brakeApplied := fun d hd => by
    obtain ⟨hstance, -⟩ := driving_rests (b := b) hcalm hd hsel
    simp only [stance, Stance.mk.injEq] at hstance
    obtain ⟨h1, h2, -, h4, -⟩ := hstance
    exact ⟨h1, h2, h4⟩
  cases hst : s.drive.state with
  | parked =>
    obtain ⟨h1, h2, -, h4, -⟩ := stance_inj (parked_stays (b := b) hcalm hst (.inl hsel))
    rw [hst] at h1
    exact ⟨.inl h1, h2, fun h => h4.trans h, fun _ => h1, by simp⟩
  | forward =>
    obtain ⟨h1, h2, h4⟩ := hdriving .forward hst
    exact ⟨.inr h1, h2, fun h => h4.trans h, by simp, fun _ => h1⟩
  | reverse =>
    obtain ⟨h1, h2, h4⟩ := hdriving .reverse hst
    exact ⟨.inr h1, h2, fun h => h4.trans h, by simp, fun _ => h1⟩
  | neutral =>
    obtain ⟨h1, h2, h4⟩ := neutral_idle (b := b) hcalm hst hsel
    exact ⟨h1.symm, h2, h4, by simp, by simp⟩
  | changing =>
    have hstance := changing_rests (b := b) hcalm hst hsel
    simp only [stance, Stance.mk.injEq] at hstance
    obtain ⟨h1, h2, -, h4, -⟩ := hstance
    exact ⟨.inr h1, h2, fun h => h4.trans h, by simp, fun _ => h1⟩
  | tripped => exact absurd hst hstate

theorem PinsRead.selector_picks {i : DriveInputs} {s u : State} (hu : PinsRead i s u) (hrun : s.start.station = .running)
    (d : Direction) (hf : i.dirF = (d == .forward)) (hr : i.dirR = (d == .reverse)) : selector u = some d := by
  have hrun' : u.start.station = .running := by rw [hu.start]; exact hrun
  obtain ⟨hforward, hreverse⟩ := selector_running hrun'
  rw [hu.pins] at hforward hreverse
  cases d
  · exact hforward hf hr
  · exact hreverse hf hr

theorem PinsRead.selector_idle {i : DriveInputs} {s u : State} (hu : PinsRead i s u) (h : i.dirF = i.dirR) :
    selector u = none := selector_same (by rw [hu.pins]; exact h)

/-- Settles O16. -/
theorem drivePeriodTakesTheSelector : Obligations.DrivePeriodTakesTheSelector := by
  unfold Obligations.DrivePeriodTakesTheSelector
  refine ⟨?_, ?_, ?_, ?_⟩
  · intro s f r
    exact ⟨selector_of_not_running, fun hrun => (selector_running hrun).1, fun hrun => (selector_running hrun).2,
      selector_same⟩
  · intro i s b himage hpop hstation
    have hmeasures : driveMeasures s = true := by
      rw [driveMeasures_iff, periodsRun_iff]
      exact ⟨hpop, hstation.imp id .inr⟩
    refine ⟨_, exec_drivePeriod himage hmeasures, ?_⟩
    have hu := pinsRead i s
    generalize s.withPins { s.pins with drive := i } = u at hu ⊢
    have hrun : u.start.station ≠ .running := by
      rw [hu.start]
      rcases hstation with h | h <;> rw [h] <;> decide
    have hsel := selector_of_not_running hrun
    have hdir : active .dirInput (drivePeriod b u) = false := by
      rw [(drivePeriod_causes b u).2.1]
      simp [hrun]
    rw [← hu.drive]
    by_cases htripped : u.drive.state = .tripped
    · obtain ⟨h1, h2, -, h4⟩ := tripped_held (b := b) htripped (.inr (.inl hrun))
      rw [h1]
      exact ⟨by decide, by decide, by decide, h2, h4, hdir, fun _ => rfl, fun _ _ _ _ => by simp [htripped]⟩
    · by_cases htrip : tripping u
      · obtain ⟨h1, h2, h4⟩ := trips_held (b := b) htripped htrip
        rw [h1]
        refine ⟨by decide, by decide, by decide, h2, h4, hdir, fun _ => rfl, fun hlisten hspan hpedal hspeed => ?_⟩
        rcases hu.tripping_iff.mp htrip with h | h | h | h
        · exact absurd (hspan.symm.trans h) (by decide)
        · exact absurd (hpedal.symm.trans h) (by decide)
        · exact absurd (hspeed.symm.trans h) (by decide)
        · exact absurd (hlisten.symm.trans h) (by decide)
      · obtain ⟨h1, h2, h4, hparked, hrests⟩ := listening_period (b := b) htrip hsel htripped
        refine ⟨?_, ?_, ?_, h2, h4, hdir, fun hsil => ?_, fun _ _ _ _ => ⟨hparked, fun _ => h1.symm, hrests⟩⟩
        · rcases h1 with h | h <;> rw [h] <;> decide
        · rcases h1 with h | h <;> rw [h] <;> decide
        · rcases h1 with h | h <;> rw [h] <;> decide
        · exact absurd (tripping_of_silenced (by rw [hu.start]; exact hsil)) htrip
  · intro i s b himage hmeasures hstate hheld
    refine ⟨_, exec_drivePeriod himage hmeasures, ?_⟩
    have hu := pinsRead i s
    generalize s.withPins { s.pins with drive := i } = u at hu ⊢
    have hheld' : tripping u ∨ u.start.station ≠ .running ∨ selector u ≠ none ∨ u.drive.brakeApplied = false := by
      rw [hu.tripping_iff, hu.start, hu.drive]
      rcases hheld with h | h | h | h | h | h
      · exact .inl (.inl h)
      · exact .inl (.inr (.inl h))
      · exact .inl (.inr (.inr (.inl h)))
      · exact .inr (.inl h)
      · by_cases hrun : s.start.station = .running
        · exact .inr (.inr (.inl (selector_isSome (by rw [hu.pins]; exact h) (by rw [hu.start]; exact hrun))))
        · exact .inr (.inl hrun)
      · exact .inr (.inr (.inr h))
    rw [← hu.drive] at hstate ⊢
    obtain ⟨h1, h2, h3, -⟩ := tripped_held hstate hheld'
    exact ⟨h1, h2, h3⟩
  · intro i s b himage hpop hrun hspan hpedal hspeed
    have hmeasures : driveMeasures s = true := by
      rw [driveMeasures_iff, periodsRun_iff]
      exact ⟨hpop, .inr (.inl hrun)⟩
    refine ⟨_, exec_drivePeriod himage hmeasures, ?_⟩
    have hu := pinsRead i s
    generalize s.withPins { s.pins with drive := i } = u at hu ⊢
    intro d own hown picks idle rest
    have hcalm : ¬ tripping u := by
      rw [hu.tripping_iff, hspan, hpedal, hspeed, hrun]
      simp
    have hrun' : u.start.station = .running := by rw [hu.start]; exact hrun
    have hpicks : picks → selector u = some d := fun h =>
      hu.selector_picks hrun d (by cases d <;> exact h.1) (by cases d <;> exact h.2)
    have hidle : idle → selector u = none := hu.selector_idle
    have hown' : own = d.own := by cases d <;> exact hown
    have hrest : atRest b u = true ↔ rest := by
      rw [atRest_iff, hu.sp, hu.travelQuality, hu.drive]
    have hpressed : pedalPressed b u = true ↔ b.drive.pedalDeadband < i.pedal.toNat := by
      simp [pedalPressed, hu.pins, hspan]
    rw [hown', ← hu.drive, ← hu.start]
    refine ⟨?_, ?_, ?_, ?_, ?_, ?_, ?_, ?_, ?_, ?_, ?_, ?_, ?_⟩
    · intro hstate hp hmode hpedal
      obtain ⟨h1, h2, -, h4, -⟩ :=
        Stance.mk.inj (parked_departs (b := b) hcalm hstate (hpicks hp) hrun' hmode (hpressed.mpr hpedal))
      exact ⟨h1, h2, h4⟩
    · intro hstate hstays
      obtain ⟨h1, -, -, h4, -⟩ := stance_inj (parked_stays (b := b) hcalm hstate
        (hstays.imp hidle (Or.imp_right fun h => by
          rw [Bool.eq_false_iff, ne_eq, hpressed]
          omega)))
      exact ⟨h1.trans hstate, h4⟩
    · intro hstate hp
      obtain ⟨h1, h2, -⟩ := stance_inj (driving_stays (b := b) hcalm hstate (hpicks hp))
      exact ⟨h1.trans hstate, h2⟩
    · intro hstate hi
      obtain ⟨hstance, htrim⟩ := driving_rests (b := b) hcalm hstate (hidle hi)
      obtain ⟨h1, h2, -, h4, -⟩ := Stance.mk.inj hstance
      exact ⟨h1, htrim, h2, h4⟩
    · intro hdriving hne hp
      obtain ⟨e, he⟩ : ∃ e : Direction, u.drive.state = e.own :=
        hdriving.elim (fun h => ⟨.forward, h⟩) (fun h => ⟨.reverse, h⟩)
      obtain ⟨hstance, htrim⟩ := driving_turns (b := b) (d := d) hcalm he (fun h => hne (by rw [he, h])) (hpicks hp)
      obtain ⟨h1, h2, h3, -⟩ := Stance.mk.inj hstance
      exact ⟨h1, h3, htrim, h2⟩
    · intro hstate hp hlast
      obtain ⟨h1, -, -, h4, h5, -⟩ :=
        Stance.mk.inj (neutral_departs (b := b) hcalm hstate (hpicks hp) (.inl hlast))
      exact ⟨h1, h5, h4⟩
    · intro hstate hp _ hr
      obtain ⟨h1, h2, -, -, h5, -⟩ :=
        Stance.mk.inj (neutral_departs (b := b) hcalm hstate (hpicks hp) (.inr (hrest.mpr hr)))
      exact ⟨h1, h2, h5⟩
    · intro hstate hp hlast hr
      have hatRest : atRest b u = false := by rw [Bool.eq_false_iff, ne_eq, hrest]; exact hr
      obtain ⟨h1, -, h3, -, h5, -⟩ :=
        Stance.mk.inj (neutral_turns (b := b) hcalm hstate (hpicks hp) hlast hatRest).1
      exact ⟨h1, h3, h5⟩
    · exact fun hstate hp hpend => changing_pends hcalm hstate (hpicks hp) hpend
    · intro hstate hp hpend hlast
      obtain ⟨h1, -, h3, -, -, h6⟩ :=
        Stance.mk.inj (changing_departs (b := b) hcalm hstate (hpicks hp) hpend hlast)
      exact ⟨h1, h3, h6⟩
    · intro hstate hi
      obtain ⟨h1, -, h3, -, -, h6⟩ := Stance.mk.inj (changing_rests (b := b) hcalm hstate (hidle hi))
      exact ⟨h1, h6, h3⟩
    · intro hstate hp
      exact (tripped_held (b := b) hstate (.inr (.inr (.inl (by simp [hpicks hp]))))).1
    · exact fun hstate hi hbrake => tripped_released hstate hcalm hrun' (hidle hi) hbrake

end Sys2Proof.Machine
end

section
/-! SUPPORT. The pump command, the pressure cut and the trim (R60 to R65). -/

namespace Sys2Proof.Machine

-- One thread elaborates this section, so that the check's memory limit holds the stacks.
set_option Elab.async false

/-! ### The arithmetic -/

theorem pumpCommand_cases (o trim : Int) (feed : Nat) :
    (o = 0 → pumpCommand o feed trim = 0)
    ∧ (0 < o → pumpCommand o feed trim = max 0 (min 4095 ((feed : Int) + trim)))
    ∧ (o < 0 → pumpCommand o feed trim = - max 0 (min 4095 ((feed : Int) + trim))) := by
  unfold pumpCommand
  refine ⟨fun h => if_pos h, fun h => ?_, fun h => ?_⟩
  · rw [if_neg (by omega), if_neg (by omega)]
  · rw [if_neg (by omega), if_pos h]

theorem pressureCut_cases (p : DriveParams) (bar d last : Nat) :
    (p.cutPressure < bar → pressureCut p (some bar) d last = (.reduce, min d (last - p.cutStep)))
    ∧ (bar ≤ p.cutPressure → (p.cutPressure : Int) - p.cutHysteresis < bar →
        pressureCut p (some bar) d last = (.hold, min d last))
    ∧ ((bar : Int) ≤ p.cutPressure - p.cutHysteresis → pressureCut p (some bar) d last = (.none, d))
    ∧ pressureCut p none d last = (.none, d)
    ∧ (pressureCut p (some bar) d last).2 ≤ d := by
  unfold pressureCut
  refine ⟨fun h => if_pos h, fun h h' => ?_, fun h => ?_, rfl, ?_⟩
  · simp only
    rw [if_neg (by omega), if_pos (by omega)]
  · simp only
    rw [if_neg (by omega), if_neg (by omega)]
  · simp only
    split_ifs
    · exact Nat.min_le_left _ _
    · exact Nat.min_le_left _ _
    · exact Nat.le_refl _

theorem trimmed_cases (p : DriveParams) (e trim : Int) (hlow : -(p.trimLimit : Int) ≤ trim) (hhigh : trim ≤ p.trimLimit) :
    ((p.trimDeadband : Int) < e → trimmed p false e trim = min (p.trimLimit : Int) (trim + 1))
    ∧ ((p.trimDeadband : Int) < e → trimmed p true e trim = trim)
    ∧ (∀ frozen, -(p.trimDeadband : Int) ≤ e → e ≤ p.trimDeadband → trimmed p frozen e trim = trim)
    ∧ (∀ frozen, e < -(p.trimDeadband : Int) →
        trimmed p frozen e trim = max (-(p.trimLimit : Int)) (trim - 1))
    ∧ ∀ frozen, -(p.trimLimit : Int) ≤ trimmed p frozen e trim ∧ trimmed p frozen e trim ≤ p.trimLimit := by
  unfold trimmed
  refine ⟨fun h => if_pos h, fun h => if_pos h, fun frozen h h' => ?_, fun frozen h => ?_, fun frozen => ?_⟩
  · rw [if_neg (by omega), if_neg (by omega)]
  · rw [if_neg (by omega), if_pos h]
  · split_ifs <;> omega

/-! ### The drive pins (R60) -/

theorem outputsDriven_iff (s : State) : outputsDriven s = true
    ↔ s.start.station = .listening ∨ s.start.station = .running ∨ s.start.station = .silenced := by
  unfold outputsDriven
  cases s.start.station <;> simp

theorem outputs_drive_driven {s : State} (h : outputsDriven s = true ∧ populated .drv s = true) :
    (outputs s).pumpFwd = s.drive.command.toNat ∧ (outputs s).pumpRev = (-s.drive.command).toNat
      ∧ (outputs s).brakeRel = !s.drive.brakeApplied := by
  simp [outputs, h]

theorem outputs_drive_rests {s : State} (h : ¬ (outputsDriven s = true ∧ populated .drv s = true)) :
    (outputs s).pumpFwd = 0 ∧ (outputs s).pumpRev = 0 ∧ (outputs s).brakeRel = false := by
  have hoff : (outputsDriven s && populated .drv s) = false := by
    rwa [← Bool.and_eq_true, Bool.not_eq_true] at h
  simp [outputs, hoff]

/-! ### The trim over a period (R64) -/

/-- What step 3 makes of state and trim, of a drive that it finds in `from`. -/
def TrimMoves (start : DriveState) (trim : Int) (x : Drive) : Prop :=
  (x.trim = trim ∧ (x.state = start ∨ x.state = .forward ∨ x.state = .reverse ∨ (x.state = .neutral ∧ start = .changing)))
    ∨ (x.trim = 0 ∧ x.state ≠ start ∧ x.state ≠ .forward ∧ x.state ≠ .reverse)

theorem trimMoves_enterDirection (start : DriveState) (d : Direction) (x : Drive) :
    TrimMoves start x.trim (enterDirection d x) := by
  refine .inl ⟨rfl, .inr ?_⟩
  cases d
  · exact .inl rfl
  · exact .inr (.inl rfl)

theorem trimMoves_transition (b : StartBlock) (u : State) :
    TrimMoves u.drive.state u.drive.trim (driveTransition b u).drive := by
  have hkeep : TrimMoves u.drive.state u.drive.trim u.drive := .inl ⟨rfl, .inl rfl⟩
  have hdriving : ∀ own, u.drive.state ≠ .neutral → u.drive.state ≠ .changing →
      TrimMoves u.drive.state u.drive.trim (periodDriving own u) := by
    intro own hneutral hchanging
    unfold periodDriving
    split
    · exact .inr ⟨rfl, fun h => hneutral h.symm, by simp [enterNeutral], by simp [enterNeutral]⟩
    · split
      · exact hkeep
      · exact .inr ⟨rfl, fun h => hchanging h.symm, by simp [enterChanging], by simp [enterChanging]⟩
  unfold driveTransition
  split
  · unfold periodParked
    split
    · simp only [State.withDrive_drive]
      split
      · exact trimMoves_enterDirection _ _ _
      · exact hkeep
    · exact hkeep
  · next h => exact hdriving .forward (by simp [h]) (by simp [h])
  · next h => exact hdriving .reverse (by simp [h]) (by simp [h])
  · next h =>
    unfold periodNeutral
    split
    · simp only [State.withDrive_drive]
      split_ifs
      · exact trimMoves_enterDirection _ _ _
      · exact trimMoves_enterDirection _ _ _
      · exact .inr ⟨rfl, by simp [enterChanging, h], by simp [enterChanging], by simp [enterChanging]⟩
    · exact hkeep
  · next h =>
    unfold periodChanging
    split
    · exact .inl ⟨rfl, .inr (.inr (.inr ⟨rfl, h⟩))⟩
    · simp only [State.withDrive_drive]
      split_ifs
      · exact hkeep
      · exact trimMoves_enterDirection _ _ _
      · exact hkeep
  · next h =>
    rcases periodTripped_cases u with ht | ht <;> rw [ht]
    · exact hkeep
    · exact .inr ⟨rfl, by simp [enterParked, h], by simp [enterParked], by simp [enterParked]⟩

theorem trimMoves_moved (b : StartBlock) (s : State) : TrimMoves s.drive.state s.drive.trim (moved b s).drive := by
  by_cases htripped : s.drive.state = .tripped
  · have hmoves := trimMoves_transition b (driveBegin b s)
    rwa [driveBegin_tripped htripped, readDriveInputs_drive, ← driveBegin_tripped (b := b) htripped] at hmoves
  · by_cases htrip : tripping s
    · obtain ⟨hbegin, -⟩ := drive_of_trips (b := b) htripped htrip
      have hmoved := moved_of_held (b := b) (s := s) (by rw [hbegin]; rfl) (tripReleased_of_tripping htrip)
      rw [hmoved, hbegin]
      exact .inr ⟨rfl, fun h => htripped h.symm, by simp [enterTripped], by simp [enterTripped]⟩
    · have hmoves := trimMoves_transition b (driveBegin b s)
      rw [driveBegin_calm htrip] at hmoves
      rw [moved_calm htrip]
      rwa [readDriveInputs_drive] at hmoves

theorem driveBegin_state (b : StartBlock) (s : State) :
    (driveBegin b s).drive.state = s.drive.state ∨ (driveBegin b s).drive.state = .tripped := by
  rcases tripTest_cases (readDriveInputs b s) with h | ⟨-, h⟩ <;> rw [driveBegin, h]
  · exact .inl (readDriveInputs_state b s)
  · exact .inr rfl

theorem trimMoves_stood (b : StartBlock) (s : State) : TrimMoves s.drive.state s.drive.trim (stood b s).drive := by
  have hkept : ∀ x : Drive, x.state = (moved b s).drive.state → x.trim = (moved b s).drive.trim →
      TrimMoves s.drive.state s.drive.trim x := fun x hstate htrim => by
    rw [TrimMoves, hstate, htrim]
    exact trimMoves_moved b s
  have hchain := hkept (driveChain b (moved b s)).drive (driveChain_state _ _) (driveChain_trim _ _)
  by_cases hmoved : (moved b s).drive.state = (driveBegin b s).drive.state
  · cases hstate : (driveBegin b s).drive.state with
    | parked => rw [stood_of_resting (.inl hstate)]; exact hchain
    | forward => rw [stood_of_resting (.inr (.inl hstate))]; exact hchain
    | reverse => rw [stood_of_resting (.inr (.inr hstate))]; exact hchain
    | neutral =>
      obtain ⟨-, -, ⟨kstate, ktrim⟩ | ⟨kstate, ktrim⟩⟩ := standNeutral_cases b (driveChain b (moved b s))
      · rw [stood_neutral hstate (hmoved.trans hstate)]
        exact hkept _ (kstate.trans (driveChain_state _ _)) (ktrim.trans (driveChain_trim _ _))
      · rw [stood_neutral hstate (hmoved.trans hstate)]
        have hneutral : s.drive.state = .neutral := by
          rcases driveBegin_state b s with h | h <;> rw [hstate] at h
          · exact h.symm
          · cases h
        exact .inr ⟨ktrim, by simp [kstate, hneutral], by simp [kstate], by simp [kstate]⟩
    | changing =>
      obtain ⟨kstate, -, -, -, -, ktrim⟩ := standChanging_keeps b (driveChain b (moved b s))
      rw [stood_changing hstate (hmoved.trans hstate)]
      exact hkept _ (kstate.trans (driveChain_state _ _)) (ktrim.trans (driveChain_trim _ _))
    | tripped =>
      obtain ⟨kstate, -, -, -, ktrim, -⟩ := standTripped_keeps b (driveChain b (moved b s))
      rw [stood_tripped hstate (hmoved.trans hstate)]
      exact hkept _ (kstate.trans (driveChain_state _ _)) (ktrim.trans (driveChain_trim _ _))
  · rw [stood_of_moved hmoved]
    exact hchain

theorem drivePeriod_state (b : StartBlock) (s : State) : (drivePeriod b s).drive.state = (stood b s).drive.state :=
  (stance_inj (stance_drivePeriod b s)).1

/-- The trim of a driving period moves by the speed error, of good quality alone (R64). -/
theorem drivePeriod_trim_driving {b : StartBlock} {s : State}
    (h : (stood b s).drive.state = .forward ∨ (stood b s).drive.state = .reverse) :
    (drivePeriod b s).drive.trim = if ownTravelQuality (stood b s) = .good then
        trimmed b.drive (trimFrozen (stood b s))
          (((stood b s).sp.drv.ramp.out.natAbs : Int) - ((stood b s).drive.meas.v.natAbs : Int)) s.drive.trim
      else s.drive.trim := by
  have htrim : (stood b s).drive.trim = s.drive.trim := by
    rcases trimMoves_stood b s with ⟨htrim, -⟩ | ⟨-, -, hf, hr⟩
    · exact htrim
    · exact (h.elim hf hr).elim
  rw [drivePeriod_drive, updateTrim]
  simp only [h, true_and]
  split
  · rw [← htrim]
    rfl
  · exact htrim

theorem drivePeriod_trim_rests {b : StartBlock} {s : State}
    (h : ¬ ((drivePeriod b s).drive.state = .forward ∨ (drivePeriod b s).drive.state = .reverse)) :
    ((drivePeriod b s).drive.state = s.drive.state → (drivePeriod b s).drive.trim = s.drive.trim)
      ∧ ((drivePeriod b s).drive.state ≠ s.drive.state →
        ¬ ((drivePeriod b s).drive.state = .neutral ∧ s.drive.state = .changing) → (drivePeriod b s).drive.trim = 0) := by
  rw [drivePeriod_state] at h ⊢
  obtain ⟨hf, hr⟩ := not_or.mp h
  rw [drivePeriod_trim_standing hf hr]
  rcases trimMoves_stood b s with ⟨htrim, hstate⟩ | ⟨htrim, hne, -, -⟩
  · refine ⟨fun _ => htrim, fun hne hchanging => ?_⟩
    rcases hstate with h | h | h | h
    · exact absurd h hne
    · exact absurd h hf
    · exact absurd h hr
    · exact absurd h hchanging
  · exact ⟨fun h => absurd h hne, fun _ _ => htrim⟩

/-! ### The chain (R56 to R62) -/

theorem ownTravelQuality_congr {s t : State} (hsticky : sticky .speedSensor t = sticky .speedSensor s)
    (hmeas : t.drive.meas = s.drive.meas) : ownTravelQuality t = ownTravelQuality s := by
  rw [ownTravelQuality, ownTravelQuality, hsticky, hmeas]

theorem sensed_driveChain (b : StartBlock) (u : State) : sensed (driveChain b u).drive = sensed u.drive := rfl

/-- The standing tests leave the chain's results, and the measurements of the period's begin. -/
theorem stood_leaves (b : StartBlock) (s : State) :
    (stood b s).sp = (driveChain b (moved b s)).sp
      ∧ (stood b s).drive.cut = (driveChain b (moved b s)).drive.cut
      ∧ (stood b s).drive.meas = s.drive.meas
      ∧ ownTravelQuality (stood b s) = ownTravelQuality s := by
  obtain ⟨-, hcut, -, hsensed⟩ := standTest_drive b (driveBegin b s).drive.state (driveChain b (moved b s))
  have hsp : (stood b s).sp = (driveChain b (moved b s)).sp := standTest_sp _ _ _
  have hmeas : (stood b s).drive.meas = s.drive.meas := by
    obtain ⟨-, -, hread⟩ := drivePeriod_readings b s
    have hperiod := sensed_drivePeriod b s
    have hchain : sensed (driveChain b (moved b s)).drive = sensed (readDriveInputs b s).drive :=
      (sensed_driveChain b _).trans ((sensed_driveTransition b _).trans (sensed_driveBegin b s))
    have hall : sensed (stood b s).drive = sensed (drivePeriod b s).drive := hsensed.trans (hchain.trans hperiod.symm)
    simp only [sensed, Prod.mk.injEq] at hall
    obtain ⟨-, -, -, hmeas⟩ := hall
    exact hmeas.trans hread
  have hfaults : (stood b s).faults = (readDriveInputs b s).faults := by
    rw [← stood_faults, updateTrim_faults]
  have hsticky : sticky .speedSensor (stood b s) = sticky .speedSensor s :=
    (sticky_congr hfaults _).trans (sticky_readDriveInputs b s).2
  exact ⟨hsp, hcut, hmeas, ownTravelQuality_congr hsticky hmeas⟩

theorem moved_start (b : StartBlock) (s : State) : (moved b s).start = s.start := by
  rw [moved, (driveTransition_keeps _ _).start, driveBegin, tripTest_start, readDriveInputs_start]

/-- The results of the chain (R56 to R62). -/
theorem driveChain_results (b : StartBlock) (u : State) :
    let ramp := u.sp.drv.ramp.step 1500 (driveTimes b u) (driveTarget b u)
    let feed := curveLookup (activeBank b u).feed ramp.out.natAbs
    let k := factor (activeBank b u).drvPair (activeBank b u).blindShare (droop b u)
    let derated := derateInt (pumpCommand ramp.out feed.1 u.drive.trim) k
    let cut := pressureCut b.drive (cutPressureRead u) derated.natAbs u.drive.command.natAbs
    (driveChain b u).sp.drv = ⟨ramp, (pedalSpeed b u).2, feed.2.pair, k⟩
      ∧ (driveChain b u).drive.cut = cut.1 ∧ (driveChain b u).drive.command = withSign derated cut.2 :=
  ⟨rfl, rfl, rfl⟩

theorem trimFrozen_eq (s : State) : trimFrozen s
    = decide (s.sp.drv.k < 256 ∨ s.drive.cut ≠ .none ∨ s.sp.drv.feedClamp.high = true) := by
  simp [trimFrozen, Bool.or_assoc]

/-- Settles O18. -/
theorem pumpCommandCutAndTrim : Obligations.PumpCommandCutAndTrim := by
  unfold Obligations.PumpCommandCutAndTrim
  refine ⟨fun o trim feed => pumpCommand_cases o trim feed, pressureCut_cases, trimmed_cases, ?_, ?_⟩
  · intro s driven
    have hdriven : outputsDriven s = true ∧ populated .drv s = true ↔ driven := by rw [outputsDriven_iff]
    rw [← hdriven]
    refine ⟨fun h hc => ?_, fun h hc => ?_, fun h => ?_, outputs_drive_rests⟩ <;>
      obtain ⟨hfwd, hrev, hbrake⟩ := outputs_drive_driven h
    · rw [hfwd, hrev]
      omega
    · rw [hfwd, hrev]
      omega
    · rw [hbrake]
      simp
  · intro i s b himage hmeasures u bank fault times ramp feed k derated bar cut frozen error
    refine ⟨_, exec_drivePeriod himage hmeasures, ?_⟩
    have hw := pinsRead i s
    generalize hwdef : s.withPins { s.pins with drive := i } = w at hw ⊢
    have hu : u = moved b w := by rw [← hwdef]; rfl
    clear_value u
    subst hu
    have hbank : activeBank b (moved b w) = bank := by rw [activeBank, moved_start, hw.start]
    have htimes : driveTimes b (moved b w) = times := by rw [driveTimes, hbank]
    obtain ⟨hlast, -⟩ := driven_driveTransition b w
    have hlast' : (moved b w).drive.command = s.drive.command := hlast.trans (by rw [hw.drive])
    obtain ⟨hsp, hcut, hcommand⟩ := driveChain_results b (moved b w)
    rw [htimes, hbank] at hsp hcut hcommand
    rw [hlast'] at hcut hcommand
    obtain ⟨ssp, scut, smeas, squality⟩ := stood_leaves b w
    obtain ⟨pcommand, pcut⟩ := drivePeriod_command b w
    have hspeed : sticky .speedSensor (drivePeriod b w) = sticky .speedSensor s := by
      rw [sticky_drivePeriod, (sticky_readDriveInputs b w).2, sticky_congr hw.faults]
    have hactive : active .speedSensor (readDriveInputs b w) = active .speedSensor s := by
      rw [active_readDriveInputs, active_congr hw.faults]
      rfl
    have hfrozen : trimFrozen (stood b w) = frozen := by
      rw [trimFrozen_eq, ssp, scut, hsp, hcut]
      rfl
    have herror : ((stood b w).sp.drv.ramp.out.natAbs : Int) - ((stood b w).drive.meas.v.natAbs : Int) = error := by
      rw [ssp, hsp, smeas, hw.drive]
    refine ⟨by rw [drivePeriod_sp]; exact hsp, pcut.trans hcut, pcommand.trans hcommand, ⟨fun hdriving => ?_, ?_, ?_⟩,
      fun hquiet => ?_, fun hloud => ?_, hspeed⟩
    · rw [drivePeriod_state] at hdriving
      rw [drivePeriod_trim_driving hdriving, hfrozen, herror, squality, hw.travelQuality, hw.drive]
    · intro hdriving hstate
      rw [← hw.drive] at hstate ⊢
      exact (drivePeriod_trim_rests hdriving).1 hstate
    · intro hne hinto
      rw [← hw.drive] at hne hinto
      refine (drivePeriod_trim_rests ?_).2 hne ?_
      · rcases hinto with h | h | h | ⟨h, -⟩ <;> rw [h] <;> simp
      · rcases hinto with h | h | h | ⟨h, hchanging⟩
        · simp [h]
        · simp [h]
        · simp [h]
        · exact fun hn => hchanging hn.2
    · rw [drivePeriod_speedSilence, if_pos hquiet, active_drivePeriod, if_pos ⟨rfl, hquiet⟩]
      exact ⟨rfl, rfl⟩
    · rw [drivePeriod_speedSilence, if_neg (by omega), active_drivePeriod, if_neg (by omega), hactive, hw.drive]
      exact ⟨rfl, rfl⟩

end Sys2Proof.Machine
end

section
/-! SUPPORT. Park timer and dwell timer over a drive period, and the expiries of the drive (R50, R52, R55, R65). -/

namespace Sys2Proof.Machine

-- One thread elaborates this section, so that the check's memory limit holds the stacks.
set_option Elab.async false

/-- What a period without a trip makes of a drive that does not stand TRIPPED (R48 to R52). -/
inductive CalmOutcome (b : StartBlock) (s : State) : Prop
  | departs (d : Direction) (h : stance (drivePeriod b s).drive = ⟨d.own, some d, none, false, none, none⟩)
  | stays (hs : s.drive.state = .parked ∨ s.drive.state = .forward ∨ s.drive.state = .reverse)
      (h : stance (drivePeriod b s).drive = stance s.drive)
  | rests (hs : s.drive.state = .forward ∨ s.drive.state = .reverse)
      (h : stance (drivePeriod b s).drive = { stance s.drive with state := .neutral })
  | givesUp (hs : s.drive.state = .changing)
      (h : stance (drivePeriod b s).drive = { stance s.drive with state := .neutral, pendDir := none, dwellTimer := none })
  | turns (d : Direction) (hs : s.drive.state = .forward ∨ s.drive.state = .reverse ∨ s.drive.state = .neutral)
      (h : stance (drivePeriod b s).drive = { stance s.drive with state := .changing, pendDir := some d, parkTimer := none })
  | idles (hs : s.drive.state = .neutral) (hmoved : (moved b s).drive = (readDriveInputs b s).drive)
      (h : (stood b s).drive = standNeutral b (driveChain b (moved b s)))
  | waits (hs : s.drive.state = .changing) (hmoved : (moved b s).drive = (readDriveInputs b s).drive)
      (h : (stood b s).drive = standChanging b (driveChain b (moved b s)))

theorem calmOutcome {b : StartBlock} {s : State} (hcalm : ¬ tripping s) (hne : s.drive.state ≠ .tripped) :
    CalmOutcome b s := by
  have hdriving : ∀ own : Direction, s.drive.state = own.own → CalmOutcome b s := by
    intro own h
    have hs : s.drive.state = .forward ∨ s.drive.state = .reverse := by cases own <;> simp [h, Direction.own]
    cases hsel : selector s with
    | none => exact .rests hs (driving_rests hcalm h hsel).1
    | some d =>
      by_cases hd : d = own
      · exact .stays (.inr hs) (driving_stays hcalm h (hd ▸ hsel))
      · exact .turns d (by tauto) (driving_turns hcalm h hd hsel).1
  cases hstate : s.drive.state with
  | parked =>
    by_cases hgo : s.start.station = .running ∧ s.start.mode ≠ .service ∧ pedalPressed b s = true
    · obtain ⟨hrun, hmode, hpressed⟩ := hgo
      cases hsel : selector s with
      | none => exact .stays (.inl hstate) (parked_stays hcalm hstate (.inl hsel))
      | some d => exact .departs d (parked_departs hcalm hstate hsel hrun hmode hpressed)
    · refine .stays (.inl hstate) (parked_stays hcalm hstate ?_)
      by_cases hrun : s.start.station = .running
      · by_cases hmode : s.start.mode = .service
        · exact .inr (.inl hmode)
        · exact .inr (.inr (by simpa [hrun, hmode] using hgo))
      · exact .inl (selector_of_not_running hrun)
  | forward => exact hdriving .forward hstate
  | reverse => exact hdriving .reverse hstate
  | neutral =>
    cases hsel : selector s with
    | none =>
      obtain ⟨hmoved, h⟩ := neutral_stays (b := b) hcalm hstate hsel
      exact .idles hstate hmoved h
    | some d =>
      by_cases hmay : s.drive.lastDir = some d ∨ atRest b s = true
      · exact .departs d (neutral_departs hcalm hstate hsel hmay)
      · obtain ⟨hlast, hrest⟩ := not_or.mp hmay
        exact .turns d (by simp [hstate]) (neutral_turns hcalm hstate hsel hlast (by simpa using hrest)).1
  | changing =>
    cases hsel : selector s with
    | none => exact .givesUp hstate (changing_rests hcalm hstate hsel)
    | some d =>
      by_cases hgo : s.drive.pendDir ≠ some d ∧ s.drive.lastDir = some d
      · exact .departs d (changing_departs hcalm hstate hsel hgo.1 hgo.2)
      · obtain ⟨hmoved, h⟩ := changing_stays (b := b) hcalm hstate (fun e he => by
          rw [hsel, Option.some.injEq] at he
          subst he
          tauto) (by simp [hsel])
        exact .waits hstate hmoved h
  | tripped => exact absurd hstate hne

theorem drivePeriod_stance (b : StartBlock) (s : State) :
    (drivePeriod b s).drive.state = (stood b s).drive.state
      ∧ (drivePeriod b s).drive.brakeApplied = (stood b s).drive.brakeApplied
      ∧ (drivePeriod b s).drive.parkTimer = (stood b s).drive.parkTimer
      ∧ (drivePeriod b s).drive.dwellTimer = (stood b s).drive.dwellTimer := by
  obtain ⟨hstate, -, -, hbrake, hpark, hdwell⟩ := stance_inj (stance_drivePeriod b s)
  exact ⟨hstate, hbrake, hpark, hdwell⟩

theorem idles_state {b : StartBlock} {s : State} (hs : s.drive.state = .neutral)
    (hmoved : (moved b s).drive = (readDriveInputs b s).drive)
    (h : (stood b s).drive = standNeutral b (driveChain b (moved b s))) :
    (drivePeriod b s).drive.state = .neutral ∨ (drivePeriod b s).drive.state = .parked := by
  obtain ⟨-, -, hcases⟩ := standNeutral_cases b (driveChain b (moved b s))
  rw [drivePeriod_state, h]
  rcases hcases with ⟨hstate, -⟩ | ⟨hstate, -⟩
  · rw [hstate, driveChain_state, hmoved, readDriveInputs_state]
    exact .inl hs
  · exact .inr hstate

theorem waits_state {b : StartBlock} {s : State} (hs : s.drive.state = .changing)
    (hmoved : (moved b s).drive = (readDriveInputs b s).drive)
    (h : (stood b s).drive = standChanging b (driveChain b (moved b s))) : (drivePeriod b s).drive.state = .changing := by
  rw [drivePeriod_state, h, (standChanging_keeps _ _).1, driveChain_state, hmoved, readDriveInputs_state, hs]

theorem state_of_stance {x : Drive} {y : Stance} (h : stance x = y) : x.state = y.state := by
  rw [← h]
  rfl

theorem calm_not_tripped {b : StartBlock} {s : State} (h : CalmOutcome b s) : (drivePeriod b s).drive.state ≠ .tripped := by
  cases h with
  | departs d h => rw [state_of_stance h]; cases d <;> simp [Direction.own]
  | stays hs h => rw [state_of_stance h]; rcases hs with hs | hs | hs <;> simp [stance, hs]
  | rests hs h => rw [state_of_stance h]; simp
  | givesUp hs h => rw [state_of_stance h]; simp
  | turns d hs h => rw [state_of_stance h]; simp
  | idles hs hmoved h => rcases idles_state hs hmoved h with h | h <;> simp [h]
  | waits hs hmoved h => simp [waits_state hs hmoved h]

/-- A period that does not end TRIPPED found the drive calm, or released it into PARKED (R54, R55). -/
theorem calmOutcome_or {b : StartBlock} {s : State} (h : (drivePeriod b s).drive.state ≠ .tripped) :
    (s.drive.state ≠ .tripped ∧ CalmOutcome b s)
      ∨ (s.drive.state = .tripped ∧ (drivePeriod b s).drive.state = .parked) := by
  by_cases hstate : s.drive.state = .tripped
  · by_cases hheld : tripping s ∨ s.start.station ≠ .running ∨ selector s ≠ none ∨ s.drive.brakeApplied = false
    · exact absurd (tripped_held hstate hheld).1 h
    · simp only [not_or, not_not, Bool.not_eq_false] at hheld
      obtain ⟨hcalm, hrun, hsel, hbrake⟩ := hheld
      exact .inr ⟨hstate, tripped_released hstate hcalm hrun hsel hbrake⟩
  · by_cases htrip : tripping s
    · exact absurd (trips_held hstate htrip).1 h
    · exact .inl ⟨hstate, calmOutcome htrip hstate⟩

/-- A period that ends TRIPPED ends with the standing test of TRIPPED, on a park timer that entry has cleared (R54, R55). -/
theorem into_tripped {b : StartBlock} {s : State} (h : (drivePeriod b s).drive.state = .tripped) :
    (stood b s).drive = standTripped b (driveChain b (moved b s))
      ∧ (moved b s).drive.brakeApplied = s.drive.brakeApplied
      ∧ (moved b s).drive.parkTimer = if s.drive.state = .tripped then s.drive.parkTimer else none := by
  have hheld : ∀ x, (driveBegin b s).drive = x → x.state = .tripped → tripReleased (driveBegin b s) = false →
      (stood b s).drive = standTripped b (driveChain b (moved b s)) ∧ (moved b s).drive = x := by
    intro x hbegin hx hrel
    have hmoved := moved_of_held (b := b) (s := s) (by rw [hbegin, hx]) hrel
    exact ⟨stood_tripped (by rw [hbegin, hx]) (by rw [hmoved, hbegin, hx]), by rw [hmoved, hbegin]⟩
  by_cases hstate : s.drive.state = .tripped
  · have hbegin := driveBegin_tripped (b := b) hstate
    have hrel : tripReleased (driveBegin b s) = false := by
      by_contra hrel
      have hmoved : (moved b s).drive = enterParked (readDriveInputs b s).drive := by
        rw [moved, hbegin, driveTransition, readDriveInputs_state, hstate]
        rw [hbegin, Bool.not_eq_false] at hrel
        simp only [periodTripped, hrel, if_true]
        rfl
      have hne : (enterParked (readDriveInputs b s).drive).state ≠ (driveBegin b s).drive.state := by
        rw [hbegin, readDriveInputs_state, hstate]
        simp [enterParked]
      have hparked := state_of_stance (settles hmoved (.inl hne)).1
      rw [h] at hparked
      simp [stance, enterParked] at hparked
    obtain ⟨hstood, hmoved⟩ := hheld _ rfl (by rw [hbegin, readDriveInputs_state, hstate]) hrel
    rw [hbegin, readDriveInputs_drive] at hmoved
    rw [hmoved, if_pos hstate]
    exact ⟨hstood, rfl, rfl⟩
  · by_cases htrip : tripping s
    · obtain ⟨hbegin, -⟩ := drive_of_trips (b := b) hstate htrip
      obtain ⟨hstood, hmoved⟩ := hheld _ hbegin rfl (tripReleased_of_tripping htrip)
      rw [readDriveInputs_drive] at hmoved
      rw [hmoved, if_neg hstate]
      exact ⟨hstood, rfl, rfl⟩
    · exact absurd h (calm_not_tripped (calmOutcome htrip hstate))

/-! ### The tests of rest after the chain -/

/-- Too slow to move off, or of unknown speed (R50, R52, R55). -/
def slow (b : StartBlock) (s : State) : Prop := ownTravelQuality s = .bad ∨ s.drive.meas.v.natAbs ≤ b.drive.stopSpeed

theorem stopTest_driveChain (b : StartBlock) (s : State) :
    stopTest b (driveChain b (moved b s)) = true ↔ slow b s := by
  obtain ⟨-, -, hmeas, hquality⟩ := stood_leaves b s
  obtain ⟨-, -, -, hsensed⟩ := standTest_drive b (driveBegin b s).drive.state (driveChain b (moved b s))
  rw [← stood_eq] at hsensed
  simp only [sensed, Prod.mk.injEq] at hsensed
  obtain ⟨-, -, -, hchain⟩ := hsensed
  have hfaults : (stood b s).faults = (driveChain b (moved b s)).faults := standTest_faults _ _ _
  have hsame : ownTravelQuality (stood b s) = ownTravelQuality (driveChain b (moved b s)) :=
    ownTravelQuality_congr (sticky_congr hfaults _) hchain
  rw [stopTest, ← hsame, ← hchain, hmeas, hquality, Bool.or_eq_true, decide_eq_true_eq, decide_eq_true_eq]
  rfl

theorem atRest_driveChain (b : StartBlock) (s : State) :
    atRest b (driveChain b (moved b s)) = true ↔ (drivePeriod b s).sp.drv.ramp.out = 0 ∧ slow b s := by
  rw [atRest, Bool.and_eq_true, decide_eq_true_eq, stopTest_driveChain, drivePeriod_sp]
  rfl

/-! ### The standing tests' timers -/

/-- A timer that runs on, or starts. -/
def started (timer : Timer) : Timer := if timer.isSome then timer else some 0

theorem standNeutral_timer (b : StartBlock) (u : State) :
    ((standNeutral b u).state = .neutral →
      (standNeutral b u).parkTimer = if atRest b u = true then started u.drive.parkTimer else none)
    ∧ (u.drive.state = .neutral → (standNeutral b u).state = .parked → b.drive.parkDelay = 0 ∧ atRest b u = true
      ∧ (standNeutral b u).brakeApplied = true ∧ (standNeutral b u).parkTimer = none)
    ∧ (b.drive.parkDelay = 0 → u.drive.parkTimer = none → atRest b u = true → (standNeutral b u).state = .parked) := by
  unfold standNeutral startPark started
  by_cases hrest : atRest b u = true
  · simp only [hrest, if_true]
    by_cases htimer : u.drive.parkTimer.isSome = true
    · simp only [htimer, if_true]
      refine ⟨fun _ => trivial, fun h h' => by simp [h] at h', fun _ hnone => by simp [hnone] at htimer⟩
    · simp only [htimer, Bool.false_eq_true, if_false]
      split
      · next hdelay => exact ⟨by simp [enterParked], fun _ _ => ⟨hdelay, trivial, rfl, rfl⟩, fun _ _ _ => by simp [enterParked]⟩
      · next hdelay => exact ⟨fun _ => rfl, fun h h' => by simp [h] at h', fun h => absurd h hdelay⟩
  · simp only [hrest]
    exact ⟨fun _ => rfl, fun h h' => by simp [h] at h', fun _ _ h => absurd h (by simp)⟩

theorem standChanging_timer (b : StartBlock) (u : State) : (standChanging b u).dwellTimer
    = if atRest b u = true then started u.drive.dwellTimer
      else if stopTest b u = true then u.drive.dwellTimer else none := by
  unfold standChanging started
  split_ifs <;> rfl

theorem standTripped_timer (b : StartBlock) (u : State) :
    (u.drive.brakeApplied = true → (standTripped b u).parkTimer = u.drive.parkTimer)
    ∧ (u.drive.brakeApplied = false → atRest b u = true →
      (b.drive.parkDelay = 0 → u.drive.parkTimer = none →
        (standTripped b u).brakeApplied = true ∧ (standTripped b u).parkTimer = none)
      ∧ (0 < b.drive.parkDelay ∨ u.drive.parkTimer.isSome = true →
        (standTripped b u).brakeApplied = false ∧ (standTripped b u).parkTimer = started u.drive.parkTimer))
    ∧ (u.drive.brakeApplied = false → ¬ atRest b u = true → (standTripped b u).brakeApplied = false
      ∧ (standTripped b u).parkTimer = if stopTest b u = true then u.drive.parkTimer else none) := by
  unfold standTripped startPark started
  refine ⟨fun h => by rw [if_pos h], fun h hrest => ?_, fun h hrest => ?_⟩
  · simp only [h, hrest, Bool.false_eq_true, if_false, if_true]
    refine ⟨fun hdelay htimer => ?_, fun hgo => ?_⟩
    · simp [htimer, hdelay, applyBrake]
    · split
      · exact ⟨h, rfl⟩
      · next htimer =>
        rw [if_neg (by
          rcases hgo with hgo | hgo
          · omega
          · exact absurd hgo htimer)]
        exact ⟨rfl, rfl⟩
  · simp only [h, hrest, Bool.false_eq_true, if_false]
    split <;> simp [h]

theorem idles_of_neutral {b : StartBlock} {s : State} (hs : s.drive.state = .neutral)
    (ht : (drivePeriod b s).drive.state = .neutral ∨ (drivePeriod b s).drive.state = .parked) :
    (moved b s).drive = (readDriveInputs b s).drive ∧ (stood b s).drive = standNeutral b (driveChain b (moved b s)) := by
  have hne : (drivePeriod b s).drive.state ≠ .tripped := by rcases ht with h | h <;> simp [h]
  rcases calmOutcome_or hne with ⟨-, h⟩ | ⟨h, -⟩
  · cases h with
    | departs d h =>
      rw [state_of_stance h] at ht
      cases d <;> simp [Direction.own] at ht
    | turns d _ h => simp [state_of_stance h] at ht
    | idles _ hmoved h => exact ⟨hmoved, h⟩
    | _ hs' => simp [hs] at hs'
  · simp [hs] at h

theorem waits_of_changing {b : StartBlock} {s : State} (hs : s.drive.state = .changing)
    (ht : (drivePeriod b s).drive.state = .changing) :
    (moved b s).drive = (readDriveInputs b s).drive ∧ (stood b s).drive = standChanging b (driveChain b (moved b s)) := by
  rcases calmOutcome_or (b := b) (s := s) (by simp [ht]) with ⟨-, h⟩ | ⟨h, -⟩
  · cases h with
    | departs d h =>
      rw [state_of_stance h] at ht
      cases d <;> simp [Direction.own] at ht
    | givesUp _ h => simp [state_of_stance h] at ht
    | turns d hs' _ => simp [hs] at hs'
    | waits _ hmoved h => exact ⟨hmoved, h⟩
    | _ hs' => simp [hs] at hs'
  · simp [hs] at h

/-- Entry to NEUTRAL leaves the park timer (R49, R51). -/
theorem parkTimer_into_neutral {b : StartBlock} {s : State} (hs : s.drive.state ≠ .neutral)
    (ht : (drivePeriod b s).drive.state = .neutral) : (drivePeriod b s).drive.parkTimer = s.drive.parkTimer := by
  rcases calmOutcome_or (b := b) (s := s) (by simp [ht]) with ⟨-, h⟩ | ⟨-, h⟩
  · cases h with
    | departs d h =>
      rw [state_of_stance h] at ht
      cases d <;> simp [Direction.own] at ht
    | stays hs' h =>
      rw [state_of_stance h] at ht
      exact absurd ht hs
    | rests _ h =>
      obtain ⟨-, -, -, -, hpark, -⟩ := Stance.mk.inj h
      exact hpark
    | givesUp _ h =>
      obtain ⟨-, -, -, -, hpark, -⟩ := Stance.mk.inj h
      exact hpark
    | turns d _ h => simp [state_of_stance h] at ht
    | idles hs' => exact absurd hs' hs
    | waits hs' hmoved h => simp [waits_state hs' hmoved h] at ht
  · simp [ht] at h

/-- Entry to CHANGING leaves the dwell timer (R49, R50). -/
theorem dwellTimer_into_changing {b : StartBlock} {s : State} (hs : s.drive.state ≠ .changing)
    (ht : (drivePeriod b s).drive.state = .changing) : (drivePeriod b s).drive.dwellTimer = s.drive.dwellTimer := by
  rcases calmOutcome_or (b := b) (s := s) (by simp [ht]) with ⟨-, h⟩ | ⟨-, h⟩
  · cases h with
    | departs d h =>
      rw [state_of_stance h] at ht
      cases d <;> simp [Direction.own] at ht
    | stays hs' h =>
      rw [state_of_stance h] at ht
      exact absurd ht hs
    | rests _ h => simp [state_of_stance h] at ht
    | givesUp hs' => exact absurd hs' hs
    | turns d _ h =>
      obtain ⟨-, -, -, -, -, hdwell⟩ := Stance.mk.inj h
      exact hdwell
    | idles hs' hmoved h => rcases idles_state hs' hmoved h with h | h <;> simp [h] at ht
    | waits hs' => exact absurd hs' hs
  · simp [ht] at h

/-! ### The expiries -/

/-- A hand-over reaches the line port only as a trip kind comes (R163). -/
theorem handOver_keeps_of_not_trip {k : FaultKind} {present : Bool} (hk : (present && k.isTrip) = false) (s : State) :
    KeepsAllBut [.faults] s (handOver k present s) := by
  intro p hp
  cases p with
  | line => simp [Same, handOver_line, hk]
  | faults => simp at hp
  | _ => exact handOver_keeps k present s _ (by simp)


theorem dueBy_of_image {s : State} {b : StartBlock} (himage : s.start.image = some b) {ms : Nat} {timer : Timer}
    (htimer : timer = some ms) (limit : StartBlock → Nat) (hlimit : limit b ≤ ms) : dueBy s timer limit = true := by
  exact (dueBy_iff _ _ _).mpr ⟨b, himage, ms, htimer, hlimit⟩

theorem viewTravel_own {s : State} (hpop : populated .drv s = true) :
    viewTravel s = ⟨s.drive.meas.v, ownTravelQuality s⟩ := by
  simp [viewTravel, travelSource, hpop]

theorem viewEngine_own {s : State} (hpop : populated .drv s = true) :
    viewEngine s = ⟨s.drive.meas.nE, ownEngineQuality s⟩ := by
  simp [viewEngine, travelSource, hpop]

/-- Settles O21. -/
theorem driveTimersExpire : Obligations.DriveTimersExpire := by
  unfold Obligations.DriveTimersExpire
  refine ⟨fun s b ms himage => ⟨?_, ?_, ?_, ?_, ?_⟩, ?_⟩
  · intro htimer hlimit hstate
    have hdue : parkDue s = true := dueBy_of_image himage htimer _ hlimit
    simp only [exec, execParkTimerExpiry, hdue, if_true, parkExpired, hstate, enterParked]
  · intro htimer hlimit hstate
    have hdue : parkDue s = true := dueBy_of_image himage htimer _ hlimit
    simp only [exec, execParkTimerExpiry, hdue, if_true, parkExpired, hstate, applyBrake]
  · intro d htimer hlimit hstate hpend
    have hdue : dwellDue s = true := dueBy_of_image himage htimer _ hlimit
    refine ⟨s.withDrive (enterDirection d s.drive), ?_, (State.withDrive_keeps s _).mono, ?_, rfl, rfl, rfl⟩
    · simp only [exec, execDwellTimerExpiry, hdue, if_true, dwellExpired, hstate, hpend]
    · cases d <;> rfl
  · intro hmeasures hsilence hcalm
    have hpop : populated .drv s = true := ((driveMeasures_iff s).mp hmeasures).1
    have hdue : speedSilenceDue s = true := by
      rw [active_eq] at hcalm
      simpa [speedSilenceDue, hmeasures, hsilence] using hcalm
    refine ⟨handOver .speedSensor true s, ?_, handOver_keeps _ _ _, active_handOver_present _ _, sticky_handOver_present _ _,
      ?_, fun hsticky => ?_⟩
    · simp only [exec, execSpeedSilenceExpiry, hdue, if_true]
    · rw [viewTravel_own (by rw [populated, handOver_start]; exact hpop), ownTravelQuality, sticky_handOver_present]
      simp
    · rw [handOver_line, hsticky]
      rfl
  · intro hmeasures hsilence hcalm
    have hpop : populated .drv s = true := ((driveMeasures_iff s).mp hmeasures).1
    have hdue : engineSilenceDue s = true := by
      rw [active_eq] at hcalm
      simpa [engineSilenceDue, hmeasures, hsilence] using hcalm
    refine ⟨handOver .engineSensor true s, ?_, handOver_keeps_of_not_trip rfl _, active_handOver_present _ _, sticky_handOver_present _ _, ?_⟩
    · simp only [exec, execEngineSilenceExpiry, hdue, if_true]
    · rw [viewEngine_own (by rw [populated, handOver_start]; exact hpop), ownEngineQuality, active_handOver_present]
      simp
  · intro i s b himage hmeasures
    refine ⟨_, exec_drivePeriod himage hmeasures, ?_⟩
    have hw := pinsRead i s
    generalize s.withPins { s.pins with drive := i } = w at hw ⊢
    have hdrive : s.drive = w.drive := hw.drive.symm
    have hquality := hw.travelQuality
    generalize s.drive = x at hdrive ⊢
    subst hdrive
    intro slow' rest started' before
    have hslow : stopTest b (driveChain b (moved b w)) = true ↔ slow' := by
      rw [stopTest_driveChain, slow, hquality]
    have hrest : atRest b (driveChain b (moved b w)) = true ↔ rest := by
      rw [atRest_driveChain, ← stopTest_driveChain, hslow]
    have hstarted : started' = started := rfl
    obtain ⟨tstate, tbrake, tpark, tdwell⟩ := drivePeriod_stance b w
    have hidle : ∀ hs : w.drive.state = .neutral, _ → (driveChain b (moved b w)).drive.parkTimer = w.drive.parkTimer
        ∧ (driveChain b (moved b w)).drive.state = .neutral ∧ _ := fun hs ht => by
      obtain ⟨hmoved, hstood⟩ := idles_of_neutral (b := b) hs ht
      rw [driveChain_parkTimer, driveChain_state, hmoved, readDriveInputs_drive]
      exact ⟨rfl, hs, hstood⟩
    refine ⟨fun hs ht => ?_, fun hs hdelay htimer hr ht => ?_, fun hs ht => ?_, parkTimer_into_neutral, fun hs ht => ?_,
      dwellTimer_into_changing, fun ht hbrake => ?_, fun ht hbrake hr => ?_, fun ht hbrake hr => ?_⟩
    · obtain ⟨hpark, -, hstood⟩ := hidle hs (.inl ht)
      obtain ⟨htimer, -⟩ := standNeutral_timer b (driveChain b (moved b w))
      rw [tstate, hstood] at ht
      rw [tpark, hstood, htimer ht, hpark, hstarted]
      simp only [hrest]
    · obtain ⟨hpark, -, hstood⟩ := hidle hs (.inl ht)
      obtain ⟨-, -, hparked⟩ := standNeutral_timer b (driveChain b (moved b w))
      rw [tstate, hstood, hparked hdelay (hpark.trans htimer) (hrest.mpr hr)] at ht
      cases ht
    · obtain ⟨-, hstate, hstood⟩ := hidle hs (.inr ht)
      obtain ⟨-, hparks, -⟩ := standNeutral_timer b (driveChain b (moved b w))
      rw [tstate, hstood] at ht
      rw [tbrake, tpark, hstood, ← hrest]
      exact hparks hstate ht
    · obtain ⟨hmoved, hstood⟩ := waits_of_changing hs ht
      rw [tdwell, hstood, standChanging_timer, driveChain_dwellTimer, hmoved, readDriveInputs_drive, hstarted]
      simp only [hrest, hslow]
    · obtain ⟨hstood, hb, hp⟩ := into_tripped ht
      obtain ⟨hon, -⟩ := standTripped_timer b (driveChain b (moved b w))
      rw [tpark, hstood, hon (by rw [driveChain_brakeApplied, hb, hbrake]), driveChain_parkTimer, hp]
    · obtain ⟨hstood, hb, hp⟩ := into_tripped ht
      obtain ⟨-, hoff, -⟩ := standTripped_timer b (driveChain b (moved b w))
      rw [tbrake, tpark, hstood, hstarted, show before = _ from hp.symm]
      rw [driveChain_brakeApplied, hb, driveChain_parkTimer] at hoff
      exact hoff hbrake (hrest.mpr hr)
    · obtain ⟨hstood, hb, hp⟩ := into_tripped ht
      obtain ⟨-, -, hmoving⟩ := standTripped_timer b (driveChain b (moved b w))
      rw [driveChain_brakeApplied, hb, driveChain_parkTimer] at hmoving
      obtain ⟨h1, h2⟩ := hmoving hbrake (fun h => hr (hrest.mp h))
      rw [tbrake, tpark, hstood, show before = _ from hp.symm]
      simp only [hslow] at h2
      exact ⟨h1, h2⟩

end Sys2Proof.Machine
end

section
/-! SUPPORT. The drive target and its caps (R56 to R58), and the measurements (R19 to R21, R45). -/

namespace Sys2Proof.Machine

-- One thread elaborates this section, so that the check's memory limit holds the stacks.
set_option Elab.async false

/-- The caps on the speed demand, in the order of R58. -/
def speedCaps (b : StartBlock) (s : State) : List Nat :=
  (if s.start.mode = .transport then [b.drive.transportCap] else [])
    ++ (if armsDown s then [effectiveSweepCap b s] else [])
    ++ (if s.drive.state = .reverse then [b.drive.reverseCap] else [])
    ++ (if active .pressureInput s then [b.drive.sweepCapMin] else [])

theorem cappedSpeed_eq (b : StartBlock) (s : State) (mag : Nat) :
    cappedSpeed b s mag = (speedCaps b s).foldl min mag := by
  have hcap : ∀ (p : Prop) [Decidable p] (cap m : Nat),
      (if p then min m cap else m) = (if p then [cap] else []).foldl min m := fun p _ cap m => by
    split <;> rfl
  simp only [cappedSpeed, speedCaps, List.foldl_append, hcap]

theorem foldl_min_le (caps : List Nat) (m : Nat) : caps.foldl min m ≤ m ∧ ∀ cap ∈ caps, caps.foldl min m ≤ cap := by
  induction caps generalizing m with
  | nil => simp
  | cons c caps ih =>
    obtain ⟨hm, hcaps⟩ := ih (min m c)
    refine ⟨hm.trans (Nat.min_le_left _ _), fun cap hcap => ?_⟩
    rcases List.mem_cons.mp hcap with rfl | hcap
    · exact hm.trans (Nat.min_le_right _ _)
    · exact hcaps cap hcap

theorem foldl_min_zero (caps : List Nat) : caps.foldl min 0 = 0 := Nat.le_zero.mp (foldl_min_le caps 0).1

theorem pedalLooksUp_iff (b : StartBlock) (s : State) : pedalLooksUp b s = true
    ↔ (s.drive.state = .forward ∨ s.drive.state = .reverse)
      ∧ inSpan s.pins.drive.pedal = true ∧ b.drive.pedalDeadband < s.pins.drive.pedal.toNat := by
  simp [pedalLooksUp, pedalPressed]

theorem driveTarget_natAbs (b : StartBlock) (s : State) :
    (driveTarget b s).natAbs = (speedCaps b s).foldl min (pedalSpeed b s).1 := by
  unfold driveTarget
  rw [cappedSpeed_eq]
  simp only
  split <;> omega

/-- Settles O17. -/
theorem driveTargetStaysWithinItsCaps : Obligations.DriveTargetStaysWithinItsCaps := by
  unfold Obligations.DriveTargetStaysWithinItsCaps
  intro b s m pedal pressed look sweep caps
  have hm : m = caps.foldl min (pedalSpeed b s).1 := driveTarget_natAbs b s
  have hpressed : pedalLooksUp b s = true ↔ pressed := pedalLooksUp_iff b s
  have hdown : pressed → pedalSpeed b s = (min 1500 look.1, look.2.pair) := fun h => if_pos (hpressed.mpr h)
  have hup : ¬ pressed → pedalSpeed b s = (0, s.sp.drv.pedalClamp) := fun h => if_neg (fun hn => h (hpressed.mp hn))
  obtain ⟨hle, hcaps⟩ := foldl_min_le caps (pedalSpeed b s).1
  rw [← hm] at hle hcaps
  refine ⟨fun h => ?_, fun h => ?_, fun h => ?_, fun h => ?_, ?_, hcaps, fun h => ?_, fun h => ?_⟩
  · rw [hm, hdown h]
  · rw [hup h] at hle
    exact Int.natAbs_eq_zero.mp (Nat.le_zero.mp hle)
  · simp [driveTarget, h]
  · simp [driveTarget, h]
  · refine hle.trans ?_
    by_cases h : pressed
    · rw [hdown h]
      exact Nat.min_le_left _ _
    · rw [hup h]
      exact Nat.zero_le _
  · show (pedalSpeed b s).2 = _
    rw [hdown h]
  · show (pedalSpeed b s).2 = _
    rw [hup h]

/-! ### The measurements -/

theorem exec_speedEdge {s : State} (track : Track) (a b : Bool) (hmeasures : driveMeasures s = true) :
    exec (.speedEdge track a b) s = .next (restartSpeedSilence ((s.withPins { s.pins with speedA := a, speedB := b }).withDrive
      { s.drive with meas := { s.drive.meas with travel := { s.drive.meas.travel with
        opened := countTravel s.drive.meas.travel.opened (edgeSign track a b) } } })) := by
  have hm : driveMeasures (s.withPins { s.pins with speedA := a, speedB := b }) = true := hmeasures
  simp only [exec, execSpeedEdge, hm, if_true]
  rfl

theorem exec_engineEdge {s : State} (hmeasures : driveMeasures s = true) :
    exec .engineEdge s = .next (handOver .engineSensor false (s.withDrive { s.drive with
      engineSilence := 0
      engineBad := s.drive.engineBad || active .engineSensor s
      meas := { s.drive.meas with engine := { s.drive.meas.engine with
        opened := min 65535 (s.drive.meas.engine.opened + 1) } } })) := by
  simp only [exec, execEngineEdge, hmeasures, if_true]

/-- A cause that goes leaves the sticky set, but for TANK_LOW (R158). -/
theorem handOver_absent_sticky {k : FaultKind} (hk : k ≠ .tankLow) (s : State) :
    (handOver k false s).faults.sticky = s.faults.sticky := by
  simp [handOver, hk]

/-- The engine sensor's effect on the quality of nE outlasts its cause (R161). -/
theorem ownEngineQuality_edge {s : State} {x : Drive} (hbad : x.engineBad = (s.drive.engineBad || active .engineSensor s))
    (hcloses : x.meas.closes = s.drive.meas.closes) :
    ownEngineQuality (handOver .engineSensor false (s.withDrive x)) = ownEngineQuality s := by
  unfold ownEngineQuality
  rw [active_handOver_self (by decide) (by decide), handOver_drive, State.withDrive_drive, hbad, hcloses, Bool.false_or,
    Bool.or_comm]

/-- Settles O20. -/
theorem measurementsCountAndClose : Obligations.MeasurementsCountAndClose := by
  unfold Obligations.MeasurementsCountAndClose
  refine ⟨?_, ?_, ?_, ?_⟩
  · intro s b ms himage hmeasures htimer hgone m n e
    have hdue : bucketDue s = true := by
      rw [bucketDue, hmeasures, htimer]
      simpa [Timer.reached] using hgone
    simp only [exec, execBucketClose, himage, hdue, if_true]
    rw [Measure.close, htimer]
    rfl
  · intro s track a b hmeasures sign
    refine ⟨_, exec_speedEdge track a b hmeasures, ?_, ?_, ?_, ?_, ?_⟩
    · exact (((State.withPins_keeps s _).mono).trans ((State.withDrive_keeps _ _).mono)).trans
        (((State.withDrive_keeps _ _).mono).trans ((handOver_keeps_of_not_trip rfl _).mono))
    · exact (handOver_keeps_of_not_trip rfl _).pins
    · rw [restartSpeedSilence_drive]
      rfl
    · exact (faults_restartSpeedSilence _ _).1
    · exact handOver_absent_sticky (by decide) _
  · intro s hmeasures
    have hpop : populated .drv s = true := ((driveMeasures_iff s).mp hmeasures).1
    refine ⟨_, exec_engineEdge hmeasures, ?_, ?_, ?_, ?_, ?_⟩
    · exact ((State.withDrive_keeps s _).mono).trans ((handOver_keeps_of_not_trip rfl _).mono)
    · rw [handOver_drive]
      rfl
    · exact active_handOver_self (by decide) (by decide) _ _
    · exact handOver_absent_sticky (by decide) _
    · rw [viewEngine_own (by rw [populated, handOver_start]; exact hpop), viewEngine_own hpop, handOver_drive]
      exact congrArg _ (ownEngineQuality_edge rfl rfl)
  · intro s track a b hrest
    have hm : driveMeasures (s.withPins { s.pins with speedA := a, speedB := b }) = false := hrest
    simp only [exec, execSpeedEdge, execEngineEdge, hm, hrest, Bool.false_eq_true, if_false]
    exact ⟨trivial, trivial⟩

end Sys2Proof.Machine
end

section
/-! SUPPORT. The arm period, part by part: what its steps see, and the arm they leave (R69 to R87). -/

namespace Sys2Proof.Machine

-- One thread elaborates this section, so that the check's memory limit holds the stacks.
set_option Elab.async false

/-! ### The values of other channels -/

/-- Two states between which nothing has changed that travel speed, engine speed and pressure are taken from. -/
structure SameSenses (s u : State) : Prop where
  start : u.start = s.start
  peers : u.peers = s.peers
  drive : u.drive = s.drive
  engineSensor : active .engineSensor u = active .engineSensor s
  pressureInput : active .pressureInput u = active .pressureInput s
  speedSensor : sticky .speedSensor u = sticky .speedSensor s

namespace SameSenses

variable {s u : State}

theorem populated (h : SameSenses s u) (c : Channel) : populated c u = Sys2Proof.Machine.populated c s := by
  rw [Machine.populated, Machine.populated, h.start]

theorem travelSource (h : SameSenses s u) : travelSource u = Machine.travelSource s := travelSource_congr h.start h.peers

theorem viewTravel (h : SameSenses s u) : viewTravel u = Machine.viewTravel s := by
  have hquality : ownTravelQuality u = ownTravelQuality s := ownTravelQuality_congr h.speedSensor (by rw [h.drive])
  simp only [Machine.viewTravel, h.travelSource, hquality, h.drive, h.peers]

theorem viewEngine (h : SameSenses s u) : viewEngine u = Machine.viewEngine s := by
  have hquality : ownEngineQuality u = ownEngineQuality s := by
    rw [ownEngineQuality, ownEngineQuality, h.engineSensor, h.drive]
  simp only [Machine.viewEngine, h.travelSource, hquality, h.drive, h.peers]

theorem viewPressure (h : SameSenses s u) : viewPressure u = Machine.viewPressure s := by
  have hquality : ownPressureQuality u = ownPressureQuality s := by
    rw [ownPressureQuality, ownPressureQuality, h.pressureInput]
  simp only [Machine.viewPressure, h.travelSource, hquality, h.drive, h.peers]

theorem droop (h : SameSenses s u) (b : StartBlock) : droop b u = Machine.droop b s := by
  rw [Machine.droop, Machine.droop, h.viewEngine]

theorem activeBank (h : SameSenses s u) (b : StartBlock) : activeBank b u = Machine.activeBank b s := by
  rw [Machine.activeBank, Machine.activeBank, h.start]

theorem liveEntries (h : SameSenses s u) : liveEntries u = Machine.liveEntries s := by
  rw [Machine.liveEntries, Machine.liveEntries, entries, entries, h.peers]

theorem brushSum (h : SameSenses s u) (hcommand : ∀ m, (u.arm m).command = (s.arm m).command) :
    brushSum u = Machine.brushSum s := by
  have hown : ownBrushes u = ownBrushes s := by simp only [ownBrushes, ownBrushByte, hcommand, h.populated]
  rw [Machine.brushSum, Machine.brushSum, hown, h.liveEntries]

theorem testQuantity (h : SameSenses s u) (hcommand : ∀ m, (u.arm m).command = (s.arm m).command)
    (htank : u.water.tank = s.water.tank) (b : StartBlock) (position : Option Nat) (q : TestQuantity) :
    testQuantity b u position q = Machine.testQuantity b s position q := by
  cases q <;> simp only [Machine.testQuantity, h.viewTravel, h.droop, h.viewPressure, h.brushSum hcommand, h.populated,
    htank]

end SameSenses

/-- Two states between which nothing has changed that the tests of arm `n` see of other blocks. -/
structure SameView (n : ArmId) (s u : State) : Prop where
  start : u.start = s.start
  peers : u.peers = s.peers
  drive : u.drive = s.drive
  water : u.water = s.water
  active : ∀ k, k ≠ armFault n → active k u = active k s
  sticky : ∀ k, k ≠ armFault n → sticky k u = sticky k s
  command : ∀ m, m ≠ n → (u.arm m).command = (s.arm m).command

namespace SameView

variable {n : ArmId} {s u v : State}

theorem refl (n : ArmId) (s : State) : SameView n s s :=
  ⟨rfl, rfl, rfl, rfl, fun _ _ => rfl, fun _ _ => rfl, fun _ _ => rfl⟩

theorem trans (h : SameView n s u) (h' : SameView n u v) : SameView n s v :=
  ⟨h'.start.trans h.start, h'.peers.trans h.peers, h'.drive.trans h.drive, h'.water.trans h.water,
    fun k hk => (h'.active k hk).trans (h.active k hk), fun k hk => (h'.sticky k hk).trans (h.sticky k hk),
    fun m hm => (h'.command m hm).trans (h.command m hm)⟩

theorem senses (h : SameView n s u) : SameSenses s u :=
  ⟨h.start, h.peers, h.drive, h.active _ (by cases n <;> decide), h.active _ (by cases n <;> decide),
    h.sticky _ (by cases n <;> decide)⟩

theorem populated (h : SameView n s u) (c : Channel) : populated c u = Sys2Proof.Machine.populated c s :=
  h.senses.populated c

theorem travelSource (h : SameView n s u) : travelSource u = Machine.travelSource s := h.senses.travelSource

theorem viewTravel (h : SameView n s u) : viewTravel u = Machine.viewTravel s := h.senses.viewTravel

theorem activeBank (h : SameView n s u) (b : StartBlock) : activeBank b u = Machine.activeBank b s :=
  h.senses.activeBank b

theorem brushFactor (h : SameView n s u) (b : StartBlock) : brushFactor b u = Machine.brushFactor b s := by
  rw [Machine.brushFactor, Machine.brushFactor, h.activeBank, h.senses.droop]

theorem reversing (h : SameView n s u) (b : StartBlock) : reversing b u = Machine.reversing b s := by
  rw [Machine.reversing, Machine.reversing, h.viewTravel]

theorem testQuantity (h : SameView n s u) (hcommand : (u.arm n).command = (s.arm n).command) (b : StartBlock)
    (position : Option Nat) (q : TestQuantity) : testQuantity b u position q = Machine.testQuantity b s position q := by
  refine h.senses.testQuantity (fun m => ?_) (by rw [h.water]) b position q
  by_cases hm : m = n
  · rw [hm, hcommand]
  · exact h.command m hm

theorem lowerAllowed (h : SameView n s u) (b : StartBlock) (hheld : heldByTrip n u = heldByTrip n s) :
    lowerAllowed b n u = Machine.lowerAllowed b n s := by
  rw [Machine.lowerAllowed, Machine.lowerAllowed, h.start, travelAllowsLowering, travelAllowsLowering, h.viewTravel, hheld]

end SameView

theorem sameView_of_keeps {n : ArmId} {s u : State} (keeps : KeepsAllBut [.pins, .line, .req, .sp, armPart n] s u) :
    SameView n s u := by
  have hfaults : u.faults = s.faults := keeps.faults (by cases n <;> decide)
  refine ⟨keeps.start (by cases n <;> decide), keeps.peers (by cases n <;> decide), keeps.drive (by cases n <;> decide),
    keeps.water (by cases n <;> decide), fun k _ => active_congr hfaults k, fun k _ => sticky_congr hfaults k,
    fun m hm => ?_⟩
  rw [keeps.arm m (by cases n <;> cases m <;> simp_all [armPart])]

theorem sameView_enterArm (n : ArmId) (st : ArmState) (r : Bool) (s : State) : SameView n s (enterArm n st r s) :=
  sameView_of_keeps ((enterArm_keeps n st r s).mono (by cases n <;> decide))

/-! ### Steps 1 and 2 -/

/-- What reading the position leaves (R69, R77). -/
structure ArmRead (n : ArmId) (raw : Raw) (s u : State) : Prop where
  arm : u.arm n = { s.arm n with position := raw }
  other : ∀ m, m ≠ n → u.arm m = s.arm m
  view : SameView n s u
  req : u.req = s.req
  sp : u.sp = s.sp
  pending : u.pending = s.pending
  free : u.free = s.free
  bad : inSpan raw = false → active (armFault n) u = true ∧ Machine.sticky (armFault n) u = true

theorem active_handOverStall_other {n : ArmId} {k : FaultKind} (hk : k ≠ armFault n) (present : Bool) (s : State) :
    active k (handOverStall n present s) = active k s := by
  cases n <;> cases present <;> simp_all [handOverStall, active_eq, armFault, setSticky_stalls, setSticky_cause]

theorem armRead (n : ArmId) (raw : Raw) (s : State) : ArmRead n raw s (readPosition n (setPositionPin n raw s)) := by
  have hpin := setPositionPin_keeps n raw s
  have hkeeps := readPosition_keeps n (setPositionPin n raw s)
  refine ⟨?_, fun m hm => ?_, ?_, ?_, ?_, ?_, ?_, fun hbad => ?_⟩
  · rw [readPosition_arm, if_pos rfl, setPositionPin_pin, setPositionPin_arm]
  · rw [readPosition_arm, if_neg hm, setPositionPin_arm]
  · refine ⟨?_, ?_, ?_, ?_, fun k hk => ?_, fun k hk => ?_, fun m hm => ?_⟩
    · rw [hkeeps.start (by cases n <;> decide), hpin.start]
    · rw [hkeeps.peers (by cases n <;> decide), hpin.peers]
    · rw [hkeeps.drive (by cases n <;> decide), hpin.drive]
    · rw [hkeeps.water (by cases n <;> decide), hpin.water]
    · simp only [readPosition]
      rw [active_handOver_other hk, active_handOverStall_other hk, active_congr (State.withArm_faults ..),
        active_congr (setPositionPin_faults ..)]
    · simp only [readPosition]
      rw [sticky_handOver_other hk, sticky_handOverStall, if_neg (fun h => hk h.1), sticky_congr (State.withArm_faults ..),
        sticky_congr (setPositionPin_faults ..)]
    · rw [readPosition_arm, if_neg hm, setPositionPin_arm]
  · rw [hkeeps.req (by cases n <;> decide), hpin.req]
  · rw [hkeeps.sp (by cases n <;> decide), hpin.sp]
  · rw [hkeeps.pending (by cases n <;> decide), hpin.pending]
  · rw [hkeeps.free (by cases n <;> decide), hpin.free]
  · simp only [readPosition, setPositionPin_pin, hbad, Bool.not_false]
    exact ⟨active_handOver_present _ _, sticky_handOver_present _ _⟩

theorem exec_armPeriod {n : ArmId} {raw : Raw} {s : State} {b : StartBlock} (himage : s.start.image = some b)
    (hpop : populated (armChannel n) s = true) (hrun : periodsRun s = true) :
    exec (.armControlPeriod n raw) s = .next (armPeriod b n (setPositionPin n raw s)) := by
  have hstart : (setPositionPin n raw s).start = s.start := (setPositionPin_keeps n raw s).start
  have hruns : periodsRun (setPositionPin n raw s) = true := by rw [periodsRun, hstart]; exact hrun
  simp only [exec, execArmControlPeriod, hstart, himage, setPositionPin_populated, hpop, hruns, Bool.and_self, if_true]

theorem exec_armPeriod_rests {n : ArmId} {raw : Raw} {s : State}
    (h : populated (armChannel n) s = false ∨ periodsRun s = false) :
    exec (.armControlPeriod n raw) s = .next (setPositionPin n raw s) := by
  have hstart : (setPositionPin n raw s).start = s.start := (setPositionPin_keeps n raw s).start
  have hoff : (populated (armChannel n) (setPositionPin n raw s) && periodsRun (setPositionPin n raw s)) = false := by
    rw [setPositionPin_populated, periodsRun, hstart, Bool.and_eq_false_iff]
    exact h
  simp only [exec, execArmControlPeriod, hoff, Bool.false_eq_true, if_false]
  split <;> rfl

/-! ### Steps 4 and 5 -/

theorem brushPeriod_arm (b : StartBlock) (n : ArmId) (s : State) :
    (brushPeriod b n s).arm n = { s.arm n with
      command := if (s.arm n).state = .working then derateNat (brushSite b n s).ramp.out (brushFactor b s) else 0 } := by
  unfold brushPeriod
  simp only
  split <;> simp

theorem brushPeriod_brush (b : StartBlock) (n : ArmId) (s : State) :
    (brushPeriod b n s).sp.brush n
      = { (if (s.arm n).state = .working then brushSite b n s else s.sp.brush n) with k := brushFactor b s } := by
  unfold brushPeriod
  simp only
  split <;> simp

theorem brushPeriod_req (b : StartBlock) (n : ArmId) (s : State) : (brushPeriod b n s).req = s.req :=
  (brushPeriod_keeps b n s).req (by cases n <;> decide)

theorem brushPeriod_faults (b : StartBlock) (n : ArmId) (s : State) : (brushPeriod b n s).faults = s.faults :=
  (brushPeriod_keeps b n s).faults (by cases n <;> decide)

/-! ### The operations that an entry ends -/

theorem enterArm_req (n : ArmId) (st : ArmState) (r : Bool) (s : State) :
    (enterArm n st r s).req = { s.req with table := s.req.table.map (fun e =>
      e.afterArm n ((enterArm n st r s).arm n) (allStowed (enterArm n st r s))) } := by
  have hends : ∀ u, (endOperations n u).req = { u.req with table := u.req.table.map (fun e =>
      e.afterArm n ((endOperations n u).arm n) (allStowed (endOperations n u))) } := fun u => by
    have hstowed : allStowed (endOperations n u) = allStowed u := by
      simp only [allStowed, populatedArms, populated, endOperations_start, endOperations_arm]
    rw [hstowed, endOperations_arm]
    rfl
  simp only [enterArm]
  split_ifs <;> rw [hends] <;> simp

/-- What an entry into each state does to a pending entry (R78, R111). -/
theorem afterArm_working (e : PendingEntry) (n : ArmId) {a : Arm} (h : a.state = .working) :
    e.afterArm n a false = e.endedBy n (some (.done, 2)) none none := by
  unfold PendingEntry.afterArm PendingEntry.endedBy PendingEntry.finish
  rw [h]
  rcases e with ⟨r, t, op, c, st, v, tm⟩
  rcases op with _ | ⟨m, _ | _⟩ <;> split <;> rfl

theorem afterArm_lifting (e : PendingEntry) (n : ArmId) {a : Arm} (h : a.state = .lifting) (hresume : a.resume = false) :
    e.afterArm n a false = e.endedBy n (some (.failed, 3)) none none := by
  unfold PendingEntry.afterArm PendingEntry.endedBy PendingEntry.finish
  rw [h, hresume]
  rcases e with ⟨r, t, op, c, st, v, tm⟩
  rcases op with _ | ⟨m, _ | _⟩ <;> split <;> rfl

theorem afterArm_stowed (e : PendingEntry) (n : ArmId) {a : Arm} (h : a.state = .stowed) (all : Bool) :
    e.afterArm n a all = e.endedBy n (some (.failed, 0)) (some (.done, 0)) (if all then some (.done, 0) else none) := by
  unfold PendingEntry.afterArm PendingEntry.endedBy PendingEntry.finish
  rw [h]
  rcases e with ⟨r, t, op, c, st, v, tm⟩
  cases all <;> rcases op with _ | ⟨m, _ | _⟩ <;> split <;> rfl

theorem afterArm_moving (e : PendingEntry) (n : ArmId) {a : Arm}
    (h : a.state = .reverseLifted ∨ (a.state = .lifting ∧ a.resume = true) ∨ a.state = .lowering) :
    e.afterArm n a false = e := by
  unfold PendingEntry.afterArm
  rcases e with ⟨r, t, op, c, st, v, tm⟩
  rcases h with h | ⟨h, hresume⟩ | h <;> rw [h] <;> rcases op with _ | ⟨m, _ | _⟩ <;> split <;> simp_all

end Sys2Proof.Machine
end

section
/-! SUPPORT. The tests of an arm period (R76, R81 to R84), and the arm obligations. -/

namespace Sys2Proof.Machine

-- One thread elaborates this section, so that the check's memory limit holds the stacks.
set_option Elab.async false

/-! ### The tests by the state they find -/

section
variable {b : StartBlock} {n : ArmId} {s : State}

theorem arrivalTest_bad (h : inSpan (s.arm n).position = false) : arrivalTest b n s = s := by simp [arrivalTest, h]

theorem arrivalTest_lowering (hgood : inSpan (s.arm n).position = true) (hs : (s.arm n).state = .lowering) :
    arrivalTest b n s = if (s.arm n).position.toNat ≤ workPosition b n then enterArm n .working false s else s := by
  simp [arrivalTest, hgood, hs]

theorem arrivalTest_lifting (hgood : inSpan (s.arm n).position = true) (hs : (s.arm n).state = .lifting) :
    arrivalTest b n s = if stowPosition b n ≤ (s.arm n).position.toNat then
        if (s.arm n).resume then enterArm n .reverseLifted true s else enterArm n .stowed false s
      else s := by
  simp [arrivalTest, hgood, hs]

theorem arrivalTest_standing (hl : (s.arm n).state ≠ .lowering) (hu : (s.arm n).state ≠ .lifting) :
    arrivalTest b n s = s := by
  unfold arrivalTest
  simp only
  split
  · rfl
  · split <;> first | rfl | contradiction

theorem reverseLiftTest_back (hs : (s.arm n).state = .lowering ∨ (s.arm n).state = .working)
    (hback : reversing b s = true) : reverseLiftTest b n s = enterArm n .lifting true s := if_pos ⟨hs, hback⟩

theorem reverseLiftTest_forward (hback : reversing b s = false) : reverseLiftTest b n s = s :=
  if_neg fun h => by simp [hback] at h

theorem reverseLiftTest_standing (hl : (s.arm n).state ≠ .lowering) (hw : (s.arm n).state ≠ .working) :
    reverseLiftTest b n s = s := if_neg fun h => h.1.elim hl hw

theorem resumeTest_moved {stood : ArmState} (h : stood ≠ .reverseLifted) : resumeTest b n stood s = s :=
  if_neg fun hn => h hn.1

theorem blindTest_standing (h : (s.arm n).state ≠ .working) : blindTest b n s = s := if_pos h

/-- Outside REVERSE_LIFTED no test resumes. -/
theorem armTests_eq (h : (s.arm n).state ≠ .reverseLifted) :
    armTests b n s = blindTest b n (reverseLiftTest b n (arrivalTest b n s)) := by
  rw [armTests, resumeTest_moved h]

/-- A standing arm is left by the tests. -/
theorem armTests_standing (h : (s.arm n).state = .stowed ∨ (s.arm n).state = .held) : armTests b n s = s := by
  have hne : ∀ st, st ≠ .stowed → st ≠ .held → (s.arm n).state ≠ st := fun st h1 h2 hst => by
    rcases h with h | h <;> rw [h] at hst
    · exact h1 hst.symm
    · exact h2 hst.symm
  rw [armTests_eq (hne _ (by decide) (by decide)),
    arrivalTest_standing (hne _ (by decide) (by decide)) (hne _ (by decide) (by decide)),
    reverseLiftTest_standing (hne _ (by decide) (by decide)) (hne _ (by decide) (by decide)),
    blindTest_standing (hne _ (by decide) (by decide))]

theorem armTests_lifting (hgood : inSpan (s.arm n).position = true) (hs : (s.arm n).state = .lifting) :
    armTests b n s = if stowPosition b n ≤ (s.arm n).position.toNat then
        if (s.arm n).resume then enterArm n .reverseLifted true s else enterArm n .stowed false s
      else s := by
  have hstand : ∀ u : State, (u.arm n).state ≠ .lowering → (u.arm n).state ≠ .working →
      blindTest b n (reverseLiftTest b n u) = u := fun u hl hw => by
    rw [reverseLiftTest_standing hl hw, blindTest_standing hw]
  rw [armTests_eq (by simp [hs]), arrivalTest_lifting hgood hs]
  split_ifs
  · exact hstand _ (by simp [enterArm_state]) (by simp [enterArm_state])
  · exact hstand _ (by simp [enterArm_state]) (by simp [enterArm_state])
  · exact hstand _ (by simp [hs]) (by simp [hs])

theorem armTests_lowering_back (hgood : inSpan (s.arm n).position = true) (hs : (s.arm n).state = .lowering)
    (hback : reversing b s = true) : ∃ u, (u = s ∨ u = enterArm n .working false s)
      ∧ armTests b n s = enterArm n .lifting true u := by
  have hlift : ∀ u : State, (u.arm n).state = .lowering ∨ (u.arm n).state = .working → reversing b u = true →
      blindTest b n (reverseLiftTest b n u) = enterArm n .lifting true u := fun u hu hb => by
    rw [reverseLiftTest_back hu hb, blindTest_standing (by simp [enterArm_state])]
  rw [armTests_eq (by simp [hs]), arrivalTest_lowering hgood hs]
  split
  · exact ⟨_, .inr rfl, hlift _ (.inr (by simp [enterArm_state])) (by rwa [(sameView_enterArm _ _ _ _).reversing])⟩
  · exact ⟨_, .inl rfl, hlift _ (.inl hs) hback⟩

theorem armTests_lowering_stays (hgood : inSpan (s.arm n).position = true) (hs : (s.arm n).state = .lowering)
    (hback : reversing b s = false) (habove : workPosition b n < (s.arm n).position.toNat) : armTests b n s = s := by
  rw [armTests_eq (by simp [hs]), arrivalTest_lowering hgood hs, if_neg (by omega), reverseLiftTest_forward hback,
    blindTest_standing (by simp [hs])]

theorem armTests_arrives (hgood : inSpan (s.arm n).position = true) (hs : (s.arm n).state = .lowering)
    (hback : reversing b s = false) (hbelow : (s.arm n).position.toNat ≤ workPosition b n) :
    armTests b n s = blindTest b n (enterArm n .working false s) := by
  rw [armTests_eq (by simp [hs]), arrivalTest_lowering hgood hs, if_pos hbelow,
    reverseLiftTest_forward (by rwa [(sameView_enterArm _ _ _ _).reversing])]

theorem armTests_working (hs : (s.arm n).state = .working) (hback : reversing b s = false) :
    armTests b n s = blindTest b n s := by
  rw [armTests_eq (by simp [hs]), arrivalTest_standing (by simp [hs]) (by simp [hs]), reverseLiftTest_forward hback]

theorem armTests_working_back (hs : (s.arm n).state = .working) (hback : reversing b s = true) :
    armTests b n s = enterArm n .lifting true s := by
  rw [armTests_eq (by simp [hs]), arrivalTest_standing (by simp [hs]) (by simp [hs]),
    reverseLiftTest_back (.inr hs) hback, blindTest_standing (by simp [enterArm_state])]

theorem armTests_reverseLifted (hs : (s.arm n).state = .reverseLifted) : armTests b n s
    = if (viewTravel s).quality ≠ .bad ∧ (b.arms.resume : Int) ≤ (viewTravel s).value ∧ lowerAllowed b n s = true then
        enterArm n .lowering false s else s := by
  rw [armTests, arrivalTest_standing (by simp [hs]) (by simp [hs]), reverseLiftTest_standing (by simp [hs]) (by simp [hs]), resumeTest]
  simp only [hs, true_and]
  split
  · exact blindTest_standing (by simp [enterArm_state])
  · exact blindTest_standing (by simp [hs])

/-! ### Blind running (R83, R84) -/

theorem blindTest_seen (hs : (s.arm n).state = .working) (hseen : (viewTravel s).quality ≠ .bad) :
    blindTest b n s = s.withArm n { s.arm n with blindTimer := none } := by
  simp [blindTest, hs, hseen]

theorem State.withArm_self (s : State) (n : ArmId) : s.withArm n (s.arm n) = s := by cases n <;> rfl

theorem blindTest_blind (hs : (s.arm n).state = .working) (hblind : (viewTravel s).quality = .bad)
    (htime : 0 < b.arms.blindTime) :
    blindTest b n s = s.withArm n { s.arm n with
      blindTimer := if (s.arm n).blindTimer.isSome then (s.arm n).blindTimer else some 0 } := by
  rw [blindTest, if_neg (not_not.mpr hs), if_pos hblind, if_neg (show ¬ b.arms.blindTime = 0 by omega)]
  split
  · exact (State.withArm_self s n).symm
  · rfl

theorem blindTest_expires (hs : (s.arm n).state = .working) (hblind : (viewTravel s).quality = .bad)
    (htime : b.arms.blindTime = 0) (htimer : (s.arm n).blindTimer = none) : blindTest b n s = blindExpired n s := by
  simp [blindTest, hs, hblind, htime, htimer]

end

theorem blindExpired_leaves (n : ArmId) (s : State) :
    (blindExpired n s).arm n = (enterArm n .lifting false s).arm n
      ∧ (blindExpired n s).req = (enterArm n .lifting false s).req
      ∧ (blindExpired n s).sp = (enterArm n .lifting false s).sp := by
  unfold blindExpired
  simp only
  split
  · exact ⟨rfl, rfl, rfl⟩
  · refine ⟨?_, by simp, by simp⟩
    cases n <;> simp [State.arm]

theorem blindExpired_travelLost (n : ArmId) (s : State) :
    (travelSource s ≠ .own → sticky .travelLost (blindExpired n s) = true)
      ∧ (travelSource s = .own → (blindExpired n s).faults = s.faults) := by
  have hsource := (sameView_enterArm n .lifting false s).travelSource
  unfold blindExpired
  simp only [hsource]
  refine ⟨fun h => ?_, fun h => ?_⟩
  · rw [if_neg h, sticky_raiseOnce, if_pos rfl]
  · rw [if_pos h, enterArm_faults]

end Sys2Proof.Machine
end

section
/-! SUPPORT. The arm periods and the arm timers as the statements say them (R69 to R87). -/

namespace Sys2Proof.Machine

-- One thread elaborates this section, so that the check's memory limit holds the stacks.
set_option Elab.async false

theorem armPeriod_good {b : StartBlock} {n : ArmId} {raw : Raw} {s : State} (hgood : inSpan raw = true) :
    armPeriod b n (setPositionPin n raw s)
      = brushPeriod b n (armTests b n (readPosition n (setPositionPin n raw s))) := by
  have hpos : ((readPosition n (setPositionPin n raw s)).arm n).position = raw := by rw [(armRead n raw s).arm]
  rw [armPeriod, positionFaultMove, if_neg (by simp [hpos, hgood])]

theorem armPeriod_bad {b : StartBlock} {n : ArmId} {raw : Raw} {s : State} (hbad : inSpan raw = false) :
    armPeriod b n (setPositionPin n raw s) = brushPeriod b n (if (s.arm n).state = .held
      then readPosition n (setPositionPin n raw s)
      else enterArm n .held false (readPosition n (setPositionPin n raw s))) := by
  have harm := (armRead n raw s).arm
  rw [armPeriod, positionFaultMove, harm]
  by_cases hheld : (s.arm n).state = .held
  · rw [if_neg (by simp [hheld]), if_pos hheld, armTests_standing (by rw [harm]; exact .inr hheld)]
  · rw [if_pos (by simp [hbad, hheld]), if_neg hheld, armTests_standing (by simp [enterArm_state])]

/-- The pins of an arm. -/
def pinsOf (n : ArmId) (s : State) : ArmPins :=
  match n with
  | .one => (outputs s).arm1
  | .two => (outputs s).arm2

theorem outputsDriven_of_periodsRun {s : State} (h : periodsRun s = true) : outputsDriven s = true :=
  (outputsDriven_iff s).mpr ((periodsRun_iff s).mp h)

theorem pinsOf_driven {n : ArmId} {s : State} (hrun : periodsRun s = true) (hpop : populated (armChannel n) s = true) :
    pinsOf n s = ⟨decide ((s.arm n).state = .lifting), decide ((s.arm n).state = .lowering),
      decide ((s.arm n).state = .working), (s.arm n).command⟩ := by
  have hdriven := outputsDriven_of_periodsRun hrun
  cases n
  · have hpop' : populated .arm1 s = true := hpop
    simp only [pinsOf, outputs, hdriven, hpop', armPins, Bool.and_self, Bool.true_and, if_true]
    rfl
  · have hpop' : populated .arm2 s = true := hpop
    simp only [pinsOf, outputs, hdriven, hpop', armPins, Bool.and_self, Bool.true_and, if_true]
    rfl

theorem brushPeriod_state (b : StartBlock) (n : ArmId) (s : State) :
    ((brushPeriod b n s).arm n).state = (s.arm n).state ∧ ((brushPeriod b n s).arm n).resume = (s.arm n).resume
      ∧ ((brushPeriod b n s).arm n).moveTimer = (s.arm n).moveTimer
      ∧ ((brushPeriod b n s).arm n).blindTimer = (s.arm n).blindTimer
      ∧ ((brushPeriod b n s).arm n).position = (s.arm n).position := by
  rw [brushPeriod_arm]
  exact ⟨rfl, rfl, rfl, rfl, rfl⟩

theorem brushPeriod_command_resting {b : StartBlock} {n : ArmId} {s : State} (h : (s.arm n).state ≠ .working) :
    ((brushPeriod b n s).arm n).command = 0 := by
  rw [brushPeriod_arm, if_neg h]

theorem armPeriod_other (b : StartBlock) (n : ArmId) (raw : Raw) (s : State) {m : ArmId} (hm : m ≠ n) :
    (armPeriod b n (setPositionPin n raw s)).arm m = s.arm m := by
  rw [(armPeriod_keeps b n _).arm m (by cases n <;> cases m <;> simp_all [armPart]), setPositionPin_arm]

theorem armPeriod_start (b : StartBlock) (n : ArmId) (raw : Raw) (s : State) :
    (armPeriod b n (setPositionPin n raw s)).start = s.start := by
  rw [(armPeriod_keeps b n _).start (by cases n <;> decide), (setPositionPin_keeps n raw s).start]

theorem enterArm_held_req (n : ArmId) (r : Bool) (s : State) : (enterArm n .held r s).req
    = { s.req with table := s.req.table.map (fun e =>
        e.endedBy n (some (.failed, 5)) (some (.failed, 5)) (some (.failed, 0))) } := by
  have hends : ∀ u : State, (u.arm n).state = .held → u.req = s.req → (endOperations n u).req = { s.req with
      table := s.req.table.map (fun e =>
        e.endedBy n (some (.failed, 5)) (some (.failed, 5)) (some (.failed, 0))) } := fun u hu hreq => by
    rw [endOperations_held n u hu, hreq]
  simp only [enterArm]
  split_ifs
  · exact hends _ (by simp [Arm.entered]) (by simp)
  · exact hends _ (by simp [stopBrush, Arm.entered]) (by simp)
  · exact hends _ (by simp [Arm.entered]) (by simp)

/-- Settles O22. -/
theorem badPositionHoldsTheArm : Obligations.BadPositionHoldsTheArm := by
  unfold Obligations.BadPositionHoldsTheArm
  refine ⟨inSpan_iff, fun n raw s hrest => ?_, fun n raw s b himage hpop hrun hbad => ?_⟩
  · rw [exec_armPeriod_rests hrest]
    cases n <;> rfl
  · refine ⟨_, exec_armPeriod himage hpop hrun, ?_⟩
    have hread := armRead n raw s
    have hperiod := armPeriod_bad (b := b) (n := n) (s := s) hbad
    have hstart := armPeriod_start b n raw s
    have hkeeps := (((setPositionPin_keeps n raw s).mono (by simp)).trans ((armPeriod_keeps b n _).mono (by simp)) :
      KeepsAllBut [.pins, .line, .req, .sp, armPart n, .faults] s _)
    have hother := fun m (hm : m ≠ n) => armPeriod_other b n raw s hm
    generalize readPosition n (setPositionPin n raw s) = u at hread hperiod
    generalize armPeriod b n (setPositionPin n raw s) = t at *
    generalize hv : (if (s.arm n).state = .held then u else enterArm n .held false u) = v at hperiod
    have hvstate : (v.arm n).state = .held ∧ (v.arm n).position = raw := by
      rw [← hv]
      split
      · next h => rw [hread.arm]; exact ⟨h, rfl⟩
      · rw [enterArm_arm, hread.arm]; exact ⟨rfl, rfl⟩
    have hvfaults : v.faults = u.faults := by
      rw [← hv]
      split
      · rfl
      · exact enterArm_faults _ _ _ _
    obtain ⟨hstate, hresume, hmove, hblind, hposition⟩ := brushPeriod_state b n v
    have hcommand := brushPeriod_command_resting (b := b) (n := n) (s := v) (by simp [hvstate])
    have hreq := brushPeriod_req b n v
    have hfaults := (brushPeriod_faults b n v).trans hvfaults
    have hbrush := brushPeriod_brush b n v
    rw [← hperiod] at hstate hresume hmove hblind hposition hcommand hreq hfaults hbrush
    rw [hvstate.1] at hstate
    rw [hvstate.2] at hposition
    have hpins : pinsOf n t = ⟨false, false, false, 0⟩ := by
      rw [pinsOf_driven (by rw [periodsRun, hstart]; exact hrun) (by rw [populated, hstart]; exact hpop), hstate, hcommand]
      rfl
    refine ⟨hstate, hposition, hcommand, ?_, fun hne => ?_, fun hwork => ?_, ?_, ?_, fun hne => ?_, fun hheld => ?_, hother,
      hkeeps.drive (by cases n <;> decide), hkeeps.water (by cases n <;> decide), hstart,
      hkeeps.peers (by cases n <;> decide), hkeeps.pending (by cases n <;> decide), hkeeps.free (by cases n <;> decide)⟩
    · cases n <;> exact hpins
    · rw [if_neg hne] at hv
      rw [hresume, hmove, hblind, ← hv, enterArm_arm]
      exact ⟨rfl, rfl, rfl⟩
    · rw [if_neg (by simp [hwork])] at hv
      rw [hbrush, if_neg (by simp [hvstate]), ← hv, enterArm_brush, if_pos (by simp [hread.arm, hwork])]
      rfl
    · rw [active_congr hfaults]
      exact (hread.bad hbad).1
    · rw [sticky_congr hfaults]
      exact (hread.bad hbad).2
    · rw [if_neg hne] at hv
      rw [hreq, ← hv, enterArm_held_req, hread.req]
    · rw [if_pos hheld] at hv
      rw [hreq, ← hv, hread.req]

/-! ### The timers of an arm -/

theorem allStowed_false {n : ArmId} {s : State} (hpop : populated (armChannel n) s = true)
    (hs : (s.arm n).state ≠ .stowed) : allStowed s = false := by
  rw [Bool.eq_false_iff, ne_eq, allStowed_iff]
  exact fun h => hs (h n hpop)

theorem populated_enterArm {c : Channel} {n : ArmId} {st : ArmState} {r : Bool} {s : State}
    (hpop : populated c s = true) : populated c (enterArm n st r s) = true := by
  rw [populated, enterArm_start]
  exact hpop

theorem enterArm_lifting_req {n : ArmId} {s : State} (hpop : populated (armChannel n) s = true) :
    (enterArm n .lifting false s).req = { s.req with table := s.req.table.map (fun e =>
      e.endedBy n (some (.failed, 3)) none none) } := by
  obtain ⟨hstate, hresume⟩ := enterArm_state n .lifting false s
  rw [enterArm_req, allStowed_false (populated_enterArm hpop) (by simp [hstate])]
  exact congrArg (fun t => { s.req with table := t }) (List.map_congr_left fun e _ => afterArm_lifting e n hstate hresume)

theorem blindExpired_req {n : ArmId} {s : State} (hpop : populated (armChannel n) s = true) :
    (blindExpired n s).req = { s.req with table := s.req.table.map (fun e =>
      e.endedBy n (some (.failed, 3)) none none) } :=
  (blindExpired_leaves n s).2.1.trans (enterArm_lifting_req hpop)

/-- The arm and the brush that the end of blind running leaves (R84). -/
theorem blindExpired_arm {n : ArmId} {s : State} (hs : (s.arm n).state = .working) :
    (blindExpired n s).arm n = { s.arm n with
        state := .lifting, resume := false, moveTimer := some 0, blindTimer := none, command := 0 }
      ∧ (blindExpired n s).sp.brush n = { s.sp.brush n with ramp := (s.sp.brush n).ramp.setOut 0 } := by
  obtain ⟨harm, -, hsp⟩ := blindExpired_leaves n s
  rw [harm, hsp, enterArm_arm, enterArm_brush]
  simp [hs, Arm.entered, moveTimerAfter]

theorem handOverStall_alertSlot {n : ArmId} {s : State} (hfirst : sticky (armFault n) s = false) :
    (handOverStall n true s).line.alertSlot = some (armFault n) := by
  have hset : ∀ f : Faults, f.sticky = s.faults.sticky →
      (setSticky (armFault n) (s.withFaults f)).line.alertSlot = some (armFault n) := fun f hf => by
    have hnot : sticky (armFault n) (s.withFaults f) = false := by rw [sticky_withFaults, hf]; exact hfirst
    rw [setSticky_line, armFault_isTrip, hnot]
    rfl
  cases n
  · exact hset _ rfl
  · exact hset _ rfl

/-- Settles O26. -/
theorem armTimersExpire : Obligations.ArmTimersExpire := by
  unfold Obligations.ArmTimersExpire
  intro n s b ms himage
  refine ⟨fun htimer hlimit => ?_, fun htimer hlimit hwork => ?_⟩
  · have hdue : moveDue n s = true := dueBy_of_image himage htimer _ hlimit
    refine ⟨stall n s, by simp only [exec, execMoveTimerExpiry, hdue, if_true], ?_⟩
    have harm : (stall n s).arm n = (enterArm n .held false s).arm n := by
      cases n <;> simp [stall, State.arm]
    have hactive : active (armFault n) (stall n s) = true := active_handOverStall_present n _
    have hsticky : sticky (armFault n) (stall n s) = true := by
      rw [stall, sticky_handOverStall, if_pos ⟨rfl, rfl⟩]
    rw [harm, enterArm_arm]
    refine ⟨rfl, rfl, rfl, rfl, hactive, hsticky, fun hfirst => ?_, fun _ => ?_⟩
    · exact handOverStall_alertSlot (by rw [sticky_enterArm]; exact hfirst)
    · rw [stall, handOverStall_req, enterArm_held_req]
  · have hdue : blindDue n s = true := dueBy_of_image himage htimer _ hlimit
    refine ⟨blindExpired n s, by simp only [exec, execBlindTimerExpiry, hdue, hwork, and_self, if_true], ?_⟩
    obtain ⟨harm, hbrush⟩ := blindExpired_arm hwork
    obtain ⟨haway, hown⟩ := blindExpired_travelLost n s
    rw [harm, hbrush]
    exact ⟨rfl, rfl, rfl, rfl, rfl, rfl, blindExpired_req, haway, hown⟩

/-! ### The moves of an arm with a good position -/

theorem travelAllowsLowering_iff (b : StartBlock) (s : State) : travelAllowsLowering b s = true
    ↔ (viewTravel s).quality ≠ .bad ∧ -(b.arms.reverseLift : Int) ≤ (viewTravel s).value
      ∧ (viewTravel s).value.natAbs ≤ b.arms.lowerSpeed := by
  simp [travelAllowsLowering, and_assoc]

theorem lowerAllowed_iff (b : StartBlock) (n : ArmId) (s : State) : lowerAllowed b n s = true
    ↔ (s.start.mode = .sweepDry ∨ s.start.mode = .sweepWet) ∧ s.start.station = .running
      ∧ (viewTravel s).quality ≠ .bad ∧ -(b.arms.reverseLift : Int) ≤ (viewTravel s).value
      ∧ (viewTravel s).value.natAbs ≤ b.arms.lowerSpeed
      ∧ ¬ ((s.arm n).state = .held ∧ sticky (armFault n) s = true) := by
  rw [lowerAllowed, Bool.and_eq_true, Bool.and_eq_true, Bool.and_eq_true, travelAllowsLowering_iff]
  simp [heldByTrip, and_assoc, imp_iff_not_or]

theorem reversing_iff (b : StartBlock) (s : State) : reversing b s = true
    ↔ (viewTravel s).quality ≠ .bad ∧ (viewTravel s).value < -(b.arms.reverseLift : Int) := by
  simp [reversing]

theorem enterArm_working_req {n : ArmId} {s : State} (hpop : populated (armChannel n) s = true) (r : Bool) :
    (enterArm n .working r s).req = { s.req with table := s.req.table.map (fun e =>
      e.endedBy n (some (.done, 2)) none none) } := by
  obtain ⟨hstate, -⟩ := enterArm_state n .working r s
  rw [enterArm_req, allStowed_false (populated_enterArm hpop) (by simp [hstate])]
  exact congrArg (fun t => { s.req with table := t }) (List.map_congr_left fun e _ => afterArm_working e n hstate)

theorem enterArm_stowed_req (n : ArmId) (r : Bool) (s : State) :
    (enterArm n .stowed r s).req = { s.req with table := s.req.table.map (fun e =>
      e.endedBy n (some (.failed, 0)) (some (.done, 0))
        (if allStowed (enterArm n .stowed r s) then some (.done, 0) else none)) } := by
  obtain ⟨hstate, -⟩ := enterArm_state n .stowed r s
  rw [enterArm_req]
  exact congrArg (fun t => { s.req with table := t }) (List.map_congr_left fun e _ => afterArm_stowed e n hstate _)

theorem enterArm_reverseLifted_req {n : ArmId} {s : State} (hpop : populated (armChannel n) s = true) (r : Bool) :
    (enterArm n .reverseLifted r s).req = s.req := by
  obtain ⟨hstate, -⟩ := enterArm_state n .reverseLifted r s
  rw [enterArm_req, allStowed_false (populated_enterArm hpop) (by simp [hstate])]
  have hmap : s.req.table.map (fun e => e.afterArm n ((enterArm n .reverseLifted r s).arm n) false) = s.req.table.map id :=
    List.map_congr_left fun e _ => afterArm_moving e n (.inl hstate)
  rw [hmap, List.map_id]

/-- A blind test that leaves the arm WORKING moves the blind timer alone (R83, R84). -/
theorem blindTest_works {b : StartBlock} {n : ArmId} {s : State} (hs : (s.arm n).state = .working)
    (h : (viewTravel s).quality = .bad → 0 < b.arms.blindTime) :
    ∃ timer, blindTest b n s = s.withArm n { s.arm n with blindTimer := timer } := by
  by_cases hblind : (viewTravel s).quality = .bad
  · exact ⟨_, blindTest_blind hs hblind (h hblind)⟩
  · exact ⟨_, blindTest_seen hs hblind⟩

theorem enterArm_position (n : ArmId) (st : ArmState) (r : Bool) (s : State) :
    ((enterArm n st r s).arm n).position = (s.arm n).position := by
  rw [enterArm_arm]
  rfl

theorem armTests_position (b : StartBlock) (n : ArmId) (s : State) :
    ((armTests b n s).arm n).position = (s.arm n).position := by
  have harrive : ((arrivalTest b n s).arm n).position = (s.arm n).position := by
    rcases arrivalTest_cases b n s with h | ⟨-, h⟩ | ⟨-, h⟩ | ⟨-, h⟩ <;> rw [h]
    all_goals exact enterArm_position _ _ _ _
  have hreverse : ∀ u, ((reverseLiftTest b n u).arm n).position = (u.arm n).position := fun u => by
    rcases reverseLiftTest_cases b n u with h | ⟨-, h⟩ <;> rw [h]
    exact enterArm_position _ _ _ _
  have hresume : ∀ st u, ((resumeTest b n st u).arm n).position = (u.arm n).position := fun st u => by
    rcases resumeTest_cases b n st u with h | ⟨-, -, h⟩ <;> rw [h]
    exact enterArm_position _ _ _ _
  have hblind : ∀ u, ((blindTest b n u).arm n).position = (u.arm n).position := fun u => by
    rcases blindTest_cases b n u with h | ⟨-, h⟩ | ⟨-, timer, h⟩ <;> rw [h]
    · rw [(blindExpired_leaves n u).1]
      exact enterArm_position _ _ _ _
    · simp
  rw [armTests, hblind, hresume, hreverse, harrive]

theorem brushPeriod_allStowed (b : StartBlock) (n : ArmId) (s : State) : allStowed (brushPeriod b n s) = allStowed s := by
  have hstart : (brushPeriod b n s).start = s.start := (brushPeriod_keeps b n s).start (by cases n <;> decide)
  have hstate : ∀ m, ((brushPeriod b n s).arm m).state = (s.arm m).state := fun m => by
    by_cases hm : m = n
    · subst hm
      exact (brushPeriod_state b m s).1
    · rw [(brushPeriod_keeps b n s).arm m (by cases n <;> cases m <;> simp_all [armPart])]
  simp only [allStowed, populatedArms, populated, hstart, hstate]

/-- Settles O23. -/
theorem armPeriodMoves : Obligations.ArmPeriodMoves := by
  unfold Obligations.ArmPeriodMoves
  intro n raw s b himage hpop hrun hgood v back allStowedAfter
  refine ⟨by cases n <;> rfl, lowerAllowed_iff b n s, _, exec_armPeriod himage hpop hrun, ?_⟩
  have hread := armRead n raw s
  have hstart := armPeriod_start b n raw s
  have hother := fun m (hm : m ≠ n) => armPeriod_other b n raw s hm
  rw [armPeriod_good hgood] at hstart hother ⊢
  generalize readPosition n (setPositionPin n raw s) = u at hread hstart hother ⊢
  have hpos : (u.arm n).position = raw := by rw [hread.arm]
  have hugood : inSpan (u.arm n).position = true := by rw [hpos]; exact hgood
  have hupop : populated (armChannel n) u = true := by rw [hread.view.populated]; exact hpop
  have hback : reversing b u = true ↔ back := by rw [hread.view.reversing, reversing_iff]
  have hahead : ¬ back → reversing b u = false := fun h => by rwa [← hback, Bool.not_eq_true] at h
  have htravel : viewTravel u = v := hread.view.viewTravel
  have hu : ∀ st, (s.arm n).state = st → (u.arm n).state = st := fun st h => by rw [hread.arm]; exact h
  obtain ⟨hstate, hresume, hmove, hblind, hposition⟩ := brushPeriod_state b n (armTests b n u)
  have hreq := brushPeriod_req b n (armTests b n u)
  have hpins : pinsOf n (brushPeriod b n (armTests b n u)) = _ :=
    pinsOf_driven (by rw [periodsRun, hstart]; exact hrun) (by rw [populated, hstart]; exact hpop)
  have hallStowed : allStowed (armTests b n u) = true ↔ allStowedAfter (brushPeriod b n (armTests b n u)) := by
    rw [← brushPeriod_allStowed b n, allStowed_iff]
    simp only [allStowedAfter, populated, hstart]
  have hresting : ((armTests b n u).arm n).state ≠ .working → ((brushPeriod b n (armTests b n u)).arm n).command = 0 :=
    brushPeriod_command_resting
  rw [hstate, hresume, hmove, hreq]
  refine ⟨?_, ?_, ?_, ?_, ?_, hother, ?_, ?_, ?_, ?_, ?_, ?_, ?_, ?_, ?_, ?_⟩
  · rw [← hstate]
    cases n <;> exact hpins
  · rw [hposition, armTests_position, hpos]
  · intro hs hbelow hnback htime
    rw [armTests_arrives hugood (hu _ hs) (hahead hnback) (by rw [hpos]; exact hbelow)]
    obtain ⟨timer, hworks⟩ := blindTest_works (b := b) (enterArm_state n .working false u).1 (by
      rw [(sameView_enterArm n .working false u).viewTravel, htravel]
      exact htime)
    rw [hworks, State.withArm_req, enterArm_working_req hupop, hread.req]
  · intro hs hresumes habove
    have htests := armTests_lifting (b := b) hugood (hu _ hs)
    rw [if_pos (by rw [hpos]; exact habove), hread.arm] at htests
    simp only [hresumes, Bool.false_eq_true, if_false] at htests
    rw [← hallStowed, htests, enterArm_stowed_req, hread.req]
    exact ⟨fun h => by simp only [h, if_true], fun h => by simp [h]⟩
  · intro hs hresumes habove
    rw [armTests_lifting hugood (hu _ hs), if_pos (by rw [hpos]; exact habove), hread.arm]
    simp only [hresumes, if_true]
    rw [enterArm_reverseLifted_req hupop, hread.req]
  · intro hs hbelow hnback htime
    rw [armTests_arrives hugood (hu _ hs) (hahead hnback) (by rw [hpos]; exact hbelow)]
    obtain ⟨timer, hworks⟩ := blindTest_works (b := b) (enterArm_state n .working false u).1 (by
      rw [(sameView_enterArm n .working false u).viewTravel, htravel]
      exact htime)
    rw [hworks, State.withArm_arm]
    exact (enterArm_state n .working false u).1
  · intro hs habove hnback
    rw [armTests_lowering_stays hugood (hu _ hs) (hahead hnback) (by rw [hpos]; exact habove), hread.arm]
    exact ⟨hs, rfl⟩
  · intro hs hb
    have hlift : ∃ w, armTests b n u = enterArm n .lifting true w ∧ (w.arm n).state ≠ .lifting := by
      rcases hs with hs | hs
      · obtain ⟨w, hw, htests⟩ := armTests_lowering_back hugood (hu _ hs) (hback.mpr hb)
        refine ⟨w, htests, ?_⟩
        rcases hw with rfl | rfl
        · simp [hu _ hs]
        · simp [enterArm_state]
      · exact ⟨u, armTests_working_back (hu _ hs) (hback.mpr hb), by simp [hu _ hs]⟩
    obtain ⟨w, htests, hne⟩ := hlift
    rw [hresting (by rw [htests]; simp [enterArm_state]), htests, enterArm_arm]
    exact ⟨rfl, rfl, by simp [Arm.entered, moveTimerAfter, hne], rfl⟩
  · intro hs habove
    rw [armTests_lifting hugood (hu _ hs), if_pos (by rw [hpos]; exact habove), hread.arm]
    cases hresumes : (s.arm n).resume
    · simp [enterArm_arm, Arm.entered, moveTimerAfter]
    · simp [enterArm_arm, Arm.entered, moveTimerAfter]
  · intro hs hbelow
    rw [armTests_lifting hugood (hu _ hs), if_neg (by rw [hpos]; omega), hread.arm]
    exact ⟨hs, rfl, rfl⟩
  · intro hs hseen hfast hlower
    have hlower' : lowerAllowed b n u = true := by
      rw [hread.view.lowerAllowed b (by simp [heldByTrip, hread.arm, hs])]
      exact hlower
    rw [armTests_reverseLifted (hu _ hs), if_pos (by rw [htravel]; exact ⟨hseen, hfast, hlower'⟩), enterArm_arm]
    exact ⟨rfl, rfl, by simp [Arm.entered, moveTimerAfter, hu _ hs]⟩
  · intro hs hstays
    have hlower : lowerAllowed b n u = lowerAllowed b n s :=
      hread.view.lowerAllowed b (by simp [heldByTrip, hread.arm, hs])
    rw [armTests_reverseLifted (hu _ hs), if_neg, hu _ hs]
    rw [htravel, hlower]
    rintro ⟨hseen, hfast, hallowed⟩
    rcases hstays with h | h | h
    · exact hseen h
    · omega
    · exact absurd hallowed (by simp [h])
  · intro hs
    rw [armTests_standing (.inl (hu _ hs)), hu _ hs]
  · intro hs
    rw [armTests_standing (.inr (hu _ hs)), hu _ hs]
  · intro hs hseen hnback
    rw [hblind, armTests_working (hu _ hs) (hahead hnback), blindTest_seen (hu _ hs) (by rw [htravel]; exact hseen),
      State.withArm_arm]
    exact ⟨hu _ hs, rfl⟩

/-! ### Working blind (R83, R84, R86) -/

/-- A WORKING arm as the blind test of a period finds it: one that worked before, or that arrives in this period. -/
structure AtWork (n : ArmId) (raw : Raw) (s w : State) (arrives : Prop) : Prop where
  state : (w.arm n).state = .working
  view : SameView n s w
  command : (w.arm n).command = (s.arm n).command
  blindTimer : (w.arm n).blindTimer = (s.arm n).blindTimer
  position : (w.arm n).position = raw
  trim : (w.arm n).trim = (s.arm n).trim
  brush : w.sp.brush n = s.sp.brush n
  populated : Machine.populated (armChannel n) w = true
  came : arrives → w.req = { s.req with table := s.req.table.map (fun e => e.endedBy n (some (.done, 2)) none none) }
  worked : ¬ arrives → w.req = s.req

theorem atWork {b : StartBlock} {n : ArmId} {raw : Raw} {s u : State} (hread : ArmRead n raw s u)
    (hpop : populated (armChannel n) s = true) (hgood : inSpan raw = true) (hback : reversing b s = false)
    (h : (s.arm n).state = .working ∨ ((s.arm n).state = .lowering ∧ raw.toNat ≤ workPosition b n)) :
    ∃ w, AtWork n raw s w ((s.arm n).state = .lowering ∧ raw.toNat ≤ workPosition b n)
      ∧ armTests b n u = blindTest b n w := by
  have hupop : populated (armChannel n) u = true := by rw [hread.view.populated]; exact hpop
  have huback : reversing b u = false := by rw [hread.view.reversing]; exact hback
  have hpos : (u.arm n).position = raw := by rw [hread.arm]
  have hstate : (u.arm n).state = (s.arm n).state := by rw [hread.arm]
  rcases h with hs | ⟨hs, hbelow⟩
  · refine ⟨u, ⟨hstate.trans hs, hread.view, by rw [hread.arm], by rw [hread.arm], hpos, by rw [hread.arm],
      by rw [hread.sp], hupop, fun h => ?_, fun _ => hread.req⟩, armTests_working (hstate.trans hs) huback⟩
    simp [hs] at h
  · have hne : ¬ ((u.arm n).state = .working ∧ ArmState.working ≠ .working) := fun h => h.2 rfl
    refine ⟨enterArm n .working false u, ⟨(enterArm_state _ _ _ _).1, hread.view.trans (sameView_enterArm _ _ _ _), ?_, ?_,
      ?_, ?_, ?_, populated_enterArm hupop, fun _ => ?_, fun h => absurd ⟨hs, hbelow⟩ h⟩,
      armTests_arrives (by rw [hpos]; exact hgood) (hstate.trans hs) huback (by rw [hpos]; exact hbelow)⟩
    · rw [enterArm_arm, if_neg hne, hread.arm]
    · rw [enterArm_arm, hread.arm]
      rfl
    · rw [enterArm_position, hpos]
    · rw [enterArm_arm, hread.arm]
      rfl
    · rw [enterArm_brush, if_neg hne, hread.sp]
    · rw [enterArm_working_req hupop, hread.req]

theorem SameView.withArm {n : ArmId} {s u : State} (h : SameView n s u) (a : Arm) : SameView n s (u.withArm n a) :=
  h.trans (sameView_of_keeps ((State.withArm_keeps u n a).mono (by cases n <;> decide)))

/-- An operation that the arrival has ended is not ended again. -/
theorem endedBy_done_again (e : PendingEntry) (n : ArmId) (out : PendingState × Word) :
    (e.endedBy n (some (.done, 2)) none none).endedBy n (some out) none none
      = e.endedBy n (some (.done, 2)) none none := by
  rcases e with ⟨r, t, op, c, st, v, tm⟩
  rcases op with _ | ⟨m, _ | _⟩
  · rfl
  · rfl
  · by_cases h : st = .running ∧ c.hasArm n = true <;> simp [PendingEntry.endedBy, h]

theorem brushSite_blind {b : StartBlock} {n : ArmId} {s : State} (hblind : (viewTravel s).quality = .bad) :
    (brushSite b n s).ramp.out = (activeBank b s).blindCommand ∧ (brushSite b n s).clamp = (s.sp.brush n).clamp
      ∧ (brushSite b n s).sat = (s.sp.brush n).sat := by
  rw [brushSite, if_pos hblind]
  split
  · next h => exact ⟨h, rfl, rfl⟩
  · exact ⟨rfl, rfl, rfl⟩

theorem brushSite_seen {b : StartBlock} {n : ArmId} {s v : State} (hview : SameView n s v)
    (hseen : (viewTravel s).quality ≠ .bad) (hcommand : (v.arm n).command = (s.arm n).command) :
    brushSite b n v = (v.sp.brush n).chain (activeBank b s).brush (activeBank b s).brRule (activeBank b s).brTimes
      (viewTravel s).value.natAbs (v.arm n).trim
      (testQuantity b s (rawQuantity (v.arm n).position) (activeBank b s).brRule.quantity) := by
  rw [brushSite, if_neg (by rw [hview.viewTravel]; exact hseen), hview.viewTravel, hview.activeBank,
    hview.testQuantity hcommand]

theorem blindExpired_brush_period {b : StartBlock} {n : ArmId} {w : State} (hs : (w.arm n).state = .working) :
    ((brushPeriod b n (blindExpired n w)).arm n).state = .lifting
      ∧ ((brushPeriod b n (blindExpired n w)).arm n).resume = false
      ∧ ((brushPeriod b n (blindExpired n w)).arm n).moveTimer = some 0
      ∧ ((brushPeriod b n (blindExpired n w)).arm n).blindTimer = none
      ∧ ((brushPeriod b n (blindExpired n w)).arm n).command = 0
      ∧ ((brushPeriod b n (blindExpired n w)).sp.brush n).ramp.out = 0
      ∧ ((brushPeriod b n (blindExpired n w)).sp.brush n).clamp = (w.sp.brush n).clamp
      ∧ ((brushPeriod b n (blindExpired n w)).sp.brush n).sat = (w.sp.brush n).sat := by
  obtain ⟨harm, hbrush⟩ := blindExpired_arm hs
  have hne : ((blindExpired n w).arm n).state ≠ .working := by simp [harm]
  rw [brushPeriod_arm, brushPeriod_brush, if_neg hne, if_neg hne, harm, hbrush]
  exact ⟨rfl, rfl, rfl, rfl, rfl, rfl, rfl, rfl⟩

/-- Settles O24. -/
theorem workingArmRunsBlind : Obligations.WorkingArmRunsBlind := by
  unfold Obligations.WorkingArmRunsBlind
  intro n raw s b himage hpop hrun hgood arrives hs
  have hexec := exec_armPeriod (raw := raw) himage hpop hrun
  have hread := armRead n raw s
  rw [armPeriod_good hgood] at hexec
  generalize readPosition n (setPositionPin n raw s) = u at hread hexec
  refine ⟨fun hseen hahead => ⟨_, hexec, ?_⟩, fun hblind htime => ⟨_, hexec, ?_⟩, fun hblind htime htimer => ⟨_, hexec, ?_⟩⟩
  · have hback : reversing b s = false := by
      rw [Bool.eq_false_iff, ne_eq, reversing_iff]
      omega
    obtain ⟨w, hw, htests⟩ := atWork hread hpop hgood hback hs
    rw [htests, blindTest_seen hw.state (by rw [hw.view.viewTravel]; exact hseen)]
    have hview := hw.view.withArm { w.arm n with blindTimer := none }
    generalize hv : w.withArm n { w.arm n with blindTimer := none } = v at hview ⊢
    have hvarm : v.arm n = { w.arm n with blindTimer := none } := by rw [← hv, State.withArm_arm]
    have hvbrush : v.sp.brush n = s.sp.brush n := by rw [← hv, State.withArm_sp, hw.brush]
    have hstate : (v.arm n).state = .working := by rw [hvarm]; exact hw.state
    have hcommand : (v.arm n).command = (s.arm n).command := by rw [hvarm]; exact hw.command
    obtain ⟨hst, -, -, htimer, -⟩ := brushPeriod_state b n v
    obtain ⟨hduty, -⟩ := brushPeriod_working (b := b) hstate
    refine ⟨hst.trans hstate, htimer.trans (by rw [hvarm]), ?_, ?_⟩
    · rw [brushPeriod_brush, if_pos hstate, brushSite_seen hview hseen hcommand, hview.brushFactor, hvarm, hw.position,
        hw.trim, hvbrush]
      rfl
    · rw [hduty, hview.brushFactor]
      rfl
  · have hback : reversing b s = false := by
      rw [Bool.eq_false_iff, ne_eq, reversing_iff]
      exact fun h => h.1 hblind
    obtain ⟨w, hw, htests⟩ := atWork hread hpop hgood hback hs
    rw [htests, blindTest_blind hw.state (by rw [hw.view.viewTravel]; exact hblind) htime, hw.blindTimer]
    generalize htimer : (if (s.arm n).blindTimer.isSome then (s.arm n).blindTimer else some 0) = timer
    have hview := hw.view.withArm { w.arm n with blindTimer := timer }
    generalize hv : w.withArm n { w.arm n with blindTimer := timer } = v at hview ⊢
    have hvarm : v.arm n = { w.arm n with blindTimer := timer } := by rw [← hv, State.withArm_arm]
    have hvbrush : v.sp.brush n = s.sp.brush n := by rw [← hv, State.withArm_sp, hw.brush]
    have hstate : (v.arm n).state = .working := by rw [hvarm]; exact hw.state
    obtain ⟨hst, -, -, hrunning, -⟩ := brushPeriod_state b n v
    obtain ⟨hduty, -⟩ := brushPeriod_working (b := b) hstate
    obtain ⟨hout, hclamp, hsat⟩ := brushSite_blind (b := b) (n := n) (s := v) (by rw [hview.viewTravel]; exact hblind)
    have hbrush := brushPeriod_brush b n v
    rw [if_pos hstate] at hbrush
    rw [hview.activeBank] at hout
    have hramp : ((brushPeriod b n v).sp.brush n).ramp.out = (activeBank b s).blindCommand := by rw [hbrush]; exact hout
    refine ⟨hst.trans hstate, hramp, ?_, ?_, ?_, ?_, fun hnone => ?_, fun ms hms => ?_⟩
    · rw [hbrush, ← hvbrush]
      exact hclamp
    · rw [hbrush, ← hvbrush]
      exact hsat
    · rw [hbrush, hview.brushFactor]
    · rw [hduty, hramp, derateNat_eq _ (Int.natCast_nonneg _), hview.brushFactor]
      rfl
    · rw [hrunning, hvarm, ← htimer, hnone]
      rfl
    · rw [hrunning, hvarm, ← htimer, hms]
      rfl
  · have hback : reversing b s = false := by
      rw [Bool.eq_false_iff, ne_eq, reversing_iff]
      exact fun h => h.1 hblind
    obtain ⟨w, hw, htests⟩ := atWork hread hpop hgood hback hs
    rw [htests, blindTest_expires hw.state (by rw [hw.view.viewTravel]; exact hblind) htime (hw.blindTimer.trans htimer)]
    obtain ⟨h1, h2, h3, h4, h5, h6, h7, h8⟩ := blindExpired_brush_period (b := b) hw.state
    obtain ⟨haway, hown⟩ := blindExpired_travelLost n w
    have hfaults := brushPeriod_faults b n (blindExpired n w)
    rw [hw.view.travelSource] at haway hown
    refine ⟨h1, h2, h3, h4, h5, h6, h7.trans (by rw [hw.brush]), h8.trans (by rw [hw.brush]), ?_, fun h => ?_, fun h => ?_⟩
    · rw [brushPeriod_req, blindExpired_req hw.populated]
      by_cases ha : arrives
      · rw [hw.came ha, if_pos ha]
        simp only [List.map_map]
        exact congrArg (fun t => { s.req with table := t }) (List.map_congr_left fun e _ => endedBy_done_again e n _)
      · rw [hw.worked ha, if_neg ha]
    · rw [sticky_congr hfaults]
      exact haway h
    · rw [sticky_congr hfaults, sticky_congr (hown h)]
      exact hw.view.sticky _ (by cases n <;> decide)

end Sys2Proof.Machine
end

section
/-! SUPPORT. The water period, step by step, and the water obligations (R91 to R103). -/

namespace Sys2Proof.Machine

-- One thread elaborates this section, so that the check's memory limit holds the stacks.
set_option Elab.async false

/-! ### Step 1 -/

theorem exec_waterPeriod {tank waterP : Raw} {s : State} {b : StartBlock} (himage : s.start.image = some b)
    (hpop : populated .wtr s = true) (hrun : periodsRun s = true) :
    exec (.wtrControlPeriod tank waterP) s
      = .next (waterPeriod b (s.withPins { s.pins with tank := tank, waterP := waterP })) := by
  have hpop' : populated .wtr (s.withPins { s.pins with tank := tank, waterP := waterP }) = true := hpop
  have hrun' : periodsRun (s.withPins { s.pins with tank := tank, waterP := waterP }) = true := hrun
  simp only [exec, execWtrControlPeriod, State.withPins_start, himage, hpop', hrun', Bool.and_self, if_true]

theorem exec_waterPeriod_rests {tank waterP : Raw} {s : State}
    (h : populated .wtr s = false ∨ periodsRun s = false) :
    exec (.wtrControlPeriod tank waterP) s
      = .next (s.withPins { s.pins with tank := tank, waterP := waterP }) := by
  have hoff : (populated .wtr (s.withPins { s.pins with tank := tank, waterP := waterP })
      && periodsRun (s.withPins { s.pins with tank := tank, waterP := waterP })) = false :=
    (Bool.and_eq_false_iff).mpr h
  simp only [exec, execWtrControlPeriod, hoff, Bool.false_eq_true, if_false]
  split <;> rfl

/-- What reading tank and pressure leaves (R91, R101). -/
structure WaterRead (b : StartBlock) (tank waterP : Raw) (s u : State) : Prop where
  water : u.water = { s.water with tank := tank, waterP := waterP }
  senses : SameSenses s u
  arm : ∀ m, u.arm m = s.arm m
  sp : u.sp = s.sp
  input : active .waterInput u = !(inSpan tank && inSpan waterP)
  inputSticky : sticky .waterInput u = (!(inSpan tank && inSpan waterP) || sticky .waterInput s)
  dry : active .waterDry u = false
  drySticky : sticky .waterDry u = sticky .waterDry s
  low : active .tankLow u
    = (decide (s.start.station = .running) && inSpan tank && decide (tank.toNat ≤ b.water.empty))
  lowSticky : sticky .tankLow u = active .tankLow u

theorem waterRead (b : StartBlock) (tank waterP : Raw) (s : State) :
    WaterRead b tank waterP s (readWaterInputs b (s.withPins { s.pins with tank := tank, waterP := waterP })) := by
  generalize hw : s.withPins { s.pins with tank := tank, waterP := waterP } = w
  have hkeeps := readWaterInputs_keeps b w
  have hfaults : w.faults = s.faults := by rw [← hw]; rfl
  have hactive : ∀ k, k ≠ .tankLow → k ≠ .waterInput → k ≠ .waterDry →
      active k (readWaterInputs b w) = active k s := fun k h1 h2 h3 => by
    simp only [readWaterInputs]
    rw [active_handOver_other h1, active_handOver_other h2, active_handOver_other h3,
      active_congr (State.withWater_faults ..), active_congr hfaults]
  have hsticky : ∀ k, k ≠ .tankLow → k ≠ .waterInput → k ≠ .waterDry →
      sticky k (readWaterInputs b w) = sticky k s := fun k h1 h2 h3 => by
    simp only [readWaterInputs]
    rw [sticky_handOver_other h1, sticky_handOver_other h2, sticky_handOver_other h3,
      sticky_congr (State.withWater_faults ..), sticky_congr hfaults]
  have htank : w.pins.tank = tank := by rw [← hw]; rfl
  have hpressure : w.pins.waterP = waterP := by rw [← hw]; rfl
  have hstart : w.start = s.start := by rw [← hw]; rfl
  have hw' : w.water = s.water := by rw [← hw]; rfl
  refine ⟨?_, ⟨?_, ?_, ?_, hactive _ (by decide) (by decide) (by decide), hactive _ (by decide) (by decide) (by decide),
    hsticky _ (by decide) (by decide) (by decide)⟩, fun m => ?_, ?_, ?_, ?_, ?_, ?_, ?_, ?_⟩
  · simp [readWaterInputs, htank, hpressure, hw']
  · rw [hkeeps.start, hstart]
  · rw [hkeeps.peers, ← hw]
    rfl
  · rw [hkeeps.drive, ← hw]
    rfl
  · rw [hkeeps.arm m (by cases m <;> decide), ← hw, State.withPins_arm]
  · rw [hkeeps.sp, ← hw]
    rfl
  · simp only [readWaterInputs]
    rw [active_handOver_other (by decide), active_handOver_self (by decide) (by decide), waterInputBad]
    simp [htank, hpressure]
  · simp only [readWaterInputs]
    rw [sticky_handOver_other (by decide), sticky_handOver, if_pos rfl, sticky_handOver_other (by decide),
      sticky_congr (State.withWater_faults ..), sticky_congr hfaults, waterInputBad]
    simp [htank, hpressure]
  · simp only [readWaterInputs]
    rw [active_handOver_other (by decide), active_handOver_other (by decide), active_handOver_self (by decide) (by decide)]
  · simp only [readWaterInputs]
    rw [sticky_handOver_other (by decide), sticky_handOver_other (by decide), sticky_handOver, if_pos rfl,
      sticky_congr (State.withWater_faults ..), sticky_congr hfaults]
    simp
  · simp only [readWaterInputs]
    rw [active_handOver_self (by decide) (by decide), tankLow]
    simp [htank, hstart]
  · simp only [readWaterInputs]
    rw [active_handOver_self (by decide) (by decide), sticky_handOver, if_pos rfl]
    simp

/-! ### Steps 4 and 5 -/

/-- The last two steps of a period (R93). -/
def waterEnd (b : StartBlock) (v : State) : State := waterRecompute b (waterOutputs b v)

theorem waterPeriod_eq (b : StartBlock) (s : State) :
    waterPeriod b s = waterEnd b (waterTests b (waterInputMove (readWaterInputs b s))) := rfl

theorem waterEnd_keeps (b : StartBlock) (v : State) : KeepsAllBut [.sp, .water] v (waterEnd b v) :=
  (waterOutputs_keeps b v).trans ((waterRecompute_keeps b _).mono)

theorem sameSenses_of_keeps {s u : State} (keeps : KeepsAllBut [.line, .sp, .water] s u) : SameSenses s u :=
  ⟨keeps.start, keeps.peers, keeps.drive, active_congr keeps.faults _, active_congr keeps.faults _,
    sticky_congr keeps.faults _⟩

theorem SameSenses.trans {s u v : State} (h : SameSenses s u) (h' : SameSenses u v) : SameSenses s v :=
  ⟨h'.start.trans h.start, h'.peers.trans h.peers, h'.drive.trans h.drive, h'.engineSensor.trans h.engineSensor,
    h'.pressureInput.trans h.pressureInput, h'.speedSensor.trans h.speedSensor⟩

theorem SameSenses.waterFactor {s u : State} (h : SameSenses s u) (b : StartBlock) :
    waterFactor b u = Machine.waterFactor b s := by
  rw [Machine.waterFactor, Machine.waterFactor, h.activeBank, h.droop]

theorem waterEnd_water (b : StartBlock) (v : State) : (waterEnd b v).water = (waterOutputs b v).water := rfl

theorem waterEnd_site (b : StartBlock) (v : State) :
    (waterEnd b v).sp.wtr = { (waterOutputs b v).sp.wtr with k := waterFactor b v } := by
  have hk : waterFactor b (waterOutputs b v) = waterFactor b v :=
    (sameSenses_of_keeps ((waterOutputs_keeps b v).mono)).waterFactor b
  rw [waterEnd, waterRecompute, hk]
  rfl

section
variable {b : StartBlock} {v : State}

theorem waterEnd_priming (h : v.water.state = .priming) :
    (waterEnd b v).water = { v.water with pump := (activeBank b v).primeCommand, valves := slotValves b v 0 }
      ∧ (waterEnd b v).sp.wtr = { v.sp.wtr with k := waterFactor b v } := by
  rw [waterEnd_water, waterEnd_site, waterOutputs, h]
  exact ⟨rfl, rfl⟩

theorem waterEnd_spraying (h : v.water.state = .spraying) :
    (waterEnd b v).water = { v.water with
        pump := derateNat (waterSite b v).ramp.out (waterFactor b v), valves := slotValves b v v.water.slot }
      ∧ (waterEnd b v).sp.wtr = { waterSite b v with k := waterFactor b v } := by
  rw [waterEnd_water, waterEnd_site, waterOutputs, h]
  exact ⟨rfl, rfl⟩

theorem waterEnd_resting (h : v.water.state ≠ .priming) (h' : v.water.state ≠ .spraying) :
    (waterEnd b v).water = { v.water with pump := 0, valves := 0 }
      ∧ (waterEnd b v).sp.wtr = { v.sp.wtr with k := waterFactor b v } := by
  rw [waterEnd_water, waterEnd_site, waterOutputs]
  cases hs : v.water.state
  case priming => exact absurd hs h
  case spraying => exact absurd hs h'
  all_goals exact ⟨rfl, rfl⟩

end

/-! ### Steps 2 and 3 -/

theorem waterInputMove_good {s : State} (h : waterInputBad s = false) : waterInputMove s = s := by
  simp [waterInputMove, h]

section
variable {b : StartBlock} {v : State}

theorem waterTests_off (h : v.water.state = .off) : waterTests b v
    = if sprayConditions b v = true ∧ waterTripSticky v = false then enterPriming v else v := by
  rw [waterTests, h]

theorem waterTests_priming (h : v.water.state = .priming) : waterTests b v
    = if sprayConditions b v = true then
        if b.water.primePressure ≤ v.water.waterP.toNat then enterSpraying b v else v
      else waterOff v := by
  rw [waterTests, h]

theorem waterTests_spraying (h : v.water.state = .spraying) : waterTests b v
    = if sprayConditions b v = true then lossTest b v else waterOff v := by
  rw [waterTests, h]

theorem waterTests_dryWait (h : v.water.state = .dryWait) : waterTests b v
    = if sprayConditions b v = true then v else waterOff v := by
  rw [waterTests, h]

theorem waterTests_dryLocked (h : v.water.state = .dryLocked) : waterTests b v = v := by
  rw [waterTests, h]

/-- A lost condition stops an active channel (R96). -/
theorem waterTests_stops (h : v.water.state.active = true) (hlost : sprayConditions b v = false) :
    waterTests b v = waterOff v := by
  cases hs : v.water.state with
  | off => simp [hs, WaterState.active] at h
  | priming => rw [waterTests_priming hs, hlost]; rfl
  | spraying => rw [waterTests_spraying hs, hlost]; rfl
  | dryWait => rw [waterTests_dryWait hs, hlost]; rfl
  | dryLocked => simp [hs, WaterState.active] at h

theorem enterPriming_water (v : State) : (enterPriming v).water
    = { v.water with state := .priming, slot := 0, primeTimer := some 0, dryWaitTimer := none } := by
  rw [enterPriming, enterWater_water]
  rfl

theorem enterSpraying_water (b : StartBlock) (v : State) : (enterSpraying b v).water
    = { v.water with state := .spraying, primeTimer := none, dryCount := 0, slot := 0, patternTimer := some 0 } := by
  simp only [enterSpraying]
  rw [enterWater_water]
  rfl

theorem enterSpraying_site (b : StartBlock) (v : State) : (enterSpraying b v).sp.wtr
    = { v.sp.wtr with ramp := v.sp.wtr.ramp.setOut ((activeBank b v).primeCommand : Int) } := by
  simp only [enterSpraying]
  rw [enterWater_sp]
  rfl

theorem lossTest_water (b : StartBlock) (v : State) : (lossTest b v).water
    = { v.water with lossTimer := if v.water.waterP.toNat < b.water.lossThreshold then
          if v.water.lossTimer.isSome then v.water.lossTimer else some 0
        else none } := by
  unfold lossTest
  split_ifs <;> rfl

end

/-! ### The conditions (R95) -/

theorem sprayConditions_iff (b : StartBlock) (s : State) : sprayConditions b s = true
    ↔ s.start.station = .running ∧ s.start.mode = .sweepWet ∧ s.water.enable = true
      ∧ brushWorking s = true ∧ (viewTravel s).quality ≠ .bad
      ∧ (b.water.sprayMin : Int) ≤ (viewTravel s).value ∧ inSpan s.water.tank = true
      ∧ b.water.empty < s.water.tank.toNat := by
  simp [sprayConditions, travelAllowsSpray, tankHasWater, and_assoc]

theorem SameSenses.brushWorking {s u : State} (h : SameSenses s u) (harm : ∀ m, u.arm m = s.arm m) :
    brushWorking u = Machine.brushWorking s := by
  have hown : ownArms u = ownArms s := by simp only [ownArms, populatedArms, h.populated, harm]
  rw [Machine.brushWorking, Machine.brushWorking, hown, h.liveEntries]

end Sys2Proof.Machine
end

section
/-! SUPPORT. The water obligations (R91 to R103). -/

namespace Sys2Proof.Machine

-- One thread elaborates this section, so that the check's memory limit holds the stacks.
set_option Elab.async false

/-- The state of an inactive channel is OFF or DRY_LOCKED. -/
theorem waterState_inactive {st : WaterState} (h : st.active = false) : st = .off ∨ st = .dryLocked := by
  cases st <;> simp_all [WaterState.active]

theorem stopWater_of_inactive {s : State} (h : s.water.state.active = false) : stopWater s = s := by
  simp [stopWater, h]

theorem stopWater_of_active {s : State} (h : s.water.state.active = true) : stopWater s = waterOff s := by
  simp [stopWater, h]

/-- With a BAD reading no test moves an inactive channel (R95, R103). -/
theorem waterTests_held {b : StartBlock} {v : State} (h : v.water.state.active = false)
    (hsticky : sticky .waterInput v = true) : waterTests b v = v := by
  rcases waterState_inactive h with hs | hs
  · rw [waterTests_off hs, if_neg (by simp [waterTripSticky, hsticky])]
  · exact waterTests_dryLocked hs

theorem waterTests_readings (b : StartBlock) (v : State) :
    (waterTests b v).water.tank = v.water.tank ∧ (waterTests b v).water.waterP = v.water.waterP := by
  rcases waterTests_cases b v with h | ⟨-, -, h⟩ | ⟨-, -, h⟩ | ⟨-, -, h⟩ | ⟨-, h⟩ <;> rw [h]
  · exact ⟨rfl, rfl⟩
  · rw [enterPriming_water]
    exact ⟨rfl, rfl⟩
  · rw [enterSpraying_water]
    exact ⟨rfl, rfl⟩
  · rw [lossTest_water]
    exact ⟨rfl, rfl⟩
  · rw [waterOff_water]
    exact ⟨rfl, rfl⟩

theorem waterInputMove_readings (v : State) :
    (waterInputMove v).water.tank = v.water.tank ∧ (waterInputMove v).water.waterP = v.water.waterP := by
  unfold waterInputMove stopWater
  split_ifs
  · rw [waterOff_water]
    exact ⟨rfl, rfl⟩
  · exact ⟨rfl, rfl⟩
  · exact ⟨rfl, rfl⟩

theorem waterEnd_readings (b : StartBlock) (v : State) :
    (waterEnd b v).water.tank = v.water.tank ∧ (waterEnd b v).water.waterP = v.water.waterP := by
  rw [waterEnd_water, waterOutputs]
  split <;> exact ⟨rfl, rfl⟩

/-- A BAD reading closes pump and valves, and stops an active channel (R103). -/
theorem waterEnd_bad {b : StartBlock} {tank waterP : Raw} {s u : State} (hread : WaterRead b tank waterP s u)
    (hbad : (inSpan tank && inSpan waterP) = false) :
    (waterEnd b (waterTests b (waterInputMove u))).water = { (stopWater u).water with pump := 0, valves := 0 }
      ∧ (waterEnd b (waterTests b (waterInputMove u))).sp.wtr.ramp = (stopWater u).sp.wtr.ramp := by
  have hinput : waterInputBad u = true := by simp [waterInputBad, hread.water, hbad]
  have hsticky : sticky .waterInput (stopWater u) = true := by
    rw [sticky_congr (stopWater_keeps u).faults, hread.inputSticky, hbad]
    rfl
  have hstop := stopWater_inactive u
  rw [waterInputMove, if_pos hinput, waterTests_held hstop hsticky]
  rcases waterState_inactive hstop with hs | hs
  · obtain ⟨hwater, hsite⟩ := waterEnd_resting (b := b) (v := stopWater u) (by simp [hs]) (by simp [hs])
    rw [hwater, hsite]
    exact ⟨rfl, rfl⟩
  · obtain ⟨hwater, hsite⟩ := waterEnd_resting (b := b) (v := stopWater u) (by simp [hs]) (by simp [hs])
    rw [hwater, hsite]
    exact ⟨rfl, rfl⟩

/-- Settles O27. -/
theorem waterPeriodReadsItsInputs : Obligations.WaterPeriodReadsItsInputs := by
  unfold Obligations.WaterPeriodReadsItsInputs
  refine ⟨fun tank waterP s h => exec_waterPeriod_rests h, ?_⟩
  intro tank waterP s b himage hpop hrun good
  refine ⟨_, exec_waterPeriod himage hpop hrun, ?_⟩
  have hkeeps : KeepsAllBut [.pins, .line, .sp, .water, .faults] s
      (waterPeriod b (s.withPins { s.pins with tank := tank, waterP := waterP })) :=
    ((State.withPins_keeps s _).mono).trans ((waterPeriod_keeps b _).mono)
  have hbrush := fun n => waterPeriod_brush b n (s.withPins { s.pins with tank := tank, waterP := waterP })
  have hdrv := waterPeriod_drv b (s.withPins { s.pins with tank := tank, waterP := waterP })
  have hread := waterRead b tank waterP s
  rw [waterPeriod_eq] at hkeeps hbrush hdrv ⊢
  generalize readWaterInputs b (s.withPins { s.pins with tank := tank, waterP := waterP }) = u at hkeeps hbrush hdrv hread ⊢
  have hall : KeepsAllBut [.line, .sp, .water] u (waterEnd b (waterTests b (waterInputMove u))) :=
    (((waterInputMove_keeps u).mono).trans ((waterTests_keeps b _).mono)).trans ((waterEnd_keeps b _).mono)
  have hsenses : SameSenses s (waterTests b (waterInputMove u)) :=
    hread.senses.trans (sameSenses_of_keeps (((waterInputMove_keeps u).mono).trans ((waterTests_keeps b _).mono)))
  have hgood : (inSpan tank && inSpan waterP) = true ↔ good := Bool.and_eq_true _ _ ▸ Iff.rfl
  obtain ⟨htank1, hpressure1⟩ := waterInputMove_readings u
  obtain ⟨htank2, hpressure2⟩ := waterTests_readings b (waterInputMove u)
  obtain ⟨htank3, hpressure3⟩ := waterEnd_readings b (waterTests b (waterInputMove u))
  have hwater := hread.water
  refine ⟨hkeeps, hdrv, hbrush .one, hbrush .two,
    htank3.trans (htank2.trans (htank1.trans (by rw [hwater]))),
    hpressure3.trans (hpressure2.trans (hpressure1.trans (by rw [hwater]))), ?_, ?_, fun hbad => ?_, ?_, ?_, ?_⟩
  · rw [waterEnd_site, hsenses.waterFactor]
  · rw [active_congr hall.faults, hread.input, ← hgood]
    cases inSpan tank && inSpan waterP <;> simp
  · rw [← hgood, Bool.not_eq_true] at hbad
    obtain ⟨hend, hramp⟩ := waterEnd_bad hread hbad
    have hstate : u.water.state = s.water.state := by rw [hwater]
    rw [sticky_congr hall.faults, hread.inputSticky, hbad, hend, hramp]
    by_cases hactive : s.water.state.active = true
    · rw [stopWater_of_active (by rwa [hstate]), waterOff_water, waterOff_site, hwater]
      refine ⟨rfl, rfl, rfl, rfl, rfl, fun _ => ⟨rfl, rfl, rfl, rfl, rfl, rfl, rfl⟩, fun h => ?_, fun h => ?_⟩
      · rfl
      · rw [h] at hactive
        cases hactive
    · rw [stopWater_of_inactive (by rw [hstate]; simpa using hactive), hwater]
      exact ⟨rfl, rfl, rfl, rfl, rfl, fun h => absurd h hactive, fun h => h, fun h => h⟩
  · rw [active_congr hall.faults, hread.dry]
  · rw [active_congr hall.faults, hread.low]
    simp [and_assoc]
  · rw [active_congr hall.faults, sticky_congr hall.faults, hread.lowSticky]

/-! ### The moves with good readings -/

/-- The water pins of a populated channel (R93). -/
theorem outputs_water {s : State} (hrun : periodsRun s = true) (hpop : populated .wtr s = true) :
    (outputs s).waterPump = s.water.pump ∧ (outputs s).spray = s.water.valves := by
  simp [outputs, outputsDriven_of_periodsRun hrun, hpop]

/-- The chain of SPRAYING on a given ramp (R98). -/
def waterChain (b : StartBlock) (read : State) (ramp : Ramp) : BlendSite :=
  let bank := activeBank b read
  let look := curveLookup bank.water (viewTravel read).value.natAbs
  let mixed := blend bank.wtrRule (testQuantity b read (waterArmPosition read) bank.wtrRule.quantity) look.1 bank.waterTrim
  ⟨ramp.step 4095 bank.wtrTimes (mixed.1 : Int), look.2.pair, mixed.2, waterFactor b read⟩

theorem waterSite_eq {b : StartBlock} {read v : State} (hsenses : SameSenses read v) (harm : ∀ m, v.arm m = read.arm m)
    (htank : v.water.tank = read.water.tank) :
    { waterSite b v with k := waterFactor b v } = waterChain b read v.sp.wtr.ramp := by
  have hposition : waterArmPosition v = waterArmPosition read := by
    have harm1 : v.arm1 = read.arm1 := harm .one
    rw [waterArmPosition, waterArmPosition, hsenses.populated, harm1]
  rw [waterSite, hsenses.waterFactor, hsenses.activeBank, hsenses.viewTravel, hposition,
    hsenses.testQuantity (fun m => by rw [harm]) htank]
  rfl

/-- Settles O28. -/
theorem waterPeriodMoves : Obligations.WaterPeriodMoves := by
  unfold Obligations.WaterPeriodMoves
  intro tank waterP s b himage hpop hrun htank hpressure conditions bank read look q mixed site
  refine ⟨_, exec_waterPeriod himage hpop hrun, ?_⟩
  have hread := waterRead b tank waterP s
  have hpins : (outputs (waterPeriod b (s.withPins { s.pins with tank := tank, waterP := waterP }))).waterPump = _ ∧ _ :=
    outputs_water (by rw [periodsRun, (waterPeriod_keeps b _).start]; exact hrun)
      (by rw [populated, (waterPeriod_keeps b _).start]; exact hpop)
  obtain ⟨hpump, hspray⟩ := hpins
  refine ⟨hpump, hspray, ?_⟩
  clear hpump hspray
  rw [waterPeriod_eq]
  generalize readWaterInputs b (s.withPins { s.pins with tank := tank, waterP := waterP }) = u at hread ⊢
  have hwater := hread.water
  have hgood : waterInputBad u = false := by simp [waterInputBad, hwater, htank, hpressure]
  rw [waterInputMove_good hgood]
  have hconditions : sprayConditions b u = true ↔ conditions := by
    rw [sprayConditions_iff, hread.senses.start, hread.senses.viewTravel, hread.senses.brushWorking hread.arm, hwater]
    simp [conditions, htank]
  have hlost : ¬ conditions → sprayConditions b u = false := fun h => by rwa [← hconditions, Bool.not_eq_true] at h
  have hbank : activeBank b u = bank := hread.senses.activeBank b
  have hstate : u.water.state = s.water.state := by rw [hwater]
  have hramp : u.sp.wtr = s.sp.wtr := by rw [hread.sp]
  have hchain : ∀ ramp, waterChain b read ramp = site ramp := fun ramp => rfl
  have hsite : ∀ v, KeepsAllBut [.line, .sp, .water] u v → v.water.tank = tank →
      { waterSite b v with k := waterFactor b v } = site v.sp.wtr.ramp := fun v hkeeps hv => by
    have hsenses : SameSenses s v := hread.senses.trans (sameSenses_of_keeps hkeeps)
    have hsenses' : SameSenses read v :=
      ⟨hsenses.start, hsenses.peers, hsenses.drive, hsenses.engineSensor, hsenses.pressureInput, hsenses.speedSensor⟩
    have harm : ∀ m, v.arm m = read.arm m := fun m =>
      (hkeeps.arm m (by cases m <;> decide)).trans ((hread.arm m).trans (State.withWater_arm s _ m).symm)
    rw [← hchain, waterSite_eq hsenses' harm hv]
  have hvalves : ∀ v slot, v.start = u.start → slotValves b v slot = bank.pattern.getD slot.toNat 0 := fun v slot hv => by
    rw [slotValves, activeBank, hv, ← hbank]
    rfl
  have hloss : ∀ hs : u.water.state = .spraying, conditions → waterTests b u = lossTest b u := fun hs hc => by
    rw [waterTests_spraying hs, if_pos (hconditions.mpr hc)]
  have hlossState : u.water.state = .spraying → (lossTest b u).water.state = .spraying := fun hs => by
    rw [lossTest_water]
    exact hs
  have hprime : u.water.state = .priming → conditions → b.water.primePressure ≤ waterP.toNat →
      waterTests b u = enterSpraying b u := fun hs hc hp => by
    rw [waterTests_priming hs, if_pos (hconditions.mpr hc), if_pos (by rw [hwater]; exact hp)]
  have hsprayState : (enterSpraying b u).water.state = .spraying := by rw [enterSpraying_water]
  rw [← hstate]
  refine ⟨fun hs hc => ?_, fun hs hc hp => ?_, fun hs hc hdry hinput => ?_, fun hs hno => ?_, fun hs hc hp => ?_,
    fun hs hc hp => ?_, fun hs hc => ?_, fun hactive hno => ?_, fun hs hc => ?_, fun hs => ?_⟩
  · rw [hloss hs hc, (waterEnd_spraying (hlossState hs)).2, hsite _ ((lossTest_keeps b u).mono) (by rw [lossTest_water, hwater]),
      (lossTest_keeps b u).sp, hramp]
  · rw [hprime hs hc hp, (waterEnd_spraying hsprayState).2,
      hsite _ ((enterSpraying_keeps b u).mono) (by rw [enterSpraying_water, hwater]), enterSpraying_site, hbank, hramp]
  · have htrip : waterTripSticky u = false := by
      rw [waterTripSticky, hread.drySticky, hread.inputSticky, hdry, hinput, htank, hpressure]
      rfl
    have hgo : waterTests b u = enterPriming u := by
      rw [waterTests_off hs, if_pos ⟨hconditions.mpr hc, htrip⟩]
    have hkeeps := enterPriming_keeps u
    have hprimeBank : activeBank b (enterPriming u) = bank := by
      rw [activeBank, hkeeps.start]
      exact hbank
    rw [hgo, (waterEnd_priming (by rw [enterPriming_water])).1, hvalves _ _ hkeeps.start, enterPriming_water, hprimeBank,
      hwater]
    exact ⟨rfl, rfl, rfl, rfl, rfl, rfl⟩
  · have hstay : waterTests b u = u := by
      rw [waterTests_off hs, if_neg]
      rw [hconditions, waterTripSticky, hread.drySticky, hread.inputSticky]
      rintro ⟨hc, htrip⟩
      rw [Bool.or_eq_false_iff, Bool.or_eq_false_iff] at htrip
      obtain ⟨hdry, -, hinput⟩ := htrip
      rcases hno with h | h | h
      · exact h hc
      · exact absurd hdry (by simp [h])
      · exact absurd hinput (by simp [h])
    rw [hstay, (waterEnd_resting (by simp [hs]) (by simp [hs])).1]
    exact ⟨hs, rfl, rfl⟩
  · rw [hprime hs hc hp, (waterEnd_spraying hsprayState).1, hvalves _ _ (enterSpraying_keeps b u).start, enterSpraying_water]
    exact ⟨rfl, rfl, rfl, rfl, rfl, rfl⟩
  · have hstay : waterTests b u = u := by
      rw [waterTests_priming hs, if_pos (hconditions.mpr hc), if_neg (by rw [hwater]; exact Nat.not_le.mpr hp)]
    rw [hstay, (waterEnd_priming hs).1, hbank]
    exact ⟨hs, rfl, by rw [hwater]⟩
  · rw [hloss hs hc]
    obtain ⟨hend, hend'⟩ := waterEnd_spraying (b := b) (hlossState hs)
    have hlossWater := lossTest_water b u
    rw [hwater] at hlossWater
    rw [hend', hend, hvalves _ _ (lossTest_keeps b u).start, hlossWater]
    refine ⟨by rw [hwater] at hs; exact hs, rfl, fun hp => if_neg (Nat.not_lt.mpr hp), fun hp htimer => ?_, ?_⟩
    · dsimp only
      rw [if_pos hp, htimer]
      rfl
    · exact Int.toNat_eq_max _ |>.trans (max_comm _ _)
  · rw [waterTests_stops hactive (hlost hno)]
    have hoff : (waterOff u).water.state = .off := by rw [waterOff_water]
    obtain ⟨hend, hend'⟩ := waterEnd_resting (b := b) (v := waterOff u) (by simp [hoff]) (by simp [hoff])
    rw [hend, hend', waterOff_water, hwater]
    refine ⟨rfl, rfl, rfl, rfl, rfl, rfl, rfl, ?_, rfl⟩
    show (waterOff u).sp.wtr.ramp.out = 0
    rw [waterOff_site]
    rfl
  · have hstay : waterTests b u = u := by rw [waterTests_dryWait hs, if_pos (hconditions.mpr hc)]
    rw [hstay, (waterEnd_resting (by simp [hs]) (by simp [hs])).1]
    exact ⟨hs, rfl⟩
  · rw [waterTests_dryLocked hs, (waterEnd_resting (by simp [hs]) (by simp [hs])).1]
    exact ⟨hs, rfl⟩

/-! ### The water timers -/

theorem failedPrime_faults_first {s : State} (h : s.water.dryCount = 0) : (failedPrime s).faults = s.faults := by
  have hquiet : (quietWater s).water.dryCount = 0 := h
  simp only [failedPrime, State.withWater_water, hquiet]
  rw [if_pos (by decide), enterWater_faults]
  simp

theorem failedPrime_second {s : State} (h : s.water.dryCount = 1) :
    active .waterDry (failedPrime s) = true ∧ sticky .waterDry (failedPrime s) = true
      ∧ (sticky .waterDry s = false → (failedPrime s).line.alertSlot = some .waterDry) := by
  have hquiet : (quietWater s).water.dryCount = 1 := h
  simp only [failedPrime, State.withWater_water, hquiet]
  rw [if_neg (by decide)]
  refine ⟨active_handOver_present _ _, sticky_handOver_present _ _, fun hfirst => handOver_alertSlot rfl ?_⟩
  rw [sticky_congr (enterWater_faults ..), sticky_congr (State.withWater_faults ..), sticky_congr (quietWater_faults s)]
  exact hfirst

/-- Settles O29. -/
theorem waterTimersExpire : Obligations.WaterTimersExpire := by
  unfold Obligations.WaterTimersExpire
  refine ⟨fun s b ms c himage hc => ⟨failedPrime s, ?_, failedPrime_keeps s, ?_⟩, fun s b ms himage => ?_⟩
  · rcases hc with ⟨rfl, hs, htimer, hlimit⟩ | ⟨rfl, hs, htimer, hlimit⟩
    · have hdue : primeDue s = true := dueBy_of_image himage htimer _ hlimit
      simp only [exec, execPrimeTimerExpiry, hdue, hs, and_self, if_true]
    · have hdue : lossDue s = true := dueBy_of_image himage htimer _ hlimit
      simp only [exec, execLossTimerExpiry, hdue, hs, and_self, if_true]
  · rw [failedPrime_water]
    refine ⟨rfl, rfl, rfl, failedPrime_out s, rfl, rfl, rfl, fun hcount => ?_, fun hcount => ?_⟩
    · rw [hcount]
      exact ⟨rfl, rfl, rfl, failedPrime_faults_first hcount⟩
    · rw [hcount]
      exact ⟨rfl, rfl, rfl, failedPrime_second hcount⟩
  · intro conditions
    refine ⟨fun hs htimer hlimit => ⟨dryWaitEnded b s, ?_, dryWaitEnded_keeps b s, ?_⟩, fun hs htimer hlimit => ?_⟩
    · have hdue : dryWaitDue s = true := dueBy_of_image himage htimer _ hlimit
      simp only [exec, execDryWaitExpiry, himage, hdue, hs, and_self, if_true]
    · have hconditions : sprayConditions b s = true ↔ conditions := sprayConditions_iff b s
      by_cases hc : conditions
      · have hstart := (enterPriming_keeps s).start
        have hwater : (dryWaitEnded b s).water = { s.water with
            state := .priming, slot := 0, primeTimer := some 0, dryWaitTimer := none
            pump := (activeBank b s).primeCommand, valves := (activeBank b s).pattern.getD 0 0 } := by
          rw [dryWaitEnded, if_pos (hconditions.mpr hc), primeOutputs, slotValves, activeBank, hstart, enterPriming_water]
          rfl
        rw [hwater]
        exact ⟨rfl, rfl, fun _ => ⟨rfl, rfl, rfl, rfl, rfl⟩, fun h => absurd hc h⟩
      · have hwater : dryWaitEnded b s = waterOff s := by
          rw [dryWaitEnded, if_neg (fun h => hc (hconditions.mp h))]
        rw [hwater, waterOff_water]
        exact ⟨rfl, rfl, fun h => absurd h hc, fun _ => ⟨rfl, rfl, rfl⟩⟩
    · have hdue : patternDue s = true := by
        rw [patternDue, htimer]
        simpa [Timer.reached] using hlimit
      simp only [exec, execPatternTimerExpiry, himage, hdue, hs, and_self, if_true, advancePattern, htimer]
      rfl

end Sys2Proof.Machine
end

section
/-! SUPPORT. The peer table's events (R24 to R29). -/

namespace Sys2Proof.Machine

-- One thread elaborates this section, so that the check's memory limit holds the stacks.
set_option Elab.async false

theorem entryIndex_eq_some {src : Nibble} {n : Fin 15} : entryIndex src = some n ↔ n.val = src.toNat := by
  unfold entryIndex
  split
  · rw [Option.some.injEq, Fin.ext_iff]
    exact eq_comm
  · next h =>
    refine ⟨fun h => (by cases h), fun hn => absurd (hn ▸ n.isLt) h⟩

theorem entryIndex_none {src : Nibble} (h : src = 15) : entryIndex src = none := by
  subst h
  rfl

theorem parseReport_none {p : List Byte} (h : p.length ≠ 15) : parseReport p = none := by
  unfold parseReport
  split
  · simp at h
  · rfl

theorem popRx_eq {s : State} {f : Frame} {rest : List Frame} (hrx : s.line.rx = f :: rest) :
    popRx s = s.withLine { s.line with rx := rest } := by
  rw [popRx, hrx]
  rfl

theorem frontOf_eq {s : State} {f : Frame} {rest : List Frame} (hrx : s.line.rx = f :: rest) {c : FrameClass}
    (hcls : f.cls = c) : frontOf c s = some f := by
  simp [frontOf, hrx, hcls]

theorem peers_set_self (p : Vector (Option PeerEntry) 15) (n : Fin 15) (e : Option PeerEntry) : (p.set n e)[n] = e := by
  simp

theorem peers_set_other (p : Vector (Option PeerEntry) 15) {n m : Fin 15} (h : m ≠ n) (e : Option PeerEntry) :
    (p.set n e)[m] = p[m] := by
  have hval : n.val ≠ m.val := fun hv => h (Fin.ext hv.symm)
  simp [Vector.getElem_set_ne, hval]

/-! ### Reports (R24, R25, R26) -/

theorem acceptReport_peers (n : Fin 15) (seq : Byte) (v : ReportValues) (last : Option FaultKind) (s : State) :
    (acceptReport n seq v last s).peers = s.peers.set n (some (accepted seq v last)) := by
  simp [acceptReport]

theorem acceptReport_line (n : Fin 15) (seq : Byte) (v : ReportValues) (last : Option FaultKind) (s : State) :
    (acceptReport n seq v last s).line = s.line := by
  simp [acceptReport, State.withPeer]

theorem acceptReport_tested {s u : State} (hstart : u.start = s.start) (hfaults : u.faults = s.faults) (n : Fin 15)
    (seq : Byte) (v : ReportValues) (last : Option FaultKind) : InheritedTested s (acceptReport n seq v last u) :=
  inheritedTested_testInherited hstart hfaults

theorem acceptReport_other {n m : Fin 15} (h : m ≠ n) (seq : Byte) (v : ReportValues) (last : Option FaultKind)
    (s : State) : (acceptReport n seq v last s).peers[m] = s.peers[m] := by
  simp only [acceptReport_peers]
  exact peers_set_other _ h _

theorem takeReport_other {n m : Fin 15} (h : m ≠ n) (seq : Byte) (v : ReportValues) (s : State) :
    (takeReport n seq v s).peers[m] = s.peers[m] := by
  unfold takeReport
  split
  · exact acceptReport_other h _ _ _ _
  · split_ifs
    · exact acceptReport_other h _ _ _ _
    · rfl
    · exact acceptReport_other h _ _ _ _
    · exact acceptReport_other h _ _ _ _

theorem takeReport_rx (n : Fin 15) (seq : Byte) (v : ReportValues) (s : State) :
    (takeReport n seq v s).line.rx = s.line.rx := by
  unfold takeReport
  split
  · rw [acceptReport_line]
  · split_ifs
    · rw [acceptReport_line]
    · rfl
    · rw [acceptReport_line]
    · rw [acceptReport_line]
      rfl

/-- A report taken (R24, R25): accepted from ABSENT and LOST, and by its step in the sequence from FRESH and STALE. -/
theorem takeReport_absent {n : Fin 15} {s : State} (h : s.peers[n] = none) (seq : Byte) (v : ReportValues) :
    takeReport n seq v s = acceptReport n seq v none s := by
  simp only [takeReport, h]

section
variable {n : Fin 15} {s : State} {e : PeerEntry} {seq : Byte}

theorem takeReport_lost (h : s.peers[n] = some e) (hlost : e.status = .lost) (v : ReportValues) :
    takeReport n seq v s = acceptReport n seq v e.lastAlert s := by
  simp only [takeReport, h, hlost, if_true]

theorem takeReport_duplicate (h : s.peers[n] = some e) (hlost : e.status ≠ .lost) (hseq : seq = e.lastSeq)
    (v : ReportValues) : takeReport n seq v s = countDuplicate s := by
  simp only [takeReport, h, hlost, hseq, BitVec.sub_self, if_false]
  rfl

theorem takeReport_next (h : s.peers[n] = some e) (hlost : e.status ≠ .lost) (hseq : seq = e.lastSeq + 1)
    (v : ReportValues) : takeReport n seq v s = acceptReport n seq v e.lastAlert s := by
  have hstep : seq - e.lastSeq = 1 := by rw [hseq]; bv_omega
  simp only [takeReport, h, hlost, hstep, if_true, if_false]
  rfl

theorem takeReport_gap (h : s.peers[n] = some e) (hlost : e.status ≠ .lost) (hseq : seq ≠ e.lastSeq)
    (hnext : seq ≠ e.lastSeq + 1) (v : ReportValues) :
    takeReport n seq v s = acceptReport n seq v e.lastAlert (countGap s) := by
  have hzero : seq - e.lastSeq ≠ 0 := fun h0 => hseq (by bv_omega)
  have hone : seq - e.lastSeq ≠ 1 := fun h1 => hnext (by bv_omega)
  simp only [takeReport, h, hlost, hzero, hone, if_false]

end

/-- Settles O31. -/
theorem reportArrivalClasses : Obligations.ReportArrivalClasses := by
  unfold Obligations.ReportArrivalClasses
  intro s f rest hrx hcls
  have hfront := frontOf_eq hrx hcls
  have hpop := popRx_eq hrx
  by_cases hreaches : ∃ n seq v, entryIndex f.src = some n ∧ parseReport f.payload = some (seq, v)
  · obtain ⟨n, seq, v, hindex, hparse⟩ := hreaches
    have hn := entryIndex_eq_some.mp hindex
    refine ⟨takeReport n seq v (popRx s), by simp only [exec, execReportArrival, hfront, hindex, hparse], ?_, ?_,
      fun m hm => ?_, fun hnone => ?_, ?_⟩
    · exact ((popRx_keeps s).mono).trans (takeReport_keeps n seq v _)
    · rw [takeReport_rx, hpop]
      rfl
    · rw [takeReport_other (fun h => hm (by rw [h]; exact hn))]
      simp only [popRx_peers]
    · rcases hnone with h | h
      · rw [entryIndex_none h] at hindex
        cases hindex
      · rw [parseReport_none h] at hparse
        cases hparse
    · intro n' seq' v' hn' hparse' removed loaded counts
      have hnn : n' = n := Fin.ext (hn'.trans hn.symm)
      subst hnn
      rw [hparse, Option.some.injEq, Prod.mk.injEq] at hparse'
      obtain ⟨rfl, rfl⟩ := hparse'
      have hpeers : (popRx s).peers = s.peers := popRx_peers s
      have hcounters : (popRx s).line.counters = s.line.counters := by rw [hpop]; rfl
      have hloaded : ∀ (u : State) last, u.start = s.start → u.faults = s.faults →
          takeReport n' seq v (popRx s) = acceptReport n' seq v last u → loaded last := fun u last hstart hfaults h => by
        refine ⟨?_, ?_⟩
        · rw [h, acceptReport_peers, peers_set_self]
          rfl
        · rw [h]
          exact acceptReport_tested hstart hfaults n' seq v last
      have hcounts : ∀ (u : State) last, takeReport n' seq v (popRx s) = acceptReport n' seq v last u →
          counts = u.line.counters := fun u last h => by
        show (takeReport n' seq v (popRx s)).line.counters = _
        rw [h, acceptReport_line]
      have hstart : (popRx s).start = s.start := popRx_start s
      have hfaults : (popRx s).faults = s.faults := popRx_faults s
      refine ⟨fun hnone => ?_, fun e he => ⟨fun hlost => ?_, fun hlost hseq => ?_, fun hlost hseq => ?_,
        fun hlost hseq hnext => ?_⟩⟩
      · have htake := takeReport_absent (s := popRx s) (by rw [hpeers]; exact hnone) seq v
        exact ⟨hloaded _ _ hstart hfaults htake, (hcounts _ _ htake).trans hcounters⟩
      · have htake := takeReport_lost (s := popRx s) (seq := seq) (by rw [hpeers]; exact he) hlost v
        exact ⟨hloaded _ _ hstart hfaults htake, (hcounts _ _ htake).trans hcounters⟩
      · have htake := takeReport_duplicate (s := popRx s) (by rw [hpeers]; exact he) hlost hseq v
        simp only [counts, htake]
        refine ⟨?_, hfaults, ?_⟩
        · show (popRx s).peers[n'] = some e
          rw [hpeers, he]
        · rw [countDuplicate, State.withLine_line, hcounters]
          rfl
      · have htake := takeReport_next (s := popRx s) (by rw [hpeers]; exact he) hlost hseq v
        exact ⟨hloaded _ _ hstart hfaults htake, (hcounts _ _ htake).trans hcounters⟩
      · have htake := takeReport_gap (s := popRx s) (by rw [hpeers]; exact he) hlost hseq hnext v
        refine ⟨hloaded (countGap (popRx s)) _ ((countGap_start _).trans hstart) ((countGap_faults _).trans hfaults) htake,
          (hcounts _ _ htake).trans ?_⟩
        rw [countGap, State.withLine_line, hcounters]
        rfl
  · refine ⟨popRx s, ?_, ?_, ?_, fun m hm => ?_, fun _ => hpop, fun n seq v hn hparse => ?_⟩
    · simp only [exec, execReportArrival, hfront]
      split
      · next n seq v hindex hparse => exact absurd ⟨n, seq, v, hindex, hparse⟩ hreaches
      · rfl
    · exact (popRx_keeps s).mono
    · rw [hpop]
      rfl
    · simp only [popRx_peers]
    · exact absurd ⟨n, seq, v, entryIndex_eq_some.mpr hn, hparse⟩ hreaches

end Sys2Proof.Machine
end

section
/-! SUPPORT. Alerts and ageing of an entry (R27, R28, R29). -/

namespace Sys2Proof.Machine

-- One thread elaborates this section, so that the check's memory limit holds the stacks.
set_option Elab.async false

theorem num_ofNum (k : Nibble) : (FaultKind.ofNum k).num = k.toNat := by
  revert k
  decide

theorem ofNum_num (k : FaultKind) : FaultKind.ofNum (BitVec.ofNat 4 k.num) = k := by cases k <;> rfl

theorem num_injective {j k : FaultKind} (h : j.num = k.num) : j = k := by
  rw [← ofNum_num j, h, ofNum_num]

theorem testInherited_keepsLine (s : State) : KeepsAllBut [.faults] s (testInherited s) := by
  intro p hp
  cases p with
  | line => exact testInherited_line s
  | faults => simp at hp
  | _ => exact testInherited_keeps s _ (by simp)

theorem takeAlert_absent {n : Fin 15} {s : State} (h : s.peers[n] = none) (k : FaultKind) : takeAlert n k s = s := by
  simp only [takeAlert, h]

theorem takeAlert_held {n : Fin 15} {s : State} {e : PeerEntry} (h : s.peers[n] = some e) (k : FaultKind) :
    takeAlert n k s = testInherited (s.withPeer n (some (alerted k e))) := by
  simp only [takeAlert, h]

theorem takeAlert_line (n : Fin 15) (k : FaultKind) (s : State) : (takeAlert n k s).line = s.line := by
  unfold takeAlert
  split
  · rfl
  · rw [testInherited_line]
    rfl

theorem takeAlert_other {n m : Fin 15} (h : m ≠ n) (k : FaultKind) (s : State) :
    (takeAlert n k s).peers[m] = s.peers[m] := by
  unfold takeAlert
  split
  · rfl
  · simp only [testInherited_peers, State.withPeer_peers]
    exact peers_set_other _ h _

/-- The entry that an alert leaves (R27). -/
theorem alerted_fields (kind : Nibble) (e : PeerEntry) :
    (alerted (FaultKind.ofNum kind) e).status = e.status ∧ (alerted (FaultKind.ofNum kind) e).age = e.age
      ∧ (alerted (FaultKind.ofNum kind) e).lastSeq = e.lastSeq
      ∧ (alerted (FaultKind.ofNum kind) e).lastAlert = some (FaultKind.ofNum kind)
      ∧ (∀ k : FaultKind, (alerted (FaultKind.ofNum kind) e).vals.summary.getLsbD k.num
          = (e.vals.summary.getLsbD k.num || decide (k.num = kind.toNat)))
      ∧ { (alerted (FaultKind.ofNum kind) e).vals with summary := e.vals.summary } = e.vals := by
  refine ⟨rfl, rfl, rfl, rfl, fun k => ?_, rfl⟩
  have hput := hasKind_putKind e.vals.summary (FaultKind.ofNum kind) k true
  have hkind : k.num = kind.toNat ↔ k = FaultKind.ofNum kind := by
    rw [← num_ofNum]
    exact ⟨num_injective, fun h => by rw [h]⟩
  show hasKind (putKind e.vals.summary (FaultKind.ofNum kind) true) k = (hasKind e.vals.summary k || _)
  rw [hput]
  by_cases hk : k = FaultKind.ofNum kind
  · simp [hk, num_ofNum]
  · rw [if_neg hk, decide_eq_false (fun h => hk (hkind.mp h)), Bool.or_false]

theorem markEntry_eq {n : Fin 15} {s : State} {e : PeerEntry} (h : s.peers[n] = some e) (st : EntryState) :
    markEntry n st s = testInherited (s.withPeer n (some { e with status := st })) := by
  simp only [markEntry, h]

/-- Ageing marks the entry, and tests the inherited causes on the table it leaves (R28, R29, R33). -/
theorem markEntry_spec {n : Fin 15} {s : State} {e : PeerEntry} (h : s.peers[n] = some e) (st : EntryState) :
    KeepsAllBut [.peers, .faults] s (markEntry n st s)
      ∧ (markEntry n st s).peers = s.peers.set n (some { e with status := st }) ∧ InheritedTested s (markEntry n st s) := by
  rw [markEntry_eq h]
  refine ⟨((State.withPeer_keeps s n _).mono).trans ((testInherited_keepsLine _).mono), ?_,
    inheritedTested_testInherited rfl rfl⟩
  rw [testInherited_peers, State.withPeer_peers]

/-- Settles O32. -/
theorem alertsAndAgeingOfAnEntry : Obligations.AlertsAndAgeingOfAnEntry := by
  unfold Obligations.AlertsAndAgeingOfAnEntry
  refine ⟨fun s f rest hrx hcls => ?_, fun s n e he => ⟨fun hfresh hage => ?_, fun hlost hage => ?_⟩⟩
  · have hfront := frontOf_eq hrx hcls
    have hpop := popRx_eq hrx
    cases hindex : entryIndex f.src with
    | none =>
      have hno : ∀ m : Fin 15, m.val ≠ f.src.toNat := fun m hm => by
        rw [entryIndex_eq_some.mpr hm] at hindex
        cases hindex
      refine ⟨popRx s, by simp only [exec, execAlertArrival, hfront, hindex], (popRx_keeps s).mono, by rw [hpop]; rfl,
        fun m => ⟨fun _ => by simp only [popRx_peers], fun hnone => ⟨?_, fun hm => absurd hm (hno m)⟩,
          fun e hm => absurd hm (hno m)⟩⟩
      simp only [popRx_peers]
      exact hnone
    | some n =>
      have hn := entryIndex_eq_some.mp hindex
      have hmn : ∀ m : Fin 15, m.val = f.src.toNat → m = n := fun m hm => Fin.ext (hm.trans hn.symm)
      have hpeers : ∀ m : Fin 15, (popRx s).peers[m] = s.peers[m] := fun m => by simp only [popRx_peers]
      refine ⟨takeAlert n (FaultKind.ofNum f.kind) (popRx s), by simp only [exec, execAlertArrival, hfront, hindex],
        ((popRx_keeps s).mono).trans (takeAlert_keeps _ _ _), by rw [takeAlert_line, hpop]; rfl,
        fun m => ⟨fun hm => ?_, fun hnone => ?_, fun e hm he => ?_⟩⟩
      · rw [takeAlert_other (fun h => hm (by rw [h]; exact hn)), hpeers]
      · by_cases hm : m = n
        · subst hm
          rw [takeAlert_absent ((hpeers m).trans hnone)]
          exact ⟨(hpeers m).trans hnone, fun _ => popRx_faults s⟩
        · refine ⟨(takeAlert_other hm _ _).trans ((hpeers m).trans hnone), fun hv => absurd (hmn m hv) hm⟩
      · obtain rfl := hmn m hm
        rw [takeAlert_held ((hpeers m).trans he)]
        refine ⟨inheritedTested_testInherited ?_ ?_, alerted (FaultKind.ofNum f.kind) e, ?_, alerted_fields f.kind e⟩
        · exact popRx_start s
        · exact popRx_faults s
        · simp only [testInherited_peers, State.withPeer_peers]
          exact peers_set_self _ _ _
  · refine ⟨markEntry n .stale s, ?_, markEntry_spec he .stale⟩
    have hdue : staleDue n s = true := by simp [staleDue, he, hfresh, hage]
    simp only [exec, execStaleExpiry, hdue, if_true]
  · refine ⟨markEntry n .lost s, ?_, markEntry_spec he .lost⟩
    have hdue : lostDue n s = true := by
      unfold lostDue
      rw [he]
      simp [hlost, hage]
    simp only [exec, execLostExpiry, hdue, if_true]

end Sys2Proof.Machine
end

section
/-! SUPPORT. The peer table as the values of other stations are taken from it (R30 to R37). -/

namespace Sys2Proof.Machine

-- One thread elaborates this section, so that the check's memory limit holds the stacks.
set_option Elab.async false

/-! ### Lists of entries -/

theorem peers_toList (p : Vector (Option PeerEntry) 15) : p.toList = (List.finRange 15).map (fun n : Fin 15 => p[n]) := by
  refine List.ext_getElem (by simp) fun i h1 h2 => ?_
  simp

theorem mem_entries (s : State) (e : PeerEntry) : e ∈ entries s ↔ ∃ n : Fin 15, s.peers[n] = some e := by
  rw [entries, peers_toList]
  simp

theorem mem_liveEntries (s : State) (e : PeerEntry) :
    e ∈ liveEntries s ↔ ∃ n : Fin 15, s.peers[n] = some e ∧ e.status ≠ .lost := by
  rw [liveEntries, List.mem_filter, mem_entries]
  simp

theorem peerHasDrive_iff (s : State) (n : Fin 15) :
    peerHasDrive s n = true ↔ ∃ e, s.peers[n] = some e ∧ e.vals.mask.getLsbD 0 = true := by
  unfold peerHasDrive
  split
  · next e he => simp [he, maskHas, Channel.num]
  · next he => simp [he]

theorem mem_drivePeers (s : State) (n : Fin 15) : n ∈ drivePeers s ↔ peerHasDrive s n = true := by
  simp [drivePeers]

theorem drivePeers_sorted (s : State) : (drivePeers s).Pairwise (· < ·) :=
  (List.pairwise_lt_finRange 15).sublist List.filter_sublist

/-- The lowest drive peer is the source (R30). -/
theorem drivePeers_cons_iff (s : State) (n : Fin 15) :
    (∃ l, drivePeers s = n :: l) ↔ peerHasDrive s n = true ∧ ∀ m, peerHasDrive s m = true → n ≤ m := by
  have hsorted := drivePeers_sorted s
  have hmem := mem_drivePeers s
  cases hl : drivePeers s with
  | nil =>
    rw [hl] at hmem
    simp [← hmem]
  | cons a l =>
    rw [hl] at hsorted hmem
    have ha := (hmem a).mp (List.mem_cons_self)
    have hfirst : ∀ m, peerHasDrive s m = true → a ≤ m := fun m hm => by
      rcases List.mem_cons.mp ((hmem m).mpr hm) with rfl | hml
      · exact le_refl m
      · exact le_of_lt (List.rel_of_pairwise_cons hsorted hml)
    constructor
    · rintro ⟨l', h⟩
      obtain ⟨rfl, -⟩ := List.cons.inj h
      exact ⟨ha, hfirst⟩
    · rintro ⟨hn, hmin⟩
      exact ⟨l, by rw [le_antisymm (hfirst n hn) (hmin a ha)]⟩

theorem drivePeers_nonempty (s : State) : 1 ≤ (drivePeers s).length ↔ ∃ n, peerHasDrive s n = true := by
  rw [Nat.one_le_iff_ne_zero, ne_eq, List.length_eq_zero_iff, ← ne_eq, List.ne_nil_iff_exists_cons]
  constructor
  · rintro ⟨a, l, h⟩
    exact ⟨a, (mem_drivePeers s a).mp (h ▸ List.mem_cons_self)⟩
  · rintro ⟨n, hn⟩
    have hmem := (mem_drivePeers s n).mpr hn
    cases h : drivePeers s with
    | nil => simp [h] at hmem
    | cons a l => exact ⟨a, l, rfl⟩

theorem drivePeers_two (s : State) :
    2 ≤ (drivePeers s).length ↔ ∃ m n, m ≠ n ∧ peerHasDrive s m = true ∧ peerHasDrive s n = true := by
  have hsorted := drivePeers_sorted s
  have hmem := mem_drivePeers s
  match hl : drivePeers s with
  | [] =>
    rw [hl] at hmem
    simp [← hmem]
  | [a] =>
    rw [hl] at hmem
    simp only [List.mem_singleton] at hmem
    simp [← hmem]
  | a :: b :: l =>
    rw [hl] at hmem hsorted
    have hlt : a < b := List.rel_of_pairwise_cons hsorted List.mem_cons_self
    refine ⟨fun _ => ⟨a, b, ne_of_lt hlt, (hmem a).mp (by simp), (hmem b).mp (by simp)⟩, fun _ => ?_⟩
    simp

/-- The two fields of an entry that its mask admits. -/
theorem masked_pair {α : Type} (p : Nat → Bool) (i j : Nat) (a b : α) :
    (if p i then [a] else []) ++ (if p j then [b] else [])
      = (List.zip [i, j] [a, b]).filterMap (fun x => if p x.1 then some x.2 else none) := by
  cases hi : p i <;> cases hj : p j <;> simp [hi, hj]

theorem arms_eq (e : PeerEntry) : e.arms = (List.zip [1, 3] [e.vals.arm1, e.vals.arm2]).filterMap
    (fun x => if e.vals.mask.getLsbD x.1 then some x.2 else none) :=
  masked_pair e.vals.mask.getLsbD 1 3 e.vals.arm1 e.vals.arm2

theorem brushes_eq (e : PeerEntry) : e.brushes.map BitVec.toNat = (List.zip [2, 4] [e.vals.brush1, e.vals.brush2]).filterMap
    (fun x => if e.vals.mask.getLsbD x.1 then some x.2.toNat else none) := by
  have hmap : ∀ (c : Bool) (x : Byte), (if c then [x] else []).map BitVec.toNat = if c then [x.toNat] else [] := fun c x => by
    cases c <;> rfl
  rw [PeerEntry.brushes, List.map_append, hmap, hmap]
  exact masked_pair e.vals.mask.getLsbD 2 4 e.vals.brush1.toNat e.vals.brush2.toNat

theorem mem_ownArms (s : State) (a : ArmState) :
    a ∈ ownArms s ↔ ∃ n, populated (armChannel n) s = true ∧ (s.arm n).state = a := by
  simp [ownArms, mem_populatedArms]

theorem armsDown_iff (s : State) : armsDown s = true
    ↔ (∃ n, populated (armChannel n) s = true ∧ (s.arm n).state ≠ .stowed)
      ∨ ∃ (n : Fin 15) (e : PeerEntry), s.peers[n] = some e ∧ ∃ a ∈ e.arms, a ≠ .stowed := by
  rw [armsDown, List.any_append, Bool.or_eq_true, List.any_eq_true, List.any_eq_true]
  refine or_congr ⟨?_, ?_⟩ ⟨?_, ?_⟩
  · rintro ⟨a, ha, hne⟩
    obtain ⟨n, hpop, rfl⟩ := (mem_ownArms s a).mp ha
    exact ⟨n, hpop, by simpa using hne⟩
  · rintro ⟨n, hpop, hne⟩
    exact ⟨_, (mem_ownArms s _).mpr ⟨n, hpop, rfl⟩, by simpa using hne⟩
  · rintro ⟨a, ha, hne⟩
    obtain ⟨e, he, hae⟩ := List.mem_flatMap.mp ha
    obtain ⟨n, hn⟩ := (mem_entries s e).mp he
    exact ⟨n, e, hn, a, hae, by simpa using hne⟩
  · rintro ⟨n, e, hn, a, hae, hne⟩
    exact ⟨a, List.mem_flatMap.mpr ⟨e, (mem_entries s e).mpr ⟨n, hn⟩, hae⟩, by simpa using hne⟩

theorem brushWorking_iff (s : State) : brushWorking s = true
    ↔ (∃ n, populated (armChannel n) s = true ∧ (s.arm n).state = .working)
      ∨ ∃ (n : Fin 15) (e : PeerEntry), s.peers[n] = some e ∧ e.status ≠ .lost ∧ .working ∈ e.arms := by
  rw [brushWorking, List.any_append, Bool.or_eq_true, List.any_eq_true, List.any_eq_true]
  simp only [decide_eq_true_eq, exists_eq_right, mem_ownArms, List.mem_flatMap, mem_liveEntries]
  refine or_congr Iff.rfl ⟨?_, ?_⟩
  · rintro ⟨e, ⟨n, hn, hlive⟩, hworks⟩
    exact ⟨n, e, hn, hlive, hworks⟩
  · rintro ⟨n, e, hn, hlive, hworks⟩
    exact ⟨e, ⟨n, hn, hlive⟩, hworks⟩

/-! ### The brush sum (R37) -/

/-- What one place of the table adds. -/
def brushShare (p : Option PeerEntry) : Nat :=
  match p with
  | some e => if e.status = .lost then 0 else (e.brushes.map BitVec.toNat).sum
  | none => 0

theorem sum_liveBrushes (l : List (Option PeerEntry)) :
    ((((l.filterMap id).filter (fun e => e.status ≠ .lost)).flatMap PeerEntry.brushes).map BitVec.toNat).sum
      = (l.map brushShare).sum := by
  induction l with
  | nil => rfl
  | cons p l ih =>
    cases p with
    | none => simpa [brushShare] using ih
    | some e =>
      by_cases hlost : e.status = .lost
      · simpa [brushShare, hlost] using ih
      · simp only [List.filterMap_cons, id, List.filter_cons, hlost, ne_eq, not_false_eq_true, decide_true, if_true,
          List.flatMap_cons, List.map_append, List.sum_append, List.map_cons, List.sum_cons, brushShare, if_false] at ih ⊢
        rw [ih]

theorem sum_ownBrushes (s : State) : (ownBrushes s).sum
    = (if populated .br1 s then s.arm1.command / 16 else 0) + (if populated .br2 s then s.arm2.command / 16 else 0) := by
  unfold ownBrushes ownBrushByte
  cases h1 : populated .br1 s <;> cases h2 : populated .br2 s <;> simp [brushChannel, State.arm, h1, h2]

theorem sum_sixteen (l : List Nat) : (l.map (16 * ·)).sum = 16 * l.sum := by
  simpa using List.sum_map_mul_left l id 16

theorem brushSum_value (s : State) : (brushSum s).value
    = min 65535 (16 * ((ownBrushes s).sum + ((List.finRange 15).map (fun n : Fin 15 => brushShare s.peers[n])).sum)) := by
  simp only [brushSum, sum_sixteen, List.sum_append]
  rw [liveEntries, entries, sum_liveBrushes, peers_toList, List.map_map]
  rfl

theorem brushSum_held (s : State) : (brushSum s).quality = .held
    ↔ ∃ (n : Fin 15) (e : PeerEntry), s.peers[n] = some e ∧ e.status = .stale ∧ e.brushes ≠ [] := by
  have hquality : (brushSum s).quality
      = if (liveEntries s).any (fun e => e.status = .stale && !e.brushes.isEmpty) then .held else .good := rfl
  have hany : (liveEntries s).any (fun e => e.status = .stale && !e.brushes.isEmpty) = true
      ↔ ∃ (n : Fin 15) (e : PeerEntry), s.peers[n] = some e ∧ e.status = .stale ∧ e.brushes ≠ [] := by
    simp only [List.any_eq_true, mem_liveEntries, Bool.and_eq_true, decide_eq_true_eq, Bool.not_eq_true',
      List.isEmpty_eq_false_iff]
    constructor
    · rintro ⟨e, ⟨n, hn, -⟩, hstale, hturns⟩
      exact ⟨n, e, hn, hstale, hturns⟩
    · rintro ⟨n, e, hn, hstale, hturns⟩
      exact ⟨e, ⟨n, hn, by simp [hstale]⟩, hstale, hturns⟩
  rw [hquality, ← hany]
  split <;> simp_all

theorem brushSum_not_bad (s : State) : (brushSum s).quality ≠ .bad := by
  simp only [brushSum]
  split <;> decide

/-! ### The source (R30, R31) -/

theorem travelSource_away {s : State} (h : populated .drv s = false) :
    (∀ n, travelSource s = .peer n ↔ ∃ l, drivePeers s = n :: l) ∧ (travelSource s = .none ↔ drivePeers s = []) := by
  simp only [travelSource, h, Bool.false_eq_true, if_false]
  cases drivePeers s <;> simp

theorem driveConflict_iff (s : State) : driveConflict s = true
    ↔ (if populated .drv s then 1 else 2) ≤ (drivePeers s).length := by
  unfold driveConflict
  split <;> simp

/-- The quality of an entry's reading (R32). -/
theorem entryQuality_eq (st : EntryState) (r : Quality) : entryQuality st r = match st with
    | .fresh => r
    | .stale => if r = .bad then .bad else .held
    | .lost => .bad := by
  cases st <;> cases r <;> rfl

/-- Settles O33. -/
theorem viewTakesTheSourceQuality : Obligations.ViewTakesTheSourceQuality := by
  unfold Obligations.ViewTakesTheSourceQuality
  intro s drives own closing shows turns
  have hdrives : ∀ n, peerHasDrive s n = true ↔ drives n := peerHasDrive_iff s
  have haway : ¬ own → populated .drv s = false := fun h => by simpa [own] using h
  refine ⟨fun hown => ⟨by rw [travelSource, if_pos hown], ?_⟩, fun hown => ⟨fun n => ?_, ?_, ?_⟩, ?_, ?_, ?_,
    ?_, ?_, ?_⟩
  · rw [driveConflict_iff, if_pos hown, drivePeers_nonempty]
    simp only [hdrives]
  · rw [(travelSource_away (haway hown)).1, drivePeers_cons_iff]
    simp only [hdrives]
  · rw [(travelSource_away (haway hown)).2, ← List.length_eq_zero_iff]
    have hlen := drivePeers_nonempty s
    simp only [hdrives] at hlen
    rw [← not_exists, ← hlen]
    omega
  · rw [driveConflict_iff, if_neg hown, drivePeers_two]
    simp only [hdrives]
  · intro hown q
    have hsource : travelSource s = .own := by rw [travelSource, if_pos hown]
    have htravel : viewTravel s = ⟨s.drive.meas.v, q⟩ := viewTravel_own hown
    have hengine := viewEngine_own hown
    have hpressure : viewPressure s = ⟨s.drive.pressure, ownPressureQuality s⟩ := by
      simp [viewPressure, hsource]
    refine ⟨htravel, ?_, ?_, hpressure, ?_, ?_, ?_⟩
    · rw [viewDirection, hsource, htravel]
      simp only [shownDirection]
      cases s.drive.state <;> rfl
    · rw [hengine, ownEngineQuality]
      simp only [Bool.or_eq_true]
      rfl
    · rw [htravel]
      rfl
    · rw [hengine]
    · rw [hpressure]
  · intro n e hsource he q speedQ
    have hq : ∀ r, entryQuality e.status r = q r := entryQuality_eq e.status
    have htravel : viewTravel s = ⟨e.vals.travel, speedQ⟩ := by
      simp only [viewTravel, hsource, he, hq, shortcut, decide_eq_true_eq]
      rfl
    refine ⟨htravel, ?_, ?_, ?_⟩
    · simp only [viewDirection, hsource, he, htravel, Option.bind_some]
    · simp only [viewEngine, hsource, he, hq]
    · simp only [viewPressure, hsource, he, hq]
  · intro hsource
    simp [viewTravel, viewEngine, viewDirection, viewPressure, hsource]
  · rw [armsDown_iff]
    simp only [arms_eq]
    rfl
  · rw [brushWorking_iff]
    simp only [arms_eq]
    rfl
  · intro mine theirs
    have htheirs : ∀ n : Fin 15, brushShare s.peers[n] = theirs n := fun n => by
      have hturns : ∀ e : PeerEntry, e.brushes.map BitVec.toNat = turns e := brushes_eq
      simp only [brushShare, hturns]
      rfl
    refine ⟨?_, brushSum_not_bad s, ?_⟩
    · rw [brushSum_value, sum_ownBrushes]
      simp only [htheirs]
      rfl
    · rw [brushSum_held]
      simp only [turns, ← brushes_eq, ne_eq, List.map_eq_nil_iff]

end Sys2Proof.Machine
end

section
/-! SUPPORT. How a request is served: its answer and what it leaves of the line port (R119, R122, R146, R148). -/

namespace Sys2Proof.Machine

-- One thread elaborates this section, so that the check's memory limit holds the stacks.
set_option Elab.async false

/-- The line port but for the due flag. -/
def LineButDue (s t : State) : Prop := ∃ due, t.line = { s.line with reportDue := due }

namespace LineButDue

theorem refl (s : State) : LineButDue s s := ⟨s.line.reportDue, rfl⟩

theorem trans {s t u : State} (h : LineButDue s t) (h' : LineButDue t u) : LineButDue s u := by
  obtain ⟨due, h⟩ := h
  obtain ⟨due', h'⟩ := h'
  exact ⟨due', by rw [h', h]⟩

theorem of_line {s t : State} (h : t.line = s.line) : LineButDue s t := ⟨s.line.reportDue, h⟩

theorem answers {s t : State} (h : LineButDue s t) : t.line.answers = s.line.answers := by
  obtain ⟨due, h⟩ := h
  rw [h]

theorem rx {s t : State} (h : LineButDue s t) : t.line.rx = s.line.rx := by
  obtain ⟨due, h⟩ := h
  rw [h]

theorem requests {s t : State} (h : LineButDue s t) : t.line.requests = s.line.requests := by
  obtain ⟨due, h⟩ := h
  rw [h]

theorem alertSlot {s t : State} (h : LineButDue s t) : t.line.alertSlot = s.line.alertSlot := by
  obtain ⟨due, h⟩ := h
  rw [h]

end LineButDue

theorem makeDue_lineButDue (s : State) : LineButDue s (makeDue s) := by
  unfold makeDue
  split
  · exact ⟨true, rfl⟩
  · exact .refl s

theorem enterArm_lineButDue (n : ArmId) (st : ArmState) (r : Bool) (s : State) : LineButDue s (enterArm n st r s) := by
  have hends : ∀ u, LineButDue u (endOperations n u) := fun u => .of_line (by simp)
  have harm : LineButDue s (s.withArm n ((s.arm n).entered st r)) := .of_line (by simp)
  have hstop : ∀ u, LineButDue u (stopBrush n u) := fun u => .of_line (by simp)
  simp only [enterArm]
  split_ifs
  · exact harm.trans (hends _)
  · exact ((harm.trans (hstop _)).trans (makeDue_lineButDue _)).trans (hends _)
  · exact (harm.trans (makeDue_lineButDue _)).trans (hends _)

theorem stowDemand_lineButDue (n : ArmId) (s : State) : LineButDue s (stowDemand n s) := by
  unfold stowDemand
  split
  · exact .refl s
  · exact enterArm_lineButDue _ _ _ s
  · exact enterArm_lineButDue _ _ _ s
  · exact enterArm_lineButDue _ _ _ s
  · exact enterArm_lineButDue _ _ _ s
  · split
    · exact .refl s
    · exact enterArm_lineButDue _ _ _ s

theorem forArms_lineButDue {f : ArmId → State → State} (hf : ∀ n s, LineButDue s (f n s)) (s : State) :
    LineButDue s (forArms f s) := by
  have hone : LineButDue s (if populated .arm1 s then f .one s else s) := by
    split
    · exact hf _ s
    · exact .refl s
  simp only [forArms]
  split
  · exact hone.trans (hf _ _)
  · exact hone

theorem enterWater_lineButDue (st : WaterState) (s : State) : LineButDue s (enterWater st s) := by
  have hwater : LineButDue s (s.withWater { s.water with state := st }) := .of_line rfl
  simp only [enterWater]
  split
  · exact hwater
  · exact hwater.trans (makeDue_lineButDue _)

theorem waterOff_lineButDue (s : State) : LineButDue s (waterOff s) :=
  LineButDue.trans (.of_line (quietWater_keeps s).line) (enterWater_lineButDue _ _)

theorem stopWater_lineButDue (s : State) : LineButDue s (stopWater s) := by
  unfold stopWater
  split
  · exact waterOff_lineButDue s
  · exact .refl s

/-! ### Serving -/

/-- The request is past the receive queue. -/
def taken (rest : List Frame) (s : State) : State := s.withLine { s.line with rx := rest }

theorem serve_takes {kinds : Nibble → Bool} {act : Request → State → Reply} {kind : Nibble} {f : Frame}
    {rest : List Frame} {s : State} (h : Takes kind f rest s) (hkind : kinds kind = true) :
    serve kinds act s = sendReply (requestOf f) (act (requestOf f) (taken rest s)) := by
  obtain ⟨⟨hrx, hcls, hfkind, hdst, hsrc, hpayload⟩, hroom, hfind⟩ := h
  have hfront : frontRequest kinds s = some f := by
    rw [frontRequest, frontOf_eq hrx hcls]
    simp only [hfkind, hkind, if_true]
  have hkept : discarded f = false := by
    simpa [discarded] using And.intro (And.intro hdst hsrc) hpayload
  have hpop : popRx s = taken rest s := popRx_eq hrx
  have hfind' : findEntry (requestOf f).src (requestOf f).tag (taken rest s) = none := hfind
  simp only [serve, hfront, hkept, hpop, Bool.false_eq_true, if_false]
  rw [answerRequest, if_neg (by simpa [taken] using hroom), hfind']

theorem holdMark_eq (s : State) (r : Result) : (if r = .done ∨ r = .failed then holdMark s else none) = markOf r s := by
  have hreport : reportOnLine s = decide (s.line.onLine.map Sending.owner = some .report) := by
    unfold reportOnLine
    cases s.line.onLine <;> simp
  rw [markOf, holdMark, hreport]
  split
  · cases decide (s.line.onLine.map Sending.owner = some .report) <;> cases s.line.reportDue <;> rfl
  · rfl

theorem markOf_congr {r : Result} {s t : State} (honline : t.line.onLine = s.line.onLine)
    (hdue : t.line.reportDue = s.line.reportDue) (hseq : t.line.seq = s.line.seq) : markOf r t = markOf r s := by
  rw [markOf, markOf, honline, hdue, hseq]

/-- The answer of a reply joins the queue with the mark of R146; nothing else changes. -/
theorem sendReply_eq (r : Request) (p : Reply) : sendReply r p = p.state.withLine { p.state.line with
    answers := p.state.line.answers ++ [⟨r.src, r.tag, r.kind, p.result, p.value, markOf p.result p.state, p.restarts⟩] } := by
  rw [sendReply, queueAnswer]
  simp only [holdMark_eq]

theorem sendReply_answers {f : Frame} {p : Reply} {s : State} (hanswers : p.state.line.answers = s.line.answers)
    (hrestarts : p.restarts = false) : Answers f p.result p.value s (sendReply (requestOf f) p) := by
  rw [Answers, sendReply_eq, State.withLine_line, hanswers, hrestarts]
  rfl

theorem sendReply_keeps (r : Request) (p : Reply) : KeepsAllBut [.line] p.state (sendReply r p) := by
  rw [sendReply_eq]
  exact State.withLine_keeps _ _

/-- A reply that changes nothing, of a result that takes no mark. -/
theorem sendReply_decided {f : Frame} {rest : List Frame} {s : State} {result : Result} {value : Word}
    (hdone : result ≠ .done) (hfailed : result ≠ .failed) :
    sendReply (requestOf f) (decided result value (taken rest s)) = onlyAnswered f rest result value s := by
  have hmark : markOf result (taken rest s) = none := if_neg (by simp [hdone, hfailed])
  rw [sendReply_eq, decided]
  simp only [hmark]
  rfl

/-- What serving leaves, of a reply whose state differs from the taken one by no more than the due flag in the line. -/
theorem sendReply_serves {f : Frame} {rest : List Frame} {s : State} {p : Reply} (hline : LineButDue (taken rest s) p.state)
    (hrestarts : p.restarts = false) : (sendReply (requestOf f) p).line.rx = rest
      ∧ (sendReply (requestOf f) p).line.requests = s.line.requests
      ∧ (sendReply (requestOf f) p).line.alertSlot = s.line.alertSlot
      ∧ Answers f p.result p.value s (sendReply (requestOf f) p) := by
  refine ⟨?_, ?_, ?_, sendReply_answers hline.answers hrestarts⟩
  · rw [sendReply_eq]
    exact hline.rx
  · rw [sendReply_eq]
    exact hline.requests
  · rw [sendReply_eq]
    exact hline.alertSlot

theorem taken_keeps (rest : List Frame) (s : State) : KeepsAllBut [.line] s (taken rest s) := State.withLine_keeps s _

end Sys2Proof.Machine
end

section
/-! SUPPORT. The immediate requests: TRIM_SET, WATER_SET, FAULT_CLEAR, QUERY (R94, R128 to R130, R159). -/

namespace Sys2Proof.Machine

-- One thread elaborates this section, so that the check's memory limit holds the stacks.
set_option Elab.async false

section
variable {f : Frame} {rest : List Frame} {s : State}

theorem exec_setMode_takes (h : Takes kindSetMode f rest s) :
    exec .setMode s = .next (sendReply (requestOf f) (actSetMode (requestOf f) (taken rest s))) :=
  congrArg _ (serve_takes h (by decide))

theorem exec_armMove_takes (h : Takes kindArmMove f rest s) :
    exec .armMove s = .next (sendReply (requestOf f) (actArmMove (requestOf f) (taken rest s))) :=
  congrArg _ (serve_takes h (by decide))

theorem exec_waterSet_takes (h : Takes kindWaterSet f rest s) :
    exec .waterSet s = .next (sendReply (requestOf f) (actWaterSet (requestOf f) (taken rest s))) :=
  congrArg _ (serve_takes h (by decide))

theorem exec_trimSet_takes (h : Takes kindTrimSet f rest s) :
    exec .trimSet s = .next (sendReply (requestOf f) (actTrimSet (requestOf f) (taken rest s))) :=
  congrArg _ (serve_takes h (by decide))

theorem exec_faultClear_takes (h : Takes kindFaultClear f rest s) :
    exec .faultClear s = .next (sendReply (requestOf f) (actFaultClear (requestOf f) (taken rest s))) :=
  congrArg _ (serve_takes h (by decide))

theorem exec_query_takes (h : Takes kindQuery f rest s) :
    exec .query s = .next (sendReply (requestOf f) (actQuery (requestOf f) (taken rest s))) :=
  congrArg _ (serve_takes h (by decide))

@[simp] theorem taken_start : (taken rest s).start = s.start := rfl

@[simp] theorem taken_water : (taken rest s).water = s.water := rfl

@[simp] theorem taken_faults : (taken rest s).faults = s.faults := rfl

@[simp] theorem taken_sp : (taken rest s).sp = s.sp := rfl

@[simp] theorem taken_req : (taken rest s).req = s.req := rfl

@[simp] theorem taken_populated (c : Channel) : populated c (taken rest s) = populated c s := rfl

@[simp] theorem taken_arm (n : ArmId) : (taken rest s).arm n = s.arm n := by cases n <;> rfl

/-- What the act keeps, the request keeps. -/
theorem keeps_of_reply {l : List Part} {r : Request} {p : Reply} (hline : Part.line ∈ l)
    (h : KeepsAllBut l (taken rest s) p.state) : KeepsAllBut l s (sendReply r p) := by
  have hsub : [Part.line] ⊆ l := by simpa using hline
  exact (((taken_keeps rest s).mono hsub).trans h).trans ((sendReply_keeps r p).mono hsub)

theorem refused_eq {value : Word} :
    sendReply (requestOf f) (decided .refused value (taken rest s)) = onlyAnswered f rest .refused value s :=
  sendReply_decided (by decide) (by decide)

end

/-! ### TRIM_SET (R128) -/

theorem brushArg_of_args {n : ArmId} {args : List Byte} {hi lo : Byte} (h : args = [match n with
      | .one => 1
      | .two => 2, hi, lo]) : brushArg args = some n := by
  subst h
  cases n <;> rfl

theorem trimArg_three (c hi lo : Byte) : trimArg [c, hi, lo]
    = if 256 * hi.toNat + lo.toNat ≤ 4095 then some (256 * hi.toNat + lo.toNat) else none := by
  rw [trimArg, wordOf_toNat, Nat.mul_comm]

theorem brushArg_none {args : List Byte} (h : ∀ c hi lo : Byte, args = [c, hi, lo] → c ≠ 1 ∧ c ≠ 2) :
    brushArg args = none := by
  unfold brushArg
  split
  · next c hi lo =>
    obtain ⟨h1, h2⟩ := h c hi lo rfl
    rw [if_neg h1, if_neg h2]
  · rfl

theorem actTrimSet_above {r : Request} {n : ArmId} {s : State} (hpop : populated (brushChannel n) s = true)
    (hbrush : brushArg r.args = some n) (htrim : trimArg r.args = none) : actTrimSet r s = decided .refused 0 s := by
  simp [actTrimSet, hbrush, htrim, hpop]

/-- Settles O38: the tests of TRIM_SET in their order, and the exchange of the trim. -/
theorem trimSetExchangesTheTrim : Obligations.TrimSetExchangesTheTrim := by
  refine ⟨fun s f rest h => ⟨fun hargs => ?_, fun hi lo hpop hargs habove => ?_, fun hi lo hpop hargs habove => ?_⟩,
    fun s f rest n v hi lo h hargs hv hmax hpop hrun => ?_⟩
  · rw [exec_trimSet_takes h, actTrimSet, brushArg_none hargs]
    exact congrArg _ refused_eq
  · rw [exec_trimSet_takes h, actTrimSet_above (n := .one) (s := taken rest s) hpop (by rw [hargs]; rfl)
      (by rw [hargs, trimArg_three, if_neg (by omega)])]
    exact congrArg _ refused_eq
  · rw [exec_trimSet_takes h, actTrimSet_above (n := .two) (s := taken rest s) hpop (by rw [hargs]; rfl)
      (by rw [hargs, trimArg_three, if_neg (by omega)])]
    exact congrArg _ refused_eq
  · have htrim : trimArg (requestOf f).args = some v := by rw [hargs, trimArg_three, if_pos (by omega), hv]
    have hact : actTrimSet (requestOf f) (taken rest s) = decided .done (BitVec.ofNat 16 (s.arm n).trim)
        ((taken rest s).withArm n { s.arm n with trim := v }) := by
      simp [actTrimSet, brushArg_of_args hargs, htrim, hpop, hrun]
    have hkeeps := State.withArm_keeps (taken rest s) n { s.arm n with trim := v }
    have hline : LineButDue (taken rest s) ((taken rest s).withArm n { s.arm n with trim := v }) :=
      .of_line (hkeeps.line (by cases n <;> decide))
    obtain ⟨hrx, hrequests, halert, hanswers⟩ := sendReply_serves (f := f)
      (p := decided .done (BitVec.ofNat 16 (s.arm n).trim) ((taken rest s).withArm n { s.arm n with trim := v })) hline rfl
    refine ⟨_, (exec_trimSet_takes h).trans (by rw [hact]), ?_, ?_, hrx, hrequests, halert, hanswers⟩
    · exact keeps_of_reply (by simp) (hkeeps.mono (by simp))
    · rw [(sendReply_keeps _ _).arm n (by cases n <;> decide)]
      exact State.withArm_arm _ _ _

/-! ### WATER_SET (R94, R96) -/

theorem onOffArg_none {args : List Byte} (h0 : args ≠ [0]) (h1 : args ≠ [1]) : onOffArg args = none := by
  unfold onOffArg
  split
  · next b => rw [if_neg (by simpa using h0), if_neg (by simpa using h1)]
  · rfl

theorem onOffArg_of_args {on : Bool} {args : List Byte} (h : args = [if on then 1 else 0]) : onOffArg args = some on := by
  subst h
  cases on <;> rfl

theorem writeEnable_water (on : Bool) (s : State) : (writeEnable on s).water.enable = on
    ∧ (on = true → (writeEnable on s).water = { s.water with enable := true } ∧ (writeEnable on s).sp = s.sp)
    ∧ (on = false → s.water.state.active = true → (writeEnable on s).water.state = .off ∧ (writeEnable on s).water.pump = 0
        ∧ (writeEnable on s).water.valves = 0 ∧ (writeEnable on s).sp.wtr.ramp.out = 0
        ∧ (writeEnable on s).water.dryCount = s.water.dryCount)
    ∧ (on = false → s.water.state.active = false →
        (writeEnable on s).water = { s.water with enable := false } ∧ (writeEnable on s).sp = s.sp) := by
  cases on with
  | true => exact ⟨rfl, fun _ => ⟨rfl, rfl⟩, fun h => (by cases h), fun h => (by cases h)⟩
  | false =>
    have heq : writeEnable false s = stopWater (s.withWater { s.water with enable := false }) := rfl
    have hsame : (s.withWater { s.water with enable := false }).water.state.active = s.water.state.active := rfl
    rw [heq]
    cases hactive : s.water.state.active with
    | true =>
      rw [stopWater_of_active (hsame.trans hactive), waterOff_water, waterOff_site]
      exact ⟨rfl, fun h => (by cases h), fun _ _ => ⟨rfl, rfl, rfl, rfl, rfl⟩, fun _ h => (by cases h)⟩
    | false =>
      rw [stopWater_of_inactive (hsame.trans hactive)]
      exact ⟨rfl, fun h => (by cases h), fun _ h => (by cases h), fun _ _ => ⟨rfl, rfl⟩⟩

theorem writeEnable_lineButDue (on : Bool) (s : State) : LineButDue s (writeEnable on s) := by
  cases on
  · exact LineButDue.trans (.of_line rfl) (stopWater_lineButDue _)
  · exact .of_line rfl

/-- Settles O37: the tests of WATER_SET in their order, the flag and the stop of active water. -/
theorem waterSetWritesTheFlag : Obligations.WaterSetWritesTheFlag := by
  refine ⟨fun s f rest h hpop h0 h1 => ?_, fun s f rest on h hargs hpop hrun => ⟨fun hmode => ?_, fun hmode => ?_⟩⟩
  · rw [exec_waterSet_takes h, actWaterSet, if_neg (by simp [hpop]), onOffArg_none h0 h1]
    exact congrArg _ refused_eq
  · have hact : actWaterSet (requestOf f) (taken rest s) = decided .refused (enableValue s) (taken rest s) := by
      simp [actWaterSet, hpop, onOffArg_of_args hargs, hmode]
      rfl
    rw [exec_waterSet_takes h, hact]
    exact congrArg _ refused_eq
  · have hkeeps := writeEnable_keeps on (taken rest s)
    obtain ⟨henable, hon, hstop, hidle⟩ := writeEnable_water on (taken rest s)
    have hact : actWaterSet (requestOf f) (taken rest s) = decided .done (if on then 1 else 0) (writeEnable on (taken rest s)) := by
      simp [actWaterSet, hpop, onOffArg_of_args hargs, hmode, hrun, enableValue, henable]
    have hsend := sendReply_keeps (requestOf f) (decided .done (if on then 1 else 0) (writeEnable on (taken rest s)))
    obtain ⟨hrx, -, -, hanswers⟩ := sendReply_serves (f := f) (p := decided .done (if on then 1 else 0) (writeEnable on (taken rest s)))
      (writeEnable_lineButDue on _) rfl
    refine ⟨_, (exec_waterSet_takes h).trans (by rw [hact]), keeps_of_reply (by simp) hkeeps, hrx, ?_, hanswers, ?_, ?_, ?_⟩
    · rw [hsend.water]
      exact henable
    · rw [hsend.water, hsend.sp]
      exact hon
    · rw [hsend.water, hsend.sp]
      exact hstop
    · rw [hsend.water, hsend.sp]
      exact hidle

/-! ### FAULT_CLEAR (R129, R159) -/

theorem maskArg_none {args : List Byte} (h : args.length ≠ 2) : maskArg args = none := by
  unfold maskArg
  split
  · simp at h
  · rfl

theorem sticky_clearFaults (k : FaultKind) (mask : FaultSet) (s : State) :
    sticky k (clearFaults mask s) = (sticky k s && !(mask.getLsbD k.num && !active k s)) := by
  have hk : k.num < 16 := k.num_lt
  simp only [sticky, active, clearFaults_faults, clearedSticky, hasKind]
  simp [hk]

theorem active_clearFaults (k : FaultKind) (mask : FaultSet) (s : State) : active k (clearFaults mask s) = active k s := by
  rw [active, clearFaults_faults]
  rfl

theorem releaseDry_lineButDue (mask : FaultSet) (s : State) : LineButDue s (releaseDry mask s) := by
  simp only [releaseDry]
  split_ifs
  · exact LineButDue.trans (.of_line rfl) (waterOff_lineButDue _)
  · exact .of_line rfl
  · exact .refl _

theorem clearFaults_lineButDue (mask : FaultSet) (s : State) : LineButDue s (clearFaults mask s) :=
  LineButDue.trans (.of_line rfl) (releaseDry_lineButDue mask _)

/-- What a FAULT_CLEAR leaves of the water channel (R102, R167). -/
theorem releaseDry_water (mask : FaultSet) (s : State) :
    (mask.getLsbD 7 = true → sticky .waterDry s = false → (releaseDry mask s).water.dryCount = 0
      ∧ (s.water.state = .dryLocked → (releaseDry mask s).water.state = .off)
      ∧ (s.water.state ≠ .dryLocked → (releaseDry mask s).water = { s.water with dryCount := 0 }))
    ∧ (mask.getLsbD 7 = false ∨ sticky .waterDry s = true →
        (releaseDry mask s).water = s.water ∧ (releaseDry mask s).sp = s.sp) := by
  have hmask : hasKind mask .waterDry = mask.getLsbD 7 := rfl
  rw [releaseDry, hmask]
  split_ifs with hcond hlocked
  · obtain ⟨hbit, hdry⟩ := hcond
    rw [waterOff_water]
    exact ⟨fun _ _ => ⟨rfl, fun _ => rfl, fun hne => absurd hlocked hne⟩,
      fun hor => absurd hor (by rw [hbit, hdry]; decide)⟩
  · obtain ⟨hbit, hdry⟩ := hcond
    exact ⟨fun _ _ => ⟨rfl, fun h => absurd h hlocked, fun _ => rfl⟩,
      fun hor => absurd hor (by rw [hbit, hdry]; decide)⟩
  · exact ⟨fun hbit hdry => absurd ⟨hbit, hdry⟩ hcond, fun _ => ⟨rfl, rfl⟩⟩

theorem clearFaults_water (mask : FaultSet) (s : State) :
    (mask.getLsbD 7 = true → sticky .waterDry (clearFaults mask s) = false →
      (clearFaults mask s).water.dryCount = 0
        ∧ (s.water.state = .dryLocked → (clearFaults mask s).water.state = .off)
        ∧ (s.water.state ≠ .dryLocked → (clearFaults mask s).water = { s.water with dryCount := 0 }))
    ∧ (mask.getLsbD 7 = false ∨ sticky .waterDry (clearFaults mask s) = true →
        (clearFaults mask s).water = s.water ∧ (clearFaults mask s).sp = s.sp) := by
  rw [clearFaults, sticky_congr (releaseDry_keeps mask _).faults]
  exact releaseDry_water mask _

/-- Settles O39: the tests of FAULT_CLEAR, the members its mask takes out, and the release of DRY_LOCKED. -/
theorem faultClearRemovesPassedCauses : Obligations.FaultClearRemovesPassedCauses := by
  refine ⟨fun s f rest h hlen => ?_, fun s f rest mask hi lo h hargs hmask hrun => ?_⟩
  · rw [exec_faultClear_takes h, actFaultClear, maskArg_none hlen]
    exact congrArg _ refused_eq
  · have hword : maskArg (requestOf f).args = some mask := by
      rw [hargs, maskArg, Option.some.injEq]
      apply BitVec.eq_of_toNat_eq
      rw [wordOf_toNat, hmask, Nat.mul_comm]
    have hact : actFaultClear (requestOf f) (taken rest s) = decided .done (clearFaults mask (taken rest s)).faults.sticky
        (clearFaults mask (taken rest s)) := by
      simp [actFaultClear, hword, hrun]
    obtain ⟨hdry, hsame⟩ := clearFaults_water mask (taken rest s)
    generalize hp : decided .done (clearFaults mask (taken rest s)).faults.sticky (clearFaults mask (taken rest s)) = p at hact
    have hstate : p.state = clearFaults mask (taken rest s) := by rw [← hp]; rfl
    have hsend := sendReply_keeps (requestOf f) p
    obtain ⟨hrx, -, halert, hanswers⟩ := sendReply_serves (f := f) (p := p) (s := s) (rest := rest)
      (by rw [hstate]; exact clearFaults_lineButDue mask _) (by rw [← hp]; rfl)
    have hst : ∀ k, sticky k (sendReply (requestOf f) p) = sticky k (clearFaults mask (taken rest s)) := fun k => by
      rw [sticky_congr hsend.faults, hstate]
    refine ⟨_, (exec_faultClear_takes h).trans (by rw [hact]),
      keeps_of_reply (by simp) (by rw [hstate]; exact clearFaults_keeps mask _), hrx, halert, fun k => ?_, fun k => ?_, ?_, ?_, ?_⟩
    · rw [hst, sticky_clearFaults]
      rfl
    · rw [active_congr hsend.faults, hstate, active_clearFaults]
      rfl
    · rw [hsend.faults, hstate]
      rw [← hp] at hanswers ⊢
      exact hanswers
    · rw [hst, hsend.water, hstate]
      exact hdry
    · rw [hst, hsend.water, hsend.sp, hstate]
      exact hsame

/-! ### QUERY (R130) -/

theorem itemArg_none {args : List Byte}
    (h : ∀ item : Byte, item.toNat ≤ 30 ∨ (32 ≤ item.toNat ∧ item.toNat ≤ 46) → args ≠ [item]) : itemArg args = none := by
  unfold itemArg
  split
  · next b => exact if_neg fun hnamed => h b hnamed rfl
  · rfl

theorem itemValue_taken (item : Nat) (rest : List Frame) (s : State) : itemValue item (taken rest s) = itemValue item s := by
  unfold itemValue
  split <;> rfl

/-- Settles O40: QUERY answers its item by the mark of R146, and refuses every other argument. -/
theorem queryAnswersItsItem : Obligations.QueryAnswersItsItem := by
  intro s f rest h named reporting
  refine ⟨fun hargs => ?_, fun item hargs hnamed => ⟨markOf .done s, ?_, ?_⟩⟩
  · rw [exec_query_takes h, actQuery, itemArg_none hargs]
    exact congrArg _ refused_eq
  · have hitem : itemArg (requestOf f).args = some item.toNat := by rw [hargs, itemArg, if_pos hnamed]
    rw [exec_query_takes h, actQuery, hitem]
    simp only [itemValue_taken, sendReply_eq, decided]
    rfl
  · have hmark : markOf .done s = match decide reporting, s.line.reportDue with
        | false, false => none
        | false, true => some s.line.seq
        | true, false => some s.line.seq
        | true, true => some (s.line.seq + 1) := by
      rw [markOf, if_pos (.inl rfl)] <;> rfl
    rw [hmark]
    exact ⟨fun hdue hrep => by simp [hdue, hrep], fun hdue hrep => by simp [hdue, hrep],
      fun hdue hrep => by simp [hdue, hrep], fun hdue hrep => by simp [hdue, hrep]⟩

end Sys2Proof.Machine
end

section
/-! SUPPORT. ARM_MOVE (R73 to R75, R119, R122, R124). -/

namespace Sys2Proof.Machine

-- One thread elaborates this section, so that the check's memory limit holds the stacks.
set_option Elab.async false

/-! ### Entries that claim the arm -/

theorem overlap_armClaims (c : Claims) (n : ArmId) : c.overlap (armClaims n) = c.hasArm n := by
  cases n <;> simp [Claims.overlap, armClaims, Claims.hasArm]

theorem conflicts_iff (src : Nibble) (c : Claims) (s : State) : conflicts src c s = true
    ↔ ∃ e ∈ s.req.table, e.state = .running ∧ e.requester ≠ src ∧ e.claims.overlap c = true := by
  simp [conflicts, and_assoc]

/-- Without a conflict, no entry still runs on what the new request claims. -/
theorem supersededBy_clear {src : Nibble} {c : Claims} {s : State} (hfree : conflicts src c s = false)
    {e : PendingEntry} (he : e ∈ s.req.table) :
    ¬ ((e.supersededBy src c s).state = .running ∧ (e.supersededBy src c s).claims.overlap c = true) := by
  have hnone : ¬ (e.state = .running ∧ e.requester ≠ src ∧ e.claims.overlap c = true) := fun hrun => by
    have := (conflicts_iff src c s).mpr ⟨e, he, hrun⟩
    simp [hfree] at this
  unfold PendingEntry.supersededBy
  split
  · simp
  · next hown => exact fun ⟨hrun, hover⟩ => hnone ⟨hrun, fun heq => hown ⟨hrun, heq, hover⟩, hover⟩

/-- Entering a state ends nothing where no entry runs on the arm. -/
theorem enterArm_req_clear {n : ArmId} {s : State}
    (h : ∀ e ∈ s.req.table, ¬ (e.state = .running ∧ e.claims.hasArm n = true)) (st : ArmState) (r : Bool) :
    (enterArm n st r s).req = s.req := by
  have hmap : s.req.table.map (fun e => e.afterArm n ((enterArm n st r s).arm n) (allStowed (enterArm n st r s)))
      = s.req.table.map id := List.map_congr_left fun e he => if_neg (h e he)
  rw [enterArm_req, hmap, List.map_id]

/-! ### What the arm does -/

theorem armToTarget_work {n : ArmId} {s : State} (h : (s.arm n).state ≠ .working) :
    armToTarget n .work s = if (s.arm n).state = .lowering then s else enterArm n .lowering false s := by
  unfold armToTarget armToWork
  simp only
  split <;> simp_all

theorem armToTarget_stow {n : ArmId} {s : State} (h : (s.arm n).state ≠ .stowed) :
    armToTarget n .stow s = enterArm n (if (s.arm n).state = .reverseLifted then .stowed else .lifting) false s := by
  unfold armToTarget armToStow
  simp only
  split <;> simp_all

theorem armToTarget_lineButDue (n : ArmId) (target : Target) (s : State) : LineButDue s (armToTarget n target s) := by
  rcases armToTarget_cases n target s with h | ⟨_, h⟩ | ⟨_, h⟩ | ⟨_, _, h⟩ <;> rw [h]
  · exact .refl s
  all_goals exact enterArm_lineButDue _ _ _ s

/-- The arm acts, and the superseded table stays. -/
theorem armToTarget_req {n : ArmId} {src : Nibble} {s : State} (hfree : conflicts src (armClaims n) s = false) (target : Target) :
    (armToTarget n target (supersede src (armClaims n) s)).req
      = { s.req with table := s.req.table.map (fun e => e.supersededBy src (armClaims n) s) } := by
  rw [← supersede_table]
  have hclear : ∀ e ∈ (supersede src (armClaims n) s).req.table, ¬ (e.state = .running ∧ e.claims.hasArm n = true) := by
    rw [supersede_table]
    intro e he
    obtain ⟨x, hx, rfl⟩ := List.mem_map.mp he
    rw [← overlap_armClaims]
    exact supersededBy_clear hfree hx
  rcases armToTarget_cases n target (supersede src (armClaims n) s) with h | ⟨_, h⟩ | ⟨_, h⟩ | ⟨_, _, h⟩ <;> rw [h]
  all_goals exact enterArm_req_clear hclear _ _

theorem supersede_arm (src : Nibble) (c : Claims) (s : State) (n : ArmId) : (supersede src c s).arm n = s.arm n :=
  (supersede_keeps src c s).arm n (by cases n <;> decide)

/-- An ARM_MOVE WORK ends in LOWERING (R74, R77). -/
theorem armToTarget_work_arm {n : ArmId} {s : State} (h : (s.arm n).state ≠ .working) :
    ((armToTarget n .work s).arm n).state = .lowering
    ∧ ((armToTarget n .work s).arm n).moveTimer = (if (s.arm n).state = .lowering then (s.arm n).moveTimer else some 0)
    ∧ ((s.arm n).state ≠ .lowering → ((armToTarget n .work s).arm n).resume = false) := by
  rw [armToTarget_work h]
  split_ifs with hs
  · exact ⟨hs, rfl, fun hne => absurd hs hne⟩
  · rw [enterArm_arm]
    refine ⟨rfl, ?_, fun _ => rfl⟩
    simp [Arm.entered, moveTimerAfter, hs]

/-- An ARM_MOVE STOW ends in LIFTING, and out of REVERSE_LIFTED in STOWED (R75, R77, R87). -/
theorem armToTarget_stow_arm {n : ArmId} {s : State} (h : (s.arm n).state ≠ .stowed) :
    ((armToTarget n .stow s).arm n).resume = false
    ∧ ((s.arm n).state = .reverseLifted → ((armToTarget n .stow s).arm n).state = .stowed)
    ∧ ((s.arm n).state ≠ .reverseLifted → ((armToTarget n .stow s).arm n).state = .lifting
      ∧ ((armToTarget n .stow s).arm n).command = (if (s.arm n).state = .working then 0 else (s.arm n).command)
      ∧ ((armToTarget n .stow s).arm n).moveTimer
        = (if (s.arm n).state = .lifting then (s.arm n).moveTimer else some 0)) := by
  rw [armToTarget_stow h, enterArm_arm]
  refine ⟨rfl, fun hs => if_pos hs, fun hs => ?_⟩
  simp [Arm.entered, moveTimerAfter, hs]

/-! ### The tests in their order (R122) -/

section
variable {r : Request} {n : ArmId} {target : Target} {s : State}

theorem claimArm_there (h : (s.arm n).state = targetState target) :
    claimArm r n target s = decided .done (armStateValue n s) s := if_pos h

theorem claimArm_refused (hthere : (s.arm n).state ≠ targetState target) (h : moveAllowed n target s = false) :
    claimArm r n target s = decided .refused (armStateValue n s) s := by
  rw [claimArm, if_neg hthere, if_pos h]

theorem claimArm_conflict (hthere : (s.arm n).state ≠ targetState target) (hallowed : moveAllowed n target s = true)
    (h : conflicts r.src (armClaims n) s = true) : claimArm r n target s = decided .conflict (armStateValue n s) s := by
  rw [claimArm, if_neg hthere, if_neg (by simp [hallowed]), if_pos h]

theorem claimArm_busy (hthere : (s.arm n).state ≠ targetState target) (hallowed : moveAllowed n target s = true)
    (hfree : conflicts r.src (armClaims n) s = false) (h : ¬ (target = .stow ∧ (s.arm n).state = .reverseLifted))
    (hfull : 4 ≤ s.req.table.length) : claimArm r n target s = decided .busy (armStateValue n s) s := by
  rw [claimArm, if_neg hthere, if_neg (by simp [hallowed]), if_neg (by simp [hfree]),
    if_pos ⟨h, by simpa [tableFull] using hfull⟩]

theorem claimArm_acts (hthere : (s.arm n).state ≠ targetState target) (hallowed : moveAllowed n target s = true)
    (hfree : conflicts r.src (armClaims n) s = false)
    (hroom : (target = .stow ∧ (s.arm n).state = .reverseLifted) ∨ s.req.table.length < 4) : claimArm r n target s =
      if target = .stow ∧ (s.arm n).state = .reverseLifted then
        decided .done (armStateValue n (armToTarget n target (supersede r.src (armClaims n) s)))
          (armToTarget n target (supersede r.src (armClaims n) s))
      else decided .pending (armStateValue n (armToTarget n target (supersede r.src (armClaims n) s)))
        (makeEntry r (.armMove n target) (armClaims n) (armToTarget n target (supersede r.src (armClaims n) s))) := by
  rw [claimArm, if_neg hthere, if_neg (by simp [hallowed]), if_neg (by simp [hfree]), if_neg]
  rintro ⟨hlater, hfull⟩
  rcases hroom with h | h
  · exact hlater h
  · simp [tableFull] at hfull
    omega

/-- The preconditions of R73 and R75. -/
theorem moveAllowed_iff {b : StartBlock} (himage : s.start.image = some b) : moveAllowed n target s = true
    ↔ (target = .work → lowerAllowed b n s = true) ∧ ¬ ((s.arm n).state = .held ∧ sticky (armFault n) s = true) := by
  have htrip : heldByTrip n s = false ↔ ¬ ((s.arm n).state = .held ∧ sticky (armFault n) s = true) := by
    simp [heldByTrip]
  rw [← htrip]
  cases target with
  | stow => simp [moveAllowed]
  | work =>
    simp only [moveAllowed, himage, forall_const]
    refine ⟨fun h => ⟨h, ?_⟩, fun h => h.1⟩
    obtain ⟨-, -, hfree⟩ := lowerAllowed_running h
    exact hfree

theorem actArmMove_claims (harm : armArg r.args = some n) (htarget : targetArg r.args = some target)
    (hpop : populated (armChannel n) s = true) (hrun : s.start.station = .running) :
    actArmMove r s = claimArm r n target s := by
  simp [actArmMove, harm, htarget, hpop, hrun]

end

/-! ### The request -/

section
variable {f : Frame} {rest : List Frame} {s : State} {n : ArmId}

theorem taken_lowerAllowed (b : StartBlock) : lowerAllowed b n (taken rest s) = lowerAllowed b n s :=
  (sameView_of_keeps (n := n) ((taken_keeps rest s).mono (by simp))).lowerAllowed b
    (heldByTrip_congr (taken_arm n) rfl)

/-- A reply without a mark and an effect, by the code of the arm's state. -/
theorem exec_armMove_decided {result : Result} (h : Takes kindArmMove f rest s) (hdone : result ≠ .done)
    (hfailed : result ≠ .failed)
    (hact : actArmMove (requestOf f) (taken rest s) = decided result (armStateValue n (taken rest s)) (taken rest s)) :
    exec .armMove s = .next (onlyAnswered f rest result (armStateValue n s) s) := by
  have hvalue : armStateValue n (taken rest s) = armStateValue n s := by rw [armStateValue, taken_arm]; rfl
  rw [exec_armMove_takes h, hact, sendReply_decided hdone hfailed, hvalue]

/-- The act of an ARM_MOVE, as its request leaves the machine. -/
theorem armMove_served {target : Target} {p : Reply} (h : Takes kindArmMove f rest s)
    (hact : actArmMove (requestOf f) (taken rest s) = p) (hrestarts : p.restarts = false)
    (hline : LineButDue (taken rest s) p.state)
    (hkeeps : KeepsAllBut [.line, .req, .sp, armPart n] (taken rest s) p.state)
    (harm : p.state.arm n = (armToTarget n target (supersede (requestOf f).src (armClaims n) (taken rest s))).arm n) :
    ∃ t, exec .armMove s = .next t ∧ KeepsAllBut [.line, .req, .sp, armPart n] s t ∧ t.line.rx = rest
      ∧ Answers f p.result p.value s t ∧ t.req = p.state.req
      ∧ t.arm n = (armToTarget n target (supersede (requestOf f).src (armClaims n) (taken rest s))).arm n := by
  obtain ⟨hrx, -, -, hanswers⟩ := sendReply_serves (f := f) hline hrestarts
  refine ⟨_, (exec_armMove_takes h).trans (by rw [hact]), keeps_of_reply (by simp) hkeeps, hrx, hanswers, ?_, ?_⟩
  · exact (sendReply_keeps _ p).req
  · rw [(sendReply_keeps _ p).arm n (by cases n <;> decide), harm]

variable (f rest s n)

theorem armMove_lineButDue (target : Target) : LineButDue (taken rest s)
    (armToTarget n target (supersede (requestOf f).src (armClaims n) (taken rest s))) :=
  LineButDue.trans (.of_line (supersede_line _ _ _)) (armToTarget_lineButDue n target _)

theorem armMove_keeps (target : Target) : KeepsAllBut [.line, .req, .sp, armPart n] (taken rest s)
    (armToTarget n target (supersede (requestOf f).src (armClaims n) (taken rest s))) :=
  ((supersede_keeps _ _ _).mono (by simp)).trans (armToTarget_keeps n target _)

end

/-- Settles O36: the tests of ARM_MOVE in their order, and what each act leaves of the arm and the table. -/
theorem armMoveMovesTheArm : Obligations.ArmMoveMovesTheArm := by
  refine ⟨fun s f rest h hrun harm => ⟨Config.freeArmCode s.free, ?_⟩, fun s f rest n b h harm hpop hrun himage => ?_⟩
  · have hact : actArmMove (requestOf f) (taken rest s) = refuseUnnamedArm (taken rest s) := by rw [actArmMove, harm]
    rw [exec_armMove_takes h, hact, sendReply_eq]
    rfl
  · intro code claims hold superseded entry
    have hclaims : claims = armClaims n := by cases n <;> rfl
    have hhold : hold = conflicts (requestOf f).src (armClaims n) (taken rest s) := by rw [← hclaims]; rfl
    have hsuperseded : superseded = s.req.table.map (fun e => e.supersededBy f.src (armClaims n) (taken rest s)) := by
      have hby : ∀ e : PendingEntry, e.supersededBy f.src claims s = e.supersededBy f.src (armClaims n) (taken rest s) := by
        intro e
        rw [hclaims]
        simp only [PendingEntry.supersededBy, taken_arm]
      exact congrArg (fun g => s.req.table.map g) (funext hby)
    have hpop' : populated (armChannel n) (taken rest s) = true := hpop
    refine ⟨fun htarget => ?_, fun target htarget => ?_⟩
    · exact exec_armMove_decided h (by decide) (by decide) (by simp [actArmMove, harm, htarget, hpop])
    intro there tripped allowed atOnce
    have hthere : there ↔ ((taken rest s).arm n).state = targetState target := by
      rw [taken_arm]
      cases target <;> simp [there, targetState]
    have hallowed : moveAllowed n target (taken rest s) = true ↔ allowed := by
      rw [moveAllowed_iff (s := taken rest s) himage, taken_lowerAllowed, taken_arm]
      rfl
    have honce : (target = .stow ∧ ((taken rest s).arm n).state = .reverseLifted) ↔ atOnce := by rw [taken_arm]
    have hact := actArmMove_claims (r := requestOf f) harm htarget hpop' hrun
    refine ⟨fun hin => ?_, fun hout hno => ?_, fun hout hyes hconf => ?_, fun hout hyes hconf hlater hfull => ?_,
      fun hout hyes hconf hroom => ?_⟩
    · rw [claimArm_there (hthere.mp hin)] at hact
      refine ⟨_, (exec_armMove_takes h).trans (by rw [hact]), keeps_of_reply (by simp) (.refl _ _), ?_⟩
      have hanswers := (sendReply_serves (f := f) (s := s) (rest := rest) (p := decided .done (armStateValue n (taken rest s)) (taken rest s))
        (.refl _) rfl).2.2.2
      have hvalue : armStateValue n (taken rest s) = code s := by rw [armStateValue, taken_arm]; rfl
      rw [← hvalue]
      exact hanswers
    · rw [claimArm_refused (fun hin => hout (hthere.mpr hin)) (by rw [← Bool.not_eq_true, hallowed]; exact hno)] at hact
      exact exec_armMove_decided h (by decide) (by decide) hact
    · rw [claimArm_conflict (fun hin => hout (hthere.mpr hin)) (hallowed.mpr hyes) (by rw [← hhold, hconf])] at hact
      exact exec_armMove_decided h (by decide) (by decide) hact
    · rw [claimArm_busy (fun hin => hout (hthere.mpr hin)) (hallowed.mpr hyes) (by rw [← hhold, hconf]) (by rw [honce]; exact hlater)
        hfull] at hact
      exact exec_armMove_decided h (by decide) (by decide) hact
    · have hfree : conflicts (requestOf f).src (armClaims n) (taken rest s) = false := by rw [← hhold, hconf]
      rw [claimArm_acts (fun hin => hout (hthere.mpr hin)) (hallowed.mpr hyes) hfree
        (hroom.imp honce.mpr id)] at hact
      have hline := armMove_lineButDue f rest s n target
      have hkeeps := armMove_keeps f rest s n target
      have hreq : (armToTarget n target (supersede (requestOf f).src (armClaims n) (taken rest s))).req
          = { s.req with table := superseded } := by
        rw [hsuperseded]
        exact armToTarget_req hfree target
      have hstood : (supersede (requestOf f).src (armClaims n) (taken rest s)).arm n = s.arm n := by
        rw [supersede_arm, taken_arm]
      by_cases hnow : atOnce
      · rw [if_pos (honce.mpr hnow)] at hact
        obtain ⟨rfl, hlifted⟩ := hnow
        obtain ⟨hresume, hstowed, -⟩ := armToTarget_stow_arm (n := n)
          (s := supersede (requestOf f).src (armClaims n) (taken rest s)) (by rw [hstood, hlifted]; decide)
        have hstate := hstowed (by rw [hstood, hlifted])
        obtain ⟨t, hexec, hall, hrx, hanswers, htreq, htarm⟩ := armMove_served (target := .stow) h hact rfl hline hkeeps rfl
        rw [decided, armStateValue, hstate] at hanswers
        refine ⟨t, hexec, hall, hrx, fun _ => by rw [htarm, hresume], fun hw => (by cases hw),
          fun _ hlater => absurd ⟨rfl, hlifted⟩ hlater, fun _ => ⟨by rw [htarm, hstate], hanswers, htreq.trans hreq⟩⟩
      · rw [if_neg (by rw [honce]; exact hnow)] at hact
        obtain ⟨t, hexec, hall, hrx, hanswers, htreq, htarm⟩ := armMove_served (target := target) h hact rfl
          (hline.trans (.of_line (makeEntry_line _ _ _ _))) (hkeeps.trans ((makeEntry_keeps _ _ _ _).mono (by simp)))
          ((makeEntry_keeps _ _ _ _).arm n (by cases n <;> decide))
        have hentry : entry t target := by
          refine htreq.trans ?_
          have hmade : (makeEntry (requestOf f) (.armMove n target) (armClaims n)
              (armToTarget n target (supersede (requestOf f).src (armClaims n) (taken rest s)))).req
              = { s.req with table := superseded ++ [⟨f.src, (requestOf f).tag, .armMove n target, armClaims n, .running, 0, 0⟩] } := by
            rw [makeEntry, State.withReq_req, hreq]
            rfl
          exact hmade.trans (by rw [← hclaims])
        rw [decided, armStateValue] at hanswers
        cases target with
        | work =>
          obtain ⟨hstate, htimer, hresume⟩ := armToTarget_work_arm (n := n)
            (s := supersede (requestOf f).src (armClaims n) (taken rest s))
            (by rw [hstood]; exact fun hw => hout (.inl ⟨rfl, hw⟩))
          rw [hstood] at htimer hresume
          rw [hstate] at hanswers
          refine ⟨t, hexec, hall, hrx, fun hor => ?_, fun _ => ⟨by rw [htarm, hstate], hanswers, hentry, by rw [htarm, htimer]⟩,
            fun hw => (by cases hw), fun hw => absurd hw hnow⟩
          rw [htarm]
          exact hresume (hor.resolve_left (by decide))
        | stow =>
          obtain ⟨hresume, -, hlifts⟩ := armToTarget_stow_arm (n := n)
            (s := supersede (requestOf f).src (armClaims n) (taken rest s))
            (by rw [hstood]; exact fun hw => hout (.inr ⟨rfl, hw⟩))
          rw [hstood] at hlifts
          obtain ⟨hstate, hcommand, htimer⟩ := hlifts fun hw => hnow ⟨rfl, hw⟩
          rw [hstate] at hanswers
          exact ⟨t, hexec, hall, hrx, fun _ => by rw [htarm, hresume], fun hw => (by cases hw),
            fun _ _ => ⟨by rw [htarm, hstate], hanswers, hentry, by rw [htarm, hcommand], by rw [htarm, htimer]⟩,
            fun hw => absurd hw hnow⟩

end Sys2Proof.Machine
end

section
/-! SUPPORT. A mode change and the stow demand, part by part (R3, R79, R96, R105 to R107, R126). -/

namespace Sys2Proof.Machine

-- One thread elaborates this section, so that the check's memory limit holds the stacks.
set_option Elab.async false

/-! ### The line port -/

theorem waterModeChange_lineButDue (m : Mode) (s : State) : LineButDue s (waterModeChange m s) := by
  simp only [waterModeChange]
  split_ifs
  · exact .of_line rfl
  · exact LineButDue.trans (.of_line rfl) (stopWater_lineButDue _)
  · exact .refl s

theorem changeMode_lineButDue (m : Mode) (s : State) : LineButDue s (changeMode m s) := by
  have hswitch : LineButDue s (switchMode m s) := .of_line rfl
  have hstow : LineButDue (switchMode m s) (if stowsArms m then forArms stowDemand (switchMode m s) else switchMode m s) := by
    split
    · exact forArms_lineButDue stowDemand_lineButDue _
    · exact .refl _
  rw [changeMode_eq]
  exact ((hswitch.trans hstow).trans (waterModeChange_lineButDue m _)).trans (makeDue_lineButDue _)

theorem takeMode_lineButDue (m : Mode) (s : State) : LineButDue s (takeMode m s) := by
  unfold takeMode
  split
  · exact .refl s
  · exact changeMode_lineButDue m s

theorem demandTransport_lineButDue (s : State) : LineButDue s (demandTransport s) := by
  unfold demandTransport
  split
  · exact forArms_lineButDue stowDemand_lineButDue s
  · exact changeMode_lineButDue _ s

/-! ### The start unit -/

theorem changeMode_start (m : Mode) (s : State) : (changeMode m s).start = { s.start with mode := m } := by
  rw [changeMode_eq, makeDue_start, waterModeChange_start, (modeArms_keeps m _).1.start]
  rfl

theorem takeMode_start (m : Mode) (s : State) : (takeMode m s).start = { s.start with mode := m } := by
  unfold takeMode
  split
  · next h => rw [← h]
  · exact changeMode_start m s

theorem demandTransport_start (s : State) : (demandTransport s).start = { s.start with mode := .transport } := by
  unfold demandTransport
  split
  · next h => rw [(forArms_keeps stowDemand_keeps s).start, ← h]
  · exact changeMode_start _ s

theorem changeMode_reportDue (m : Mode) {s : State} (hrun : s.start.station = .running) :
    (changeMode m s).line.reportDue = true := by
  have hstation : (waterModeChange m (if stowsArms m then forArms stowDemand (switchMode m s) else switchMode m s)).start.station
      = .running := by
    rw [waterModeChange_start, (modeArms_keeps m _).1.start]
    exact hrun
  rw [changeMode_eq, makeDue, if_pos (.inl hstation)]
  rfl

/-! ### The ramps -/

/-- No ramp is set up. -/
def RampsUnset (sp : Setpoint) : Prop :=
  sp.drv.ramp.setUp = false ∧ (∀ n, (sp.brush n).ramp.setUp = false) ∧ sp.wtr.ramp.setUp = false

theorem rampsUnset_bankSwitch (sp : Setpoint) : RampsUnset (bankSwitch sp) := ⟨rfl, fun n => by cases n <;> rfl, rfl⟩

theorem enterArm_rampsUnset {n : ArmId} {st : ArmState} {r : Bool} {s : State} (h : RampsUnset s.sp) :
    RampsUnset (enterArm n st r s).sp := by
  obtain ⟨hdrv, hbrush, hwtr⟩ := h
  refine ⟨by rw [enterArm_drv, hdrv], fun m => ?_, by rw [enterArm_wtr, hwtr]⟩
  by_cases hm : m = n
  · subst hm
    rw [enterArm_brush]
    split
    · rfl
    · exact hbrush m
  · rw [enterArm_brush_other hm, hbrush m]

theorem stowDemand_rampsUnset {n : ArmId} {s : State} (h : RampsUnset s.sp) : RampsUnset (stowDemand n s).sp := by
  rcases stowDemand_cases n s with heq | heq | ⟨_, heq⟩ <;> rw [heq]
  · exact h
  all_goals exact enterArm_rampsUnset h

theorem forArms_stow_rampsUnset {s : State} (h : RampsUnset s.sp) : RampsUnset (forArms stowDemand s).sp := by
  simp only [forArms]
  split_ifs
  · exact stowDemand_rampsUnset (stowDemand_rampsUnset h)
  · exact stowDemand_rampsUnset h
  · exact stowDemand_rampsUnset h
  · exact h

theorem stopWater_rampsUnset {s : State} (h : RampsUnset s.sp) : RampsUnset (stopWater s).sp := by
  obtain ⟨hdrv, hbrush, hwtr⟩ := h
  refine ⟨by rw [stopWater_drv, hdrv], fun n => by rw [stopWater_brush, hbrush n], ?_⟩
  unfold stopWater
  split
  · rw [waterOff_site]
    rfl
  · exact hwtr

theorem waterModeChange_rampsUnset {m : Mode} {s : State} (h : RampsUnset s.sp) : RampsUnset (waterModeChange m s).sp := by
  simp only [waterModeChange]
  split_ifs
  · exact h
  · exact stopWater_rampsUnset h
  · exact h

theorem changeMode_rampsUnset (m : Mode) (s : State) : RampsUnset (changeMode m s).sp := by
  have hswitch : RampsUnset (switchMode m s).sp := rampsUnset_bankSwitch s.sp
  rw [changeMode_eq, makeDue_sp]
  refine waterModeChange_rampsUnset ?_
  split
  · exact forArms_stow_rampsUnset hswitch
  · exact hswitch

/-! ### The water channel -/

theorem changeMode_water (m : Mode) (s : State) : (changeMode m s).water = (waterModeChange m
    (if stowsArms m then forArms stowDemand (switchMode m s) else switchMode m s)).water := by
  rw [changeMode_eq, makeDue_water]

theorem stopWater_enable (s : State) : (stopWater s).water.enable = s.water.enable := by
  unfold stopWater
  split
  · rw [waterOff_water]
  · rfl

/-- The enable flag of SWEEP_WET (R94), and the channel out of it (R96). -/
theorem waterModeChange_water {m : Mode} {s : State} (hpop : populated .wtr s = true) :
    (waterModeChange m s).water.enable = decide (m = .sweepWet)
    ∧ (m ≠ .sweepWet → (waterModeChange m s).water.state.active = false) := by
  simp only [waterModeChange]
  rw [if_pos hpop]
  split_ifs with hwet
  · exact ⟨rfl, fun h => absurd hwet h⟩
  · exact ⟨stopWater_enable _, fun _ => stopWater_inactive _⟩

theorem changeMode_waterFollows {m : Mode} {s : State} (hpop : populated .wtr s = true) :
    (changeMode m s).water.enable = decide (m = .sweepWet)
    ∧ (m ≠ .sweepWet → (changeMode m s).water.state.active = false) := by
  rw [changeMode_water]
  refine waterModeChange_water ?_
  unfold populated at hpop ⊢
  rw [(modeArms_keeps m _).1.start]
  exact hpop

/-! ### The arms -/

theorem changeMode_arm_eq (m : Mode) (n : ArmId) (s : State) :
    (changeMode m s).arm n = (if stowsArms m then forArms stowDemand (switchMode m s) else switchMode m s).arm n := by
  rw [changeMode_eq, makeDue_arm, (waterModeChange_keeps _ _).arm n (by cases n <;> decide)]

theorem changeMode_arm_stays {m : Mode} (h : stowsArms m = false) (n : ArmId) (s : State) :
    (changeMode m s).arm n = s.arm n := by
  rw [changeMode_arm_eq, h, if_neg (by decide)]
  cases n <;> rfl

theorem changeMode_arm_stows {m : Mode} (h : stowsArms m = true) (n : ArmId) (s : State) :
    (changeMode m s).arm n = if populated (armChannel n) s then (stowDemand n s).arm n else s.arm n := by
  have harm : (switchMode m s).arm n = s.arm n := by cases n <;> rfl
  rw [changeMode_arm_eq, h, if_pos rfl, forArms_arm stowDemand_local stowDemand_determined,
    stowDemand_determined n s _ harm rfl, harm]
  rfl

/-! ### The pending table (R126) -/

theorem changeMode_req (m : Mode) (s : State) : (changeMode m s).req
    = if stowsArms m then (forArms stowDemand (switchMode m s)).req else s.req := by
  rw [changeMode_eq, makeDue_req, waterModeChange_req]
  split <;> rfl

/-- What the stow demand of an arm does to a pending entry that is no running SET_MODE TRANSPORT (R78, R79). -/
def stowMoved (n : ArmId) (s : State) (e : PendingEntry) : PendingEntry :=
  if populated (armChannel n) s then
    match (s.arm n).state with
    | .stowed => e
    | .reverseLifted => e.endedBy n (some (.failed, 0)) (some (.done, 0)) none
    | .held => if sticky (armFault n) s then e else e.endedBy n (some (.failed, 3)) none none
    | _ => e.endedBy n (some (.failed, 3)) none none
  else e

/-- The entry is no running SET_MODE TRANSPORT. -/
def NoRunningTransport (e : PendingEntry) : Prop := e.op ≠ .setTransport ∨ e.state ≠ .running

theorem endedBy_kept (e : PendingEntry) (n : ArmId) (w x y : Option (PendingState × Word)) :
    (e.endedBy n w x y).op = e.op := by
  unfold PendingEntry.endedBy
  simp only
  split
  · split <;> rfl
  · rfl

theorem endedBy_clear {e : PendingEntry} {n : ArmId} (h : ¬ (e.state = .running ∧ e.claims.hasArm n = true))
    (w x y : Option (PendingState × Word)) : e.endedBy n w x y = e := by
  unfold PendingEntry.endedBy
  simp only
  split
  · exact if_neg h
  · rfl

theorem stowMoved_clear {e : PendingEntry} {n : ArmId} (h : ¬ (e.state = .running ∧ e.claims.hasArm n = true)) (s : State) :
    stowMoved n s e = e := by
  unfold stowMoved
  simp only [endedBy_clear h]
  split
  · split
    · rfl
    · rfl
    · split <;> rfl
    · rfl
  · rfl

theorem stowMoved_op (e : PendingEntry) (n : ArmId) (s : State) : (stowMoved n s e).op = e.op := by
  unfold stowMoved
  split
  · split
    · rfl
    · exact endedBy_kept _ _ _ _ _
    · split
      · rfl
      · exact endedBy_kept _ _ _ _ _
    · exact endedBy_kept _ _ _ _ _
  · rfl

theorem stowMoved_noTransport {e : PendingEntry} (h : NoRunningTransport e) (n : ArmId) (s : State) :
    NoRunningTransport (stowMoved n s e) := by
  rcases h with hop | hrun
  · exact .inl (by rwa [stowMoved_op])
  · exact .inr (by rwa [stowMoved_clear fun hboth => hrun hboth.1])

theorem stowMoved_congr {n : ArmId} {s u : State} (hstart : u.start.role = s.start.role) (harm : u.arm n = s.arm n)
    (hfaults : u.faults = s.faults) (e : PendingEntry) : stowMoved n u e = stowMoved n s e := by
  unfold stowMoved populated
  rw [hstart, harm, sticky_congr hfaults]

/-- The last outcome speaks of SET_MODE TRANSPORT alone. -/
theorem endedBy_transport {e : PendingEntry} (h : NoRunningTransport e) (n : ArmId) (w x y : Option (PendingState × Word)) :
    e.endedBy n w x y = e.endedBy n w x none := by
  rcases h with hop | hrun
  · unfold PendingEntry.endedBy
    rcases hform : e.op with _ | ⟨m, _ | _⟩
    · exact absurd hform hop
    · rfl
    · rfl
  · rw [endedBy_clear fun hboth => hrun hboth.1, endedBy_clear fun hboth => hrun hboth.1]

/-- Each entry after the stow demand of an arm. -/
theorem stowDemand_entry {n : ArmId} {s : State} (hpop : populated (armChannel n) s = true) {i : Nat} {e : PendingEntry}
    (he : s.req.table[i]? = some e) (h : NoRunningTransport e) :
    (stowDemand n s).req.table[i]? = some (stowMoved n s e) := by
  have hlifts : (enterArm n .lifting false s).req.table[i]? = some (e.endedBy n (some (.failed, 3)) none none) := by
    rw [enterArm_lifting_req hpop]
    simp [he]
  unfold stowDemand stowMoved
  rw [if_pos hpop]
  split
  case h_1 hs => rw [hs]; exact he
  case h_5 hs =>
    rw [hs, enterArm_stowed_req]
    simp only [List.getElem?_map, he, Option.map_some]
    rw [endedBy_transport h]
  case h_6 hs =>
    rw [hs]
    have htrip : heldByTrip n s = sticky (armFault n) s := by simp [heldByTrip, hs]
    rw [htrip]
    split
    · exact he
    · exact hlifts
  all_goals
    rename_i hs
    rw [hs]
    exact hlifts

theorem armTurn_entry {n : ArmId} {s : State} {i : Nat} {e : PendingEntry} (he : s.req.table[i]? = some e)
    (h : NoRunningTransport e) : (armTurn stowDemand n s).req.table[i]? = some (stowMoved n s e) := by
  by_cases hpop : populated (armChannel n) s = true
  · rw [armTurn, if_pos hpop]
    exact stowDemand_entry hpop he h
  · rw [armTurn, if_neg hpop, he, stowMoved, if_neg hpop]

/-- Each entry after the stow demands of both arms, ARM1 before ARM2. -/
theorem forArms_stow_entry {s : State} {i : Nat} {e : PendingEntry} (he : s.req.table[i]? = some e)
    (h : NoRunningTransport e) : (forArms stowDemand s).req.table[i]? = some (stowMoved .two s (stowMoved .one s e)) := by
  obtain ⟨hfaults, -, hstart, hother⟩ := armTurn_local stowDemand_local .one s
  rw [forArms_eq_turns fun m u => (stowDemand_local m u).2.2.1, armTurn_entry (armTurn_entry he h) (stowMoved_noTransport h _ _),
    stowMoved_congr (by rw [hstart]) (hother .two (by decide)).1 hfaults]

theorem stowDemand_req_same (n : ArmId) (s : State) : (stowDemand n s).req.table.length = s.req.table.length
    ∧ (stowDemand n s).req.outgoing = s.req.outgoing := by
  rcases stowDemand_cases n s with heq | heq | ⟨_, heq⟩ <;> rw [heq]
  · exact ⟨rfl, rfl⟩
  all_goals
    rw [enterArm_req]
    exact ⟨List.length_map _, rfl⟩

theorem forArms_stow_req_same (s : State) : (forArms stowDemand s).req.table.length = s.req.table.length
    ∧ (forArms stowDemand s).req.outgoing = s.req.outgoing := by
  have hturn : ∀ n u, (armTurn stowDemand n u).req.table.length = u.req.table.length
      ∧ (armTurn stowDemand n u).req.outgoing = u.req.outgoing := fun n u => by
    unfold armTurn
    split
    · exact stowDemand_req_same n u
    · exact ⟨rfl, rfl⟩
  rw [forArms_eq_turns fun m u => (stowDemand_local m u).2.2.1]
  exact ⟨(hturn _ _).1.trans (hturn _ _).1, (hturn _ _).2.trans (hturn _ _).2⟩

/-- The demands end nothing where no entry runs on a populated arm. -/
theorem forArms_stow_req_clear {s : State} (h : ∀ n, populated (armChannel n) s = true →
      ∀ e ∈ s.req.table, ¬ (e.state = .running ∧ e.claims.hasArm n = true)) : (forArms stowDemand s).req = s.req := by
  have hturn : ∀ n u, u.req = s.req → u.start = s.start → (armTurn stowDemand n u).req = s.req := fun n u hreq hstart => by
    have hsame : populated (armChannel n) u = populated (armChannel n) s := by
      unfold populated
      rw [hstart]
    unfold armTurn
    split
    · next hpop =>
      have hclear : ∀ e ∈ u.req.table, ¬ (e.state = .running ∧ e.claims.hasArm n = true) := by
        rw [hreq]
        exact h n (hsame.symm.trans hpop)
      rcases stowDemand_cases n u with heq | heq | ⟨_, heq⟩ <;> rw [heq]
      · exact hreq
      all_goals exact (enterArm_req_clear hclear _ _).trans hreq
    · exact hreq
  rw [forArms_eq_turns fun m u => (stowDemand_local m u).2.2.1]
  exact hturn _ _ (hturn _ _ rfl rfl) (armTurn_local stowDemand_local .one s).2.2.1

end Sys2Proof.Machine
end

section
/-! SUPPORT. SET_MODE to a sweep mode or SERVICE (R108, R109, R113, R122, R124). -/

namespace Sys2Proof.Machine

-- One thread elaborates this section, so that the check's memory limit holds the stacks.
set_option Elab.async false

/-! ### Superseded entries -/

theorem supersededBy_taken (e : PendingEntry) (src : Nibble) (c : Claims) (rest : List Frame) (s : State) :
    e.supersededBy src c (taken rest s) = e.supersededBy src c s := by
  simp only [PendingEntry.supersededBy, taken_arm]

theorem supersede_taken_req (src : Nibble) (c : Claims) (rest : List Frame) (s : State) :
    (supersede src c (taken rest s)).req = { s.req with table := s.req.table.map (fun e => e.supersededBy src c s) } := by
  rw [supersede_table]
  simp only [supersededBy_taken, taken_req]

theorem supersededBy_op (e : PendingEntry) (src : Nibble) (c : Claims) (s : State) : (e.supersededBy src c s).op = e.op := by
  unfold PendingEntry.supersededBy
  split <;> rfl

theorem supersededBy_running {e : PendingEntry} {src : Nibble} {c : Claims} {s : State}
    (h : (e.supersededBy src c s).state = .running) : e.supersededBy src c s = e := by
  unfold PendingEntry.supersededBy at h ⊢
  split at h
  · cases h
  · next hown => exact if_neg hown

theorem supersededBy_other {e : PendingEntry} {src : Nibble} (h : e.requester ≠ src) (c : Claims) (s : State) :
    e.supersededBy src c s = e := if_neg fun ⟨_, hsrc, _⟩ => h hsrc

/-- A SET_MODE TRANSPORT that still holds the station mode has been superseded, where no other requester's runs. -/
theorem supersededBy_noTransport {src : Nibble} {c : Claims} {s : State} (hfree : conflicts src c s = false)
    {e : PendingEntry} (he : e ∈ s.req.table) (h : e.op ≠ .setTransport ∨ e.claims.overlap c = true) :
    NoRunningTransport (e.supersededBy src c s) := by
  rcases h with hop | hover
  · exact .inl (by rwa [supersededBy_op])
  · refine .inr fun hrun => supersededBy_clear hfree he ⟨hrun, ?_⟩
    rwa [supersededBy_running hrun]

theorem overlap_stationMode (c : Claims) : c.overlap ⟨true, false, false⟩ = c.stationMode := by
  simp [Claims.overlap]

/-- A running ARM_MOVE WORK of another requester fails at the stow demand of its arm (R78). -/
theorem stowMoved_fails {n : ArmId} {s : State} {e : PendingEntry} (hpop : populated (armChannel n) s = true)
    (hrun : e.state = .running) (hop : e.op = .armMove n .work) (hclaims : e.claims = armClaims n)
    (hstate : (s.arm n).state = .lowering ∨ (s.arm n).state = .working ∨ (s.arm n).state = .lifting) :
    stowMoved .two s (stowMoved .one s e) = { e with state := .failed, value := 3, claims := ⟨false, false, false⟩ } := by
  have hends : stowMoved n s e = { e with state := .failed, value := 3, claims := ⟨false, false, false⟩ } := by
    have hfails : e.endedBy n (some (.failed, 3)) none none
        = { e with state := .failed, value := 3, claims := ⟨false, false, false⟩ } := by
      rw [PendingEntry.endedBy, hop]
      exact if_pos ⟨hrun, by rw [hclaims]; cases n <;> rfl⟩
    rw [stowMoved, if_pos hpop]
    rcases hstate with hs | hs | hs <;> rw [hs] <;> exact hfails
  cases n with
  | one =>
    rw [hends]
    exact stowMoved_clear (by simp) s
  | two =>
    rw [stowMoved_clear (n := .one) (by simp [hclaims, armClaims, Claims.hasArm])]
    exact hends

/-! ### The tests (R122) -/

theorem ofCode?_eq_some {k : Nat} {m : Mode} (h : Mode.ofCode? k = some m) : k = m.code := by
  unfold Mode.ofCode? at h
  split at h <;> simp_all <;> subst h <;> rfl

theorem modeArg_none {args : List Byte} (h : ∀ m : Mode, args ≠ [BitVec.ofNat 8 m.code]) : modeArg args = none := by
  unfold modeArg
  split
  · next b =>
    rw [Option.eq_none_iff_forall_ne_some]
    intro m hm
    refine h m ?_
    rw [← ofCode?_eq_some hm]
    simp
  · rfl

theorem serviceAllowed_iff {b : StartBlock} {s : State} (himage : s.start.image = some b) : serviceAllowed s = true
    ↔ (populated .drv s = true → s.drive.state = .parked)
      ∧ (viewTravel s).quality ≠ .bad ∧ (viewTravel s).value.natAbs ≤ b.drive.stopSpeed := by
  simp [serviceAllowed, himage, and_assoc, imp_iff_not_or]

section
variable {r : Request} {m : Mode} {s : State}

theorem actSetMode_refused (hm : modeArg r.args = some m) (hrun : s.start.station = .running)
    (h : m = .service ∧ serviceAllowed s = false) : actSetMode r s = decided .refused (modeValue s) s := by
  simp [actSetMode, hm, hrun, h]

theorem actSetMode_claims (hm : modeArg r.args = some m) (hrun : s.start.station = .running)
    (h : ¬ (m = .service ∧ serviceAllowed s = false)) : actSetMode r s = claimMode r m s := by
  rw [actSetMode, hm]
  simp only [hrun]
  rw [if_neg (by simp), if_neg h]

theorem claimMode_conflict (h : conflicts r.src (modeClaims m s) s = true) :
    claimMode r m s = decided .conflict (modeValue s) s := if_pos h

theorem claimMode_takes (hm : m ≠ .transport) (h : conflicts r.src ⟨true, false, false⟩ s = false) :
    claimMode r m s = decided .done (modeValue (takeMode m (supersede r.src ⟨true, false, false⟩ s)))
      (takeMode m (supersede r.src ⟨true, false, false⟩ s)) := by
  have hclaims : modeClaims m s = ⟨true, false, false⟩ := if_neg hm
  rw [claimMode, hclaims, if_neg (by simp [h]), if_neg (fun hboth => hm hboth.1)]
  exact if_neg hm

end

section
variable {f : Frame} {rest : List Frame} {s : State}

theorem exec_setMode_decided {result : Result} (h : Takes kindSetMode f rest s) (hdone : result ≠ .done)
    (hfailed : result ≠ .failed) (hact : actSetMode (requestOf f) (taken rest s) = decided result (modeValue s) (taken rest s)) :
    exec .setMode s = .next (onlyAnswered f rest result (BitVec.ofNat 16 s.start.mode.code) s) := by
  rw [exec_setMode_takes h, hact, sendReply_decided hdone hfailed]
  rfl

theorem sendReply_reportDue (r : Request) (p : Reply) : (sendReply r p).line.reportDue = p.state.line.reportDue := by
  rw [sendReply_eq]
  rfl

theorem taken_viewTravel : viewTravel (taken rest s) = viewTravel s :=
  (sameView_of_keeps (n := .one) ((taken_keeps rest s).mono (by simp))).viewTravel

end

/-- What a SET_MODE that acts leaves, by the state of its reply. -/
structure ModeServed (f : Frame) (rest : List Frame) (p : Reply) (s t : State) : Prop where
  keeps : KeepsAllBut [.start, .line, .req, .sp, .arm1, .arm2, .water] s t
  rx : t.line.rx = rest
  answers : Answers f p.result p.value s t
  start : t.start = p.state.start
  due : t.line.reportDue = p.state.line.reportDue
  sp : t.sp = p.state.sp
  req : t.req = p.state.req
  water : t.water = p.state.water
  arm : ∀ n, t.arm n = p.state.arm n

theorem setMode_served {f : Frame} {rest : List Frame} {s : State} {p : Reply} (h : Takes kindSetMode f rest s)
    (hact : actSetMode (requestOf f) (taken rest s) = p) (hrestarts : p.restarts = false)
    (hline : LineButDue (taken rest s) p.state)
    (hkeeps : KeepsAllBut [.start, .line, .req, .sp, .arm1, .arm2, .water] (taken rest s) p.state) :
    ∃ t, exec .setMode s = .next t ∧ ModeServed f rest p s t := by
  obtain ⟨hrx, -, -, hanswers⟩ := sendReply_serves (f := f) hline hrestarts
  have hsend := sendReply_keeps (requestOf f) p
  exact ⟨_, (exec_setMode_takes h).trans (by rw [hact]),
    { keeps := keeps_of_reply (by simp) hkeeps
      rx := hrx
      answers := hanswers
      start := hsend.start
      due := sendReply_reportDue _ p
      sp := hsend.sp
      req := hsend.req
      water := hsend.water
      arm := fun n => hsend.arm n (by cases n <;> decide) }⟩

theorem takeMode_other {m : Mode} {s : State} (h : s.start.mode ≠ m) : takeMode m s = changeMode m s := if_neg h

theorem takeMode_same {m : Mode} {s : State} (h : s.start.mode = m) : takeMode m s = s := if_pos h

/-- The entries after a change to SERVICE (R79, R126). -/
theorem changeMode_service_entry {s : State} {i : Nat} {e : PendingEntry} (he : s.req.table[i]? = some e)
    (h : NoRunningTransport e) : (changeMode .service s).req.table[i]? = some (stowMoved .two s (stowMoved .one s e)) := by
  have hsame : ∀ n e, stowMoved n (switchMode .service s) e = stowMoved n s e := fun n e =>
    stowMoved_congr rfl (by cases n <;> rfl) rfl e
  rw [changeMode_req, if_pos (by decide), forArms_stow_entry (s := switchMode .service s) he h, hsame, hsame]

theorem changeMode_service_req (s : State) : (changeMode .service s).req.table.length = s.req.table.length
    ∧ (changeMode .service s).req.outgoing = s.req.outgoing := by
  rw [changeMode_req, if_pos (by decide)]
  exact forArms_stow_req_same (switchMode .service s)

/-- Settles O34: the tests of SET_MODE in their order, and a change of mode part by part. -/
theorem setModeToSweepOrService : Obligations.SetModeToSweepOrService := by
  refine ⟨fun s f rest h hrun hargs => ?_, fun s f rest m b h hm hne hrun himage => ?_⟩
  · exact exec_setMode_decided h (by decide) (by decide) (by rw [actSetMode, modeArg_none hargs]; rfl)
  intro held allowed
  have hheld : held = conflicts (requestOf f).src ⟨true, false, false⟩ (taken rest s) := by
    simp only [conflicts, overlap_stationMode]
    rfl
  have hmode : ¬ (m = .service ∧ serviceAllowed (taken rest s) = false) ↔ allowed := by
    rw [not_and, Bool.not_eq_false, serviceAllowed_iff (s := taken rest s) himage, taken_viewTravel]
    rfl
  have hclaims : modeClaims m (taken rest s) = ⟨true, false, false⟩ := if_neg hne
  refine ⟨fun hno => ?_, fun hyes hconf => ?_, fun hyes hfree => ?_⟩
  · rw [← hmode, not_not] at hno
    exact exec_setMode_decided h (by decide) (by decide) (actSetMode_refused hm hrun hno)
  · refine exec_setMode_decided h (by decide) (by decide) ?_
    rw [actSetMode_claims (s := taken rest s) hm hrun (hmode.mpr hyes), claimMode_conflict (by rw [hclaims, ← hheld, hconf])]
    rfl
  · have hfree : conflicts (requestOf f).src ⟨true, false, false⟩ (taken rest s) = false := by rw [← hheld, hfree]
    have hact := actSetMode_claims (s := taken rest s) hm hrun (hmode.mpr hyes)
    rw [claimMode_takes hne hfree] at hact
    have hureq := supersede_taken_req f.src ⟨true, false, false⟩ rest s
    have hukeeps := supersede_keeps f.src ⟨true, false, false⟩ (taken rest s)
    have hstood : ∀ n, (supersede f.src ⟨true, false, false⟩ (taken rest s)).arm n = s.arm n := fun n => by
      rw [supersede_arm, taken_arm]
    have hclear : ∀ e ∈ s.req.table, (e.op ≠ .setTransport ∨ e.claims.stationMode = true) →
        NoRunningTransport (e.supersededBy f.src ⟨true, false, false⟩ s) := fun e he hor => by
      rw [← supersededBy_taken (rest := rest)]
      exact supersededBy_noTransport (s := taken rest s) hfree he (by rwa [overlap_stationMode])
    have huline : (supersede f.src ⟨true, false, false⟩ (taken rest s)).line = (taken rest s).line := hukeeps.line
    have hustart : (supersede f.src ⟨true, false, false⟩ (taken rest s)).start = s.start := hukeeps.start
    have husp : (supersede f.src ⟨true, false, false⟩ (taken rest s)).sp = s.sp := hukeeps.sp
    have huwater : (supersede f.src ⟨true, false, false⟩ (taken rest s)).water = s.water := hukeeps.water
    have hufaults : (supersede f.src ⟨true, false, false⟩ (taken rest s)).faults = s.faults := hukeeps.faults
    change actSetMode (requestOf f) (taken rest s) = decided .done
      (modeValue (takeMode m (supersede f.src ⟨true, false, false⟩ (taken rest s))))
      (takeMode m (supersede f.src ⟨true, false, false⟩ (taken rest s))) at hact
    have hukeeps' : KeepsAllBut [.start, .line, .req, .sp, .arm1, .arm2, .water] (taken rest s)
      (supersede f.src ⟨true, false, false⟩ (taken rest s)) := hukeeps.mono
    generalize supersede f.src ⟨true, false, false⟩ (taken rest s) = u at hact hureq hstood huline hustart husp huwater hufaults hukeeps'
    obtain ⟨t, hexec, ht⟩ := setMode_served h hact rfl (LineButDue.trans (.of_line huline) (takeMode_lineButDue m u))
      (hukeeps'.trans (takeMode_keeps m u))
    have hupop : ∀ c, populated c u = populated c s := fun c => by
      unfold populated
      rw [hustart]
    have hother : s.start.mode ≠ m → takeMode m u = changeMode m u := fun hchange => takeMode_other (by rwa [hustart])
    have hsame : s.start.mode = m → takeMode m u = u := fun hchange => takeMode_same (by rwa [hustart])
    have hsp : t.sp = (takeMode m u).sp := ht.sp
    have hreq : t.req = (takeMode m u).req := ht.req
    have hwater : t.water = (takeMode m u).water := ht.water
    have harm : ∀ n, t.arm n = (takeMode m u).arm n := ht.arm
    have hanswers : Answers f .done (modeValue (takeMode m u)) s t := ht.answers
    rw [modeValue, takeMode_start] at hanswers
    have hentry : m = .service → s.start.mode ≠ .service → ∀ (i : Nat) (e : PendingEntry), s.req.table[i]? = some e →
        e.op ≠ .setTransport ∨ e.claims.stationMode = true →
        t.req.table[i]? = some (stowMoved .two s (stowMoved .one s (e.supersededBy f.src ⟨true, false, false⟩ s))) :=
      fun hservice hchange i e he hor => by
        subst hservice
        have hue : u.req.table[i]? = some (e.supersededBy f.src ⟨true, false, false⟩ s) := by
          rw [hureq]
          simp [he]
        have hmoved : ∀ n e, stowMoved n u e = stowMoved n s e := fun n e =>
          stowMoved_congr (by rw [hustart]) (hstood n) hufaults e
        rw [hreq, hother hchange, changeMode_service_entry hue (hclear e (List.mem_of_getElem? he) hor), hmoved, hmoved]
    refine ⟨t, hexec, ht.keeps, ?_, ht.rx, hanswers, fun r hr hchange => ?_, fun hchange => ?_, ?_, fun hno => ?_, fun hor => ?_,
      fun hservice hchange => ?_, fun hservice hchange n hpop => ?_, fun hservice hchange n e hpop he hrun' hsrc hop hcl hstate => ?_,
      fun hwet hchange hpop => ?_, fun hdry hchange hpop => ?_, fun heq => ?_⟩
    · exact ht.start.trans ((takeMode_start m u).trans (by rw [hustart]))
    · rw [hsp, hother hchange] at hr
      obtain ⟨hdrv, hbrush, hwtr⟩ := changeMode_rampsUnset m u
      simp only [List.mem_cons, List.not_mem_nil, or_false] at hr
      rcases hr with rfl | rfl | rfl | rfl
      · exact hdrv
      · exact hwtr
      · exact hbrush .one
      · exact hbrush .two
    · have hdue : t.line.reportDue = (takeMode m u).line.reportDue := ht.due
      rw [hdue, hother hchange]
      exact changeMode_reportDue m (by rw [hustart]; exact hrun)
    · by_cases hchange : s.start.mode = m
      · rw [hsp, hsame hchange, husp]
      · rw [hsp, hother hchange, changeMode_drvOut, husp]
    · have hstay : ∀ n, t.arm n = s.arm n := fun n => by
        rw [harm, ← hstood n]
        by_cases hchange : s.start.mode = m
        · rw [hsame hchange]
        · rw [hother hchange, changeMode_arm_stays (by simp [stowsArms, hne, hno])]
      exact ⟨hstay .one, hstay .two⟩
    · rw [hreq, ← hureq]
      by_cases hchange : s.start.mode = m
      · rw [hsame hchange]
      · have hno : m ≠ .service := fun hms => hor.elim (fun hn => hn hms) fun hs => hchange (hs.trans hms.symm)
        rw [hother hchange, changeMode_req, if_neg (by simp [stowsArms, hne, hno])]
    · intro moved
      have hmoved : ∀ n e, moved n e = stowMoved n s e := fun n e => rfl
      subst hservice
      obtain ⟨hlength, hout⟩ := changeMode_service_req u
      rw [hreq, hother hchange]
      refine ⟨by rw [hlength, hureq, List.length_map], by rw [hout, hureq], fun i e he hor => ?_⟩
      rw [hmoved, hmoved, ← hentry rfl hchange i e he hor, hreq, hother hchange]
    · subst hservice
      have hupopn : populated (armChannel n) u = true := (hupop _).trans hpop
      rw [harm, hother hchange, changeMode_arm_stows (by decide), if_pos hupopn, stowDemand_state]
      cases (u.arm n).state <;> cases heldByTrip n u <;> decide
    · obtain ⟨i, hi⟩ := List.mem_iff_getElem?.mp he
      have hcl' : e.claims = armClaims n := by rw [hcl]; cases n <;> rfl
      refine List.mem_of_getElem? (i := i) ?_
      rw [hentry hservice hchange i e hi (.inl (by rw [hop]; simp)), supersededBy_other hsrc,
        stowMoved_fails hpop hrun' hop hcl' hstate]
    · subst hwet
      rw [hwater, hother hchange, (changeMode_waterFollows ((hupop _).trans hpop)).1]
      rfl
    · obtain ⟨henable, hactive⟩ := changeMode_waterFollows (m := m) ((hupop .wtr).trans hpop)
      rw [hwater, hother hchange]
      exact ⟨by rw [henable, decide_eq_false hdry], hactive hdry⟩
    · have hstay : ∀ n, t.arm n = s.arm n := fun n => by rw [harm, hsame heq, hstood]
      exact ⟨by rw [hwater, hsame heq, huwater], hstay .one, hstay .two, by rw [hsp, hsame heq, husp]⟩

end Sys2Proof.Machine
end

section
/-! SUPPORT. SET_MODE TRANSPORT (R79, R109 to R111, R122, R124). -/

namespace Sys2Proof.Machine

-- One thread elaborates this section, so that the check's memory limit holds the stacks.
set_option Elab.async false

/-! ### What the demand leaves of the arms -/

theorem stowDemand_lifting_resume {n : ArmId} {s : State} (h : ((stowDemand n s).arm n).state = .lifting) :
    ((stowDemand n s).arm n).resume = false := by
  have henter : ∀ st, ((enterArm n st false s).arm n).resume = false := fun st => (enterArm_state n st false s).2
  unfold stowDemand at h ⊢
  split at h
  case h_1 hs => rw [hs] at h; cases h
  case h_6 hs =>
    split at h
    · rw [hs] at h; cases h
    · next htrip => rw [if_neg htrip]; exact henter _
  all_goals exact henter _

theorem stowDemand_of_lifting {n : ArmId} {s : State} (h : (s.arm n).state = .lifting) :
    ((stowDemand n s).arm n).moveTimer = (s.arm n).moveTimer := by
  rw [stowDemand, h, enterArm_arm]
  simp [Arm.entered, moveTimerAfter, h]

theorem stowDemand_of_working {n : ArmId} {s : State} (h : (s.arm n).state = .working) :
    ((stowDemand n s).arm n).command = 0 := by
  rw [stowDemand, h, enterArm_arm]
  simp [h]

theorem demandTransport_state {n : ArmId} {s : State} (hpop : populated (armChannel n) s = true) :
    ((demandTransport s).arm n).state = stowedState (s.arm n).state (heldByTrip n s) := by
  rw [demandTransport_arm, if_pos hpop, stowDemand_state]

/-- An arm is HELD after the demand where its trip held it before (R79, R85). -/
theorem stowedState_held {st : ArmState} {trip : Bool} (h : stowedState st trip = .held) : st = .held ∧ trip = true := by
  revert h
  cases st <;> cases trip <;> decide

theorem demandTransport_heldByTrip {n : ArmId} {s : State} (hpop : populated (armChannel n) s = true) :
    heldByTrip n (demandTransport s) = true ↔ ((demandTransport s).arm n).state = .held := by
  rw [heldByTrip, Bool.and_eq_true, decide_eq_true_eq, and_iff_left_iff_imp]
  intro h
  rw [demandTransport_state hpop] at h
  obtain ⟨-, htrip⟩ := stowedState_held h
  rw [sticky_congr (demandTransport_keeps s).faults]
  rw [heldByTrip, Bool.and_eq_true] at htrip
  exact htrip.2

theorem demandTransport_someArmTripped (s : State) : someArmTripped (demandTransport s) = true
    ↔ ∃ n, populated (armChannel n) s = true ∧ ((demandTransport s).arm n).state = .held := by
  rw [someArmTripped_iff]
  refine exists_congr fun n => ?_
  rw [demandTransport_populated]
  exact and_congr_right fun hpop => demandTransport_heldByTrip hpop

theorem demandTransport_allStowed_iff (s : State) : allStowed (demandTransport s) = true
    ↔ ∀ n, populated (armChannel n) s = true → ((demandTransport s).arm n).state = .stowed := by
  rw [allStowed_iff]
  exact forall_congr' fun n => by rw [demandTransport_populated]

/-! ### The entries -/

/-- The demand ends nothing where no entry runs on a populated arm. -/
theorem demandTransport_req {s : State} (h : ∀ n, populated (armChannel n) s = true →
      ∀ e ∈ s.req.table, ¬ (e.state = .running ∧ e.claims.hasArm n = true)) : (demandTransport s).req = s.req := by
  unfold demandTransport
  split
  · exact forArms_stow_req_clear h
  · rw [changeMode_req, if_pos (by decide)]
    exact forArms_stow_req_clear (s := switchMode .transport s) h

theorem modeClaims_hasArm {n : ArmId} {s : State} (hpop : populated (armChannel n) s = true) (c : Claims)
    (h : c.hasArm n = true) : c.overlap (modeClaims .transport s) = true := by
  have hclaims : modeClaims .transport s = ⟨true, populated .arm1 s, populated .arm2 s⟩ := if_pos rfl
  rw [hclaims]
  cases n with
  | one =>
    have hpop1 : populated .arm1 s = true := hpop
    have h1 : c.arm1 = true := h
    simp [Claims.overlap, hpop1, h1]
  | two =>
    have hpop2 : populated .arm2 s = true := hpop
    have h2 : c.arm2 = true := h
    simp [Claims.overlap, hpop2, h2]

/-! ### The tests (R110, R122) -/

theorem transportNeedsEntry_iff (s : State) : transportNeedsEntry s = true
    ↔ (∃ n, populated (armChannel n) s = true ∧ (s.arm n).state ≠ .stowed ∧ (s.arm n).state ≠ .reverseLifted)
      ∧ ∀ n, populated (armChannel n) s = true → ¬ ((s.arm n).state = .held ∧ sticky (armFault n) s = true) := by
  rw [transportNeedsEntry, Bool.not_eq_true', Bool.or_eq_false_iff, ← Bool.not_eq_true, ← Bool.not_eq_true, stowsAtOnce_iff,
    someArmTripped_iff]
  simp [heldByTrip]

section
variable {r : Request} {c : Claims} {s : State}

theorem claimMode_busy (hfree : conflicts r.src (modeClaims .transport s) s = false) (hneeds : transportNeedsEntry s = true)
    (hfull : 4 ≤ s.req.table.length) : claimMode r .transport s = decided .busy (modeValue s) s := by
  rw [claimMode, if_neg (by simp [hfree]), if_pos ⟨rfl, hneeds, by simpa [tableFull] using hfull⟩]

theorem claimMode_transport (hfree : conflicts r.src (modeClaims .transport s) s = false)
    (hroom : transportNeedsEntry s = true → s.req.table.length < 4) : claimMode r .transport s
      = actTransport r (modeClaims .transport s) (supersede r.src (modeClaims .transport s) s) := by
  rw [claimMode, if_neg (by simp [hfree]), if_neg]
  · rfl
  · rintro ⟨-, hneeds, hfull⟩
    have := hroom hneeds
    simp [tableFull] at hfull
    omega

theorem actTransport_done (h : allStowed (demandTransport s) = true) :
    actTransport r c s = decided .done (modeValue (demandTransport s)) (demandTransport s) := if_pos h

theorem actTransport_failed (h : allStowed (demandTransport s) = false) (htrip : someArmTripped (demandTransport s) = true) :
    actTransport r c s = decided .failed (modeValue (demandTransport s)) (demandTransport s) := by
  have hfirst : ¬ allStowed (demandTransport s) = true := by simp [h]
  exact (if_neg hfirst).trans (if_pos htrip)

theorem actTransport_pending (h : allStowed (demandTransport s) = false) (htrip : someArmTripped (demandTransport s) = false) :
    actTransport r c s = decided .pending (modeValue (demandTransport s)) (makeEntry r .setTransport c (demandTransport s)) := by
  have hfirst : ¬ allStowed (demandTransport s) = true := by simp [h]
  have hsecond : ¬ someArmTripped (demandTransport s) = true := by simp [htrip]
  exact (if_neg hfirst).trans (if_neg hsecond)

/-- Whatever its answer, the act leaves the demand's state, but for an entry made. -/
theorem actTransport_state (r : Request) (c : Claims) (s : State) : (actTransport r c s).restarts = false
    ∧ (actTransport r c s).value = modeValue (demandTransport s)
    ∧ KeepsAllBut [.req] (demandTransport s) (actTransport r c s).state := by
  cases hstowed : allStowed (demandTransport s)
  · cases htrip : someArmTripped (demandTransport s)
    · rw [actTransport_pending hstowed htrip]
      exact ⟨rfl, rfl, makeEntry_keeps _ _ _ _⟩
    · rw [actTransport_failed hstowed htrip]
      exact ⟨rfl, rfl, .refl _ _⟩
  · rw [actTransport_done hstowed]
    exact ⟨rfl, rfl, .refl _ _⟩

end

/-- The demand's state of one arm, as R79 lists it. -/
theorem stowedState_eq (n : ArmId) (s : State) : stowedState (s.arm n).state (heldByTrip n s)
    = match (s.arm n).state with
      | .stowed => .stowed
      | .lowering => .lifting
      | .working => .lifting
      | .lifting => .lifting
      | .reverseLifted => .stowed
      | .held => if sticky (armFault n) s then .held else .lifting := by
  unfold heldByTrip
  cases hs : (s.arm n).state <;> rfl

theorem modeValue_transport {s : State} (h : s.start.mode = .transport) : modeValue s = 0 := by
  rw [modeValue, h]
  rfl

/-- Settles O35: the tests of SET_MODE TRANSPORT in their order, the stow demand, and the three ends of its judgement. -/
theorem setModeTransportStowsTheArms : Obligations.SetModeTransportStowsTheArms := by
  intro s f rest h hm hrun claims conflict needsEntry superseded
  have hclaims : modeClaims .transport (taken rest s) = claims := if_pos rfl
  have hconflict : conflicts (requestOf f).src (modeClaims .transport (taken rest s)) (taken rest s) = true ↔ conflict := by
    rw [hclaims]
    exact conflicts_iff _ _ _
  have hneeds : transportNeedsEntry (taken rest s) = true ↔ needsEntry := by
    rw [transportNeedsEntry_iff]
    simp only [taken_arm]
    rfl
  have hact := actSetMode_claims (s := taken rest s) hm hrun (fun hboth => by cases hboth.1)
  refine ⟨fun hyes => ?_, fun hno hneed hfull => ?_, fun hno hroom => ?_⟩
  · rw [claimMode_conflict (hconflict.mpr hyes)] at hact
    exact exec_setMode_decided h (by decide) (by decide) hact
  · rw [claimMode_busy (by rw [← Bool.not_eq_true, hconflict]; exact hno) (hneeds.mpr hneed) hfull] at hact
    exact exec_setMode_decided h (by decide) (by decide) hact
  · have hfree : conflicts (requestOf f).src (modeClaims .transport (taken rest s)) (taken rest s) = false := by
      rw [← Bool.not_eq_true, hconflict]
      exact hno
    rw [claimMode_transport hfree fun hneed => hroom (hneeds.mp hneed)] at hact
    have hureq : (supersede (requestOf f).src (modeClaims .transport (taken rest s)) (taken rest s)).req = superseded [] := by
      rw [hclaims, supersede_taken_req]
      simp only [superseded, List.append_nil]
      rfl
    have hclear : ∀ n, populated (armChannel n) s = true →
        ∀ e ∈ (supersede (requestOf f).src (modeClaims .transport (taken rest s)) (taken rest s)).req.table,
          ¬ (e.state = .running ∧ e.claims.hasArm n = true) := fun n hpop e he => by
      rw [supersede_table] at he
      obtain ⟨x, hx, rfl⟩ := List.mem_map.mp he
      exact fun ⟨hrunning, harm⟩ => supersededBy_clear hfree hx ⟨hrunning, modeClaims_hasArm (s := taken rest s) hpop _ harm⟩
    have hstood : ∀ n, (supersede (requestOf f).src (modeClaims .transport (taken rest s)) (taken rest s)).arm n = s.arm n :=
      fun n => by rw [supersede_arm, taken_arm]
    have hukeeps := supersede_keeps (requestOf f).src (modeClaims .transport (taken rest s)) (taken rest s)
    generalize supersede (requestOf f).src (modeClaims .transport (taken rest s)) (taken rest s) = u
      at hact hureq hclear hstood hukeeps
    rw [hclaims] at hact
    have hustart : u.start = s.start := hukeeps.start
    have husp : u.sp = s.sp := hukeeps.sp
    have huwater : u.water = s.water := hukeeps.water
    have hufaults : u.faults = s.faults := hukeeps.faults
    have hupop : ∀ c, populated c u = populated c s := fun c => by
      unfold populated
      rw [hustart]
    have hwreq : (demandTransport u).req = superseded [] := by
      rw [demandTransport_req fun n hpop => hclear n ((hupop _).symm.trans hpop), hureq]
    obtain ⟨hrestarts, hvalue, hmade⟩ := actTransport_state (requestOf f) claims u
    have hukeeps' : KeepsAllBut [.start, .line, .req, .sp, .arm1, .arm2, .water] (taken rest s) u := hukeeps.mono
    obtain ⟨t, hexec, ht⟩ := setMode_served h hact hrestarts
      (((LineButDue.of_line hukeeps.line).trans (demandTransport_lineButDue u)).trans (.of_line hmade.line))
      ((hukeeps'.trans (demandTransport_keeps u)).trans hmade.mono)
    have hanswers := ht.answers
    have htreq := ht.req
    have hstart : t.start = (demandTransport u).start := ht.start.trans hmade.start
    have hdue : t.line.reportDue = (demandTransport u).line.reportDue := ht.due.trans (by rw [hmade.line])
    have hsp : t.sp = (demandTransport u).sp := ht.sp.trans hmade.sp
    have hwater : t.water = (demandTransport u).water := ht.water.trans hmade.water
    have harm : ∀ n, t.arm n = (demandTransport u).arm n := fun n =>
      (ht.arm n).trans (hmade.arm n (by cases n <;> decide))
    rw [hvalue, modeValue_transport (by rw [demandTransport_start])] at hanswers
    have htrip : ∀ n, heldByTrip n u = heldByTrip n s := fun n => heldByTrip_congr (hstood n) hufaults
    have hdemand : ∀ n, populated (armChannel n) s = true → t.arm n = (stowDemand n u).arm n := fun n hpop => by
      rw [harm, demandTransport_arm, if_pos ((hupop _).trans hpop)]
    have hstowed : allStowed (demandTransport u) = true ↔ ∀ n, populated (armChannel n) s = true → (t.arm n).state = .stowed := by
      rw [demandTransport_allStowed_iff]
      exact forall_congr' fun n => by rw [hupop, harm]
    have htripped : someArmTripped (demandTransport u) = true
        ↔ ∃ n, populated (armChannel n) s = true ∧ (t.arm n).state = .held := by
      rw [demandTransport_someArmTripped]
      exact exists_congr fun n => by rw [hupop, harm]
    refine ⟨t, hexec, ht.keeps, ?_, ht.rx, fun n hpop => ⟨?_, fun hl => ?_, fun hl => ?_, fun hw => ?_⟩, fun n hpop => ?_,
      fun hall => ?_, fun hheld => ?_, fun hlifts hnone => ?_, fun hchange => ?_, fun hsame => ?_⟩
    · rw [hstart, demandTransport_start, hustart]
    · rw [hdemand n hpop, stowDemand_state, hstood, htrip, stowedState_eq] <;> rfl
    · rw [hdemand n hpop] at hl ⊢
      exact stowDemand_lifting_resume hl
    · rw [hdemand n hpop, stowDemand_of_lifting (by rw [hstood]; exact hl), hstood]
    · rw [hdemand n hpop, stowDemand_of_working (by rw [hstood]; exact hw)]
    · rw [harm, demandTransport_arm, if_neg (by rw [hupop, hpop]; decide), hstood]
    · rw [actTransport_done (hstowed.mpr hall)] at hanswers htreq
      exact ⟨hanswers, htreq.trans hwreq⟩
    · have hnot : allStowed (demandTransport u) = false := by
        rw [← Bool.not_eq_true, hstowed]
        obtain ⟨n, hpop, hn⟩ := hheld
        exact fun hall => by
          have := hall n hpop
          rw [hn] at this
          cases this
      rw [actTransport_failed hnot (htripped.mpr hheld)] at hanswers htreq
      exact ⟨hanswers, htreq.trans hwreq⟩
    · have hnot : allStowed (demandTransport u) = false := by
        rw [← Bool.not_eq_true, hstowed]
        obtain ⟨n, hpop, hn⟩ := hlifts
        exact fun hall => by
          have := hall n hpop
          rw [hn] at this
          cases this
      have hfalse : someArmTripped (demandTransport u) = false := by
        rw [← Bool.not_eq_true, htripped]
        rintro ⟨n, hpop, hn⟩
        exact hnone n hpop hn
      rw [actTransport_pending hnot hfalse] at hanswers htreq
      refine ⟨hanswers, htreq.trans ?_⟩
      rw [decided, makeEntry, State.withReq_req, hwreq]
      simp only [superseded, List.append_nil]
      rfl
    · have hchanged : demandTransport u = changeMode .transport u := if_neg (by rw [hustart]; exact hchange)
      obtain ⟨hdrv, hbrush, hwtr⟩ := changeMode_rampsUnset .transport u
      rw [hsp, hdue, hwater, hchanged]
      refine ⟨fun r hr => ?_, ?_, changeMode_reportDue _ (by rw [hustart]; exact hrun), fun hpop => ?_⟩
      · simp only [List.mem_cons, List.not_mem_nil, or_false] at hr
        rcases hr with rfl | rfl | rfl | rfl
        · exact hdrv
        · exact hbrush .one
        · exact hbrush .two
        · exact hwtr
      · rw [changeMode_drvOut, husp]
      · obtain ⟨henable, hactive⟩ := changeMode_waterFollows (m := .transport) ((hupop .wtr).trans hpop)
        exact ⟨henable, hactive (by decide)⟩
    · have hkept : demandTransport u = forArms stowDemand u := if_pos (by rw [hustart]; exact hsame)
      rw [hsp, hwater, hkept, (forArms_keeps stowDemand_keeps u).water, forArms_drv stowDemand_drv, forArms_wtr stowDemand_wtr,
        husp, huwater]
      exact ⟨rfl, rfl, rfl⟩

end Sys2Proof.Machine
end

section
/-! SUPPORT. Requests that no block takes: UNKNOWN, and REFUSED outside RUNNING (R119, R121, R122). -/

namespace Sys2Proof.Machine

-- One thread elaborates this section, so that the check's memory limit holds the stacks.
set_option Elab.async false

/-! ### REFUSED outside RUNNING -/

section
variable {r : Request} {s : State}

theorem actSetMode_outside (h : s.start.station ≠ .running) : actSetMode r s = decided .refused (modeValue s) s := by
  rw [actSetMode]
  split
  · rfl
  · exact if_pos h

theorem actArmMove_outside {n : ArmId} (harm : armArg r.args = some n) (hpop : populated (armChannel n) s = true)
    (h : s.start.station ≠ .running) : actArmMove r s = decided .refused (armStateValue n s) s := by
  rw [actArmMove, harm]
  simp only [hpop]
  rw [if_neg (by simp)]
  split
  · rfl
  · exact if_pos h

theorem actWaterSet_outside (hpop : populated .wtr s = true) (h : s.start.station ≠ .running) :
    actWaterSet r s = decided .refused (enableValue s) s := by
  rw [actWaterSet, if_neg (by simp [hpop])]
  split
  · rfl
  · exact if_pos (.inl h)

theorem actTrimSet_outside {n : ArmId} (hbrush : brushArg r.args = some n) (hpop : populated (brushChannel n) s = true)
    (h : s.start.station ≠ .running) : actTrimSet r s = decided .refused 0 s := by
  rw [actTrimSet, hbrush]
  simp only [hpop]
  rw [if_neg (by simp)]
  split
  · rfl
  · exact if_pos h

theorem actFaultClear_outside (h : s.start.station ≠ .running) :
    actFaultClear r s = decided .refused s.faults.sticky s := by
  rw [actFaultClear]
  split
  · rfl
  · exact if_pos h

end

/-- An ARM_MOVE that names no arm (log 7). -/
theorem exec_armMove_unnamed {f : Frame} {rest : List Frame} {s : State} (h : Takes kindArmMove f rest s)
    (harm : armArg (requestOf f).args = none) : exec .armMove s
      = .next ((onlyAnswered f rest .refused (0#12 ++ Config.freeArmCode s.free) s).withFree (s.free + 1)) := by
  have hact : actArmMove (requestOf f) (taken rest s) = refuseUnnamedArm (taken rest s) := by rw [actArmMove, harm]
  rw [exec_armMove_takes h, hact, sendReply_eq]
  rfl

/-- Settles O44: by the state test of R122 of each request kind. -/
theorem requestsOutsideRunningAreRefused : Obligations.RequestsOutsideRunningAreRefused := by
  intro s f rest hout
  refine ⟨fun h => ?_, fun n h harm hpop => ?_, fun h harm => ⟨_, exec_armMove_unnamed h harm⟩, fun h hpop => ?_,
    fun n h hbrush hpop => ?_, fun h => ?_⟩
  · exact exec_setMode_decided h (by decide) (by decide) (actSetMode_outside (s := taken rest s) hout)
  · exact exec_armMove_decided h (by decide) (by decide) (actArmMove_outside (s := taken rest s) harm hpop hout)
  · rw [exec_waterSet_takes h, actWaterSet_outside (s := taken rest s) hpop hout]
    exact congrArg _ refused_eq
  · rw [exec_trimSet_takes h, actTrimSet_outside (s := taken rest s) hbrush hpop hout]
    exact congrArg _ refused_eq
  · rw [exec_faultClear_takes h, actFaultClear_outside (s := taken rest s) hout]
    exact congrArg _ refused_eq

/-! ### Arguments (R120, R178) -/

section
variable {α : Type} {a c d : Byte} {x y : α}

theorem pick_first (hxy : x ≠ y) : (if a = c then some x else if a = d then some y else none) = some x ↔ a = c := by
  split_ifs with hc hd
  · exact ⟨fun _ => hc, fun _ => rfl⟩
  · exact ⟨fun h => absurd (Option.some.inj h).symm hxy, fun h => absurd h hc⟩
  · exact ⟨fun h => (by cases h), fun h => absurd h hc⟩

theorem pick_second (hxy : x ≠ y) (hcd : c ≠ d) :
    (if a = c then some x else if a = d then some y else none) = some y ↔ a = d := by
  split_ifs with hc hd
  · exact ⟨fun h => absurd (Option.some.inj h) hxy, fun h => absurd (hc.symm.trans h) hcd⟩
  · exact ⟨fun _ => hd, fun _ => rfl⟩
  · exact ⟨fun h => (by cases h), fun h => absurd h hd⟩

end

theorem armArg_iff (args : List Byte) (n : ArmId) : armArg args = some n
    ↔ ∃ target, args = [match n with
      | .one => 1
      | .two => 2, target] := by
  unfold armArg
  split
  · cases n
    · rw [pick_first (by decide)]
      exact ⟨fun h => ⟨_, by rw [h]⟩, fun ⟨_, h⟩ => (List.cons.inj h).1⟩
    · rw [pick_second (by decide) (by decide)]
      exact ⟨fun h => ⟨_, by rw [h]⟩, fun ⟨_, h⟩ => (List.cons.inj h).1⟩
  · next hne => exact ⟨fun h => (by cases h), fun ⟨x, hx⟩ => absurd hx (hne _ _)⟩

theorem targetArg_iff (args : List Byte) (target : Target) : targetArg args = some target
    ↔ ∃ arm, args = [arm, match target with
      | .stow => 0
      | .work => 1] := by
  unfold targetArg
  split
  · cases target
    · rw [pick_first (by decide)]
      exact ⟨fun h => ⟨_, by rw [h]⟩, fun ⟨_, h⟩ => (List.cons.inj (List.cons.inj h).2).1⟩
    · rw [pick_second (by decide) (by decide)]
      exact ⟨fun h => ⟨_, by rw [h]⟩, fun ⟨_, h⟩ => (List.cons.inj (List.cons.inj h).2).1⟩
  · next hne => exact ⟨fun h => (by cases h), fun ⟨x, hx⟩ => absurd hx (hne _ _)⟩

theorem brushArg_iff (args : List Byte) (n : ArmId) : brushArg args = some n
    ↔ ∃ hi lo, args = [match n with
      | .one => 1
      | .two => 2, hi, lo] := by
  unfold brushArg
  split
  · cases n
    · rw [pick_first (by decide)]
      exact ⟨fun h => ⟨_, _, by rw [h]⟩, fun ⟨_, _, h⟩ => (List.cons.inj h).1⟩
    · rw [pick_second (by decide) (by decide)]
      exact ⟨fun h => ⟨_, _, by rw [h]⟩, fun ⟨_, _, h⟩ => (List.cons.inj h).1⟩
  · next hne => exact ⟨fun h => (by cases h), fun ⟨x, y, hx⟩ => absurd hx (hne _ _ _)⟩

theorem modeArg_iff (args : List Byte) (m : Mode) : modeArg args = some m ↔ args = [BitVec.ofNat 8 m.code] := by
  constructor
  · intro h
    unfold modeArg at h
    split at h
    · rw [← ofCode?_eq_some h]
      simp
    · cases h
  · rintro rfl
    cases m <;> rfl

/-- The channels of each role (00_scope.md). -/
theorem maskHas_roleMask : ∀ role : BitVec 3,
    [Channel.drv, .arm1, .br1, .arm2, .br2, .wtr].map (fun c => maskHas (roleMask role) c)
      = (List.range 6).map (BitVec.getLsbD (([0b000000, 0b000001, 0b011110, 0b000110, 0b100000, 0b111110, 0b100001,
        0b111111] : List (BitVec 6)).getD role.toNat 0)) := by decide

/-! ### UNKNOWN -/

section
variable {f : Frame} {rest : List Frame} {s : State}

theorem exec_unknown_takes (h : Takes f.kind f rest s) (hkind : kindUnnamed f.kind = true) :
    exec .unknownRequestKind s = .next (sendReply (requestOf f) (actUnknown (requestOf f) (taken rest s))) :=
  congrArg _ (serve_takes h hkind)

theorem unknown_eq {value : Word} :
    sendReply (requestOf f) (decided .unknown value (taken rest s)) = onlyAnswered f rest .unknown value s :=
  sendReply_decided (by decide) (by decide)

end

theorem requestOf_fields (f : Frame) : (requestOf f).src = f.src ∧ (requestOf f).kind = f.kind
    ∧ (requestOf f).tag.toNat = (f.payload.getD 0 0).toNat % 16 ∧ (requestOf f).args = f.payload.drop 1 := by
  refine ⟨rfl, rfl, ?_, ?_⟩
  · cases hp : f.payload <;> simp [requestOf, tagOf, hp]
  · simp [requestOf]

/-- Settles O43: by the first tests of R122, the fields of a request, its arguments and the channels of each role. -/
theorem unsupportedRequestsAreUnknown : Obligations.UnsupportedRequestsAreUnknown := by
  refine ⟨requestOf_fields, fun args => ⟨armArg_iff args, targetArg_iff args, modeArg_iff args, brushArg_iff args⟩,
    fun s => ?_, fun s f rest h hkind => ?_,
    fun s f rest => ⟨fun n h harm hpop => ?_, fun h hpop => ?_, fun n h hbrush hpop => ?_⟩⟩
  · intro mask
    exact ⟨maskHas_roleMask s.start.role, rfl, rfl⟩
  · rw [exec_unknown_takes h (by simpa [kindUnnamed] using hkind)]
    exact congrArg _ unknown_eq
  · have hact : actArmMove (requestOf f) (taken rest s) = decided .unknown 0 (taken rest s) := by
      simp [actArmMove, harm, hpop]
    rw [exec_armMove_takes h, hact]
    exact congrArg _ unknown_eq
  · rw [exec_waterSet_takes h, actWaterSet, if_pos (by simp [hpop])]
    exact congrArg _ unknown_eq
  · have hact : actTrimSet (requestOf f) (taken rest s) = decided .unknown 0 (taken rest s) := by
      simp [actTrimSet, hbrush, hpop]
    rw [exec_trimSet_takes h, hact]
    exact congrArg _ unknown_eq

end Sys2Proof.Machine
end

section
/-! SUPPORT. RESTART, and repeats, discards and drops of requests (R119, R121 to R123, R127, R131, R141, R148). -/

namespace Sys2Proof.Machine

-- One thread elaborates this section, so that the check's memory limit holds the stacks.
set_option Elab.async false

section
variable {f : Frame} {rest : List Frame} {s : State} {kinds : Nibble → Bool} {act : Request → State → Reply}

/-! ### Where a request at the front ends -/

theorem frontRequest_eq (hrx : s.line.rx = f :: rest) (hcls : f.cls = .request) (hkind : kinds f.kind = true) :
    frontRequest kinds s = some f := by
  rw [frontRequest, frontOf_eq hrx hcls]
  simp only [hkind, if_true]

theorem discarded_iff (f : Frame) : discarded f = true ↔ f.dst = 15 ∨ f.src = 15 ∨ f.payload = [] := by
  simp [discarded, or_assoc]

theorem serve_discards (hrx : s.line.rx = f :: rest) (hcls : f.cls = .request) (hkind : kinds f.kind = true)
    (h : discarded f = true) : serve kinds act s = taken rest s := by
  rw [serve, frontRequest_eq hrx hcls hkind]
  simp only [h, if_true]
  exact popRx_eq hrx

theorem serve_keeps (hrx : s.line.rx = f :: rest) (hcls : f.cls = .request) (hkind : kinds f.kind = true)
    (h : discarded f = false) : serve kinds act s = answerRequest act (requestOf f) (taken rest s) := by
  have hpop : popRx s = taken rest s := popRx_eq hrx
  rw [serve, frontRequest_eq hrx hcls hkind]
  simp only [h, Bool.false_eq_true, if_false, hpop]

theorem answerRequest_full (r : Request) (h : 4 ≤ s.line.answers.length) :
    answerRequest act r (taken rest s) = countMissed (taken rest s) := if_pos h

theorem answerRequest_repeat {r : Request} {e : PendingEntry} (hroom : s.line.answers.length < 4)
    (he : findEntry r.src r.tag s = some e) :
    answerRequest act r (taken rest s) = sendReply r (answerFromEntry r e (taken rest s)) := by
  have hsame : findEntry r.src r.tag (taken rest s) = some e := he
  rw [answerRequest, if_neg (by simpa [taken] using hroom), hsame]

theorem answerRequest_fresh {r : Request} (hroom : s.line.answers.length < 4) (he : findEntry r.src r.tag s = none) :
    answerRequest act r (taken rest s) = sendReply r (act r (taken rest s)) := by
  have hsame : findEntry r.src r.tag (taken rest s) = none := he
  rw [answerRequest, if_neg (by simpa [taken] using hroom), hsame]

/-! ### RESTART (R131) -/

theorem exec_restart_discards {straps : Straps} (hrx : s.line.rx = f :: rest) (hcls : f.cls = .request)
    (hkind : f.kind = kindRestart) (h : discarded f = true) : exec (.restart straps) s = .next (taken rest s) := by
  have hpop : popRx s = taken rest s := popRx_eq hrx
  have hexec : exec (.restart straps) s = execRestart straps s := rfl
  rw [hexec, execRestart, frontRequest_eq hrx hcls (by simp [hkind])]
  simp only [h, if_true, hpop]

theorem exec_restart_kept {straps : Straps} (hrx : s.line.rx = f :: rest) (hcls : f.cls = .request)
    (hkind : f.kind = kindRestart) (h : discarded f = false) : exec (.restart straps) s
      = if restartsSilently (requestOf f) s then .next (restartNow straps (taken rest s))
        else .next (answerRequest actRestart (requestOf f) (taken rest s)) := by
  have hpop : popRx s = taken rest s := popRx_eq hrx
  have hexec : exec (.restart straps) s = execRestart straps s := rfl
  have hsilent : restartsSilently (requestOf f) (taken rest s) = restartsSilently (requestOf f) s := rfl
  rw [hexec, execRestart, frontRequest_eq hrx hcls (by simp [hkind])]
  simp only [h, Bool.false_eq_true, if_false, hpop, hsilent]

theorem restartsSilently_iff (r : Request) (s : State) : restartsSilently r s = true
    ↔ (s.start.station = .silenced ∨ s.start.station = .failedStart) ∧ findEntry r.src r.tag s = none ∧ r.args = [] := by
  simp [restartsSilently, and_assoc]

theorem kept_of_reaches {kind : Nibble} (h : Reaches kind f rest s) : discarded f = false := by
  obtain ⟨-, -, -, hdst, hsrc, hpayload⟩ := h
  rw [← Bool.not_eq_true, discarded_iff, not_or, not_or]
  exact ⟨hdst, hsrc, hpayload⟩

theorem exec_restart_answers {straps : Straps} (h : Reaches kindRestart f rest s) (hroom : s.line.answers.length < 4)
    (he : findEntry f.src (requestOf f).tag s = none) (hloud : restartsSilently (requestOf f) s = false) :
    exec (.restart straps) s = .next (sendReply (requestOf f) (actRestart (requestOf f) (taken rest s))) := by
  rw [exec_restart_kept h.1 h.2.1 h.2.2.1 (kept_of_reaches h), hloud, answerRequest_fresh hroom he]
  rfl

end

theorem warmRestarted_taken (rest : List Frame) (s : State) : WarmRestarted s (warmRestart (taken rest s)) := by
  obtain ⟨hkeeps, hall⟩ := warmRestart_spec (taken rest s)
  exact ⟨((taken_keeps rest s).mono).trans hkeeps, hall⟩

/-- Settles O42: by the tests of RESTART in each station state. -/
theorem restartByStationState : Obligations.RestartByStationState := by
  intro s f rest straps h he
  have hloud : (requestOf f).args ≠ [] ∨ (s.start.station ≠ .silenced ∧ s.start.station ≠ .failedStart) →
      restartsSilently (requestOf f) s = false := fun hor => by
    rw [← Bool.not_eq_true, restartsSilently_iff]
    rintro ⟨hstation, -, hargs⟩
    rcases hor with hne | ⟨h1, h2⟩
    · exact hne hargs
    · exact hstation.elim h1 h2
  have hsilent : ∀ st, s.start.station = st → (st = .silenced ∨ st = .failedStart) → (requestOf f).args = [] →
      exec (.restart straps) s = .next (restartNow straps (taken rest s)) := fun st hst hor hargs => by
    have hsil : restartsSilently (requestOf f) s = true :=
      (restartsSilently_iff _ s).mpr ⟨by rwa [hst], he, hargs⟩
    rw [exec_restart_kept h.1 h.2.1 h.2.2.1 (kept_of_reaches h), hsil]
    rfl
  refine ⟨fun hroom hargs => ?_, fun hargs => ⟨fun hroom hrun hmode => ?_, fun hroom hlisten => ?_, fun hroom hrun hmode => ?_,
    fun hst => ?_, fun hst => ?_⟩⟩
  · rw [exec_restart_answers h hroom he (hloud (.inl hargs)), actRestart, if_pos hargs]
    exact congrArg _ refused_eq
  · have hact : actRestart (requestOf f) (taken rest s) = decided .refused 0 (taken rest s) := by
      simp [actRestart, hargs, hmode]
    rw [exec_restart_answers h hroom he (hloud (.inr (by simp [hrun]))), hact]
    exact congrArg _ refused_eq
  · have hact : actRestart (requestOf f) (taken rest s) = decided .refused 0 (taken rest s) := by
      simp [actRestart, hargs, hlisten]
    rw [exec_restart_answers h hroom he (hloud (.inr (by simp [hlisten]))), hact]
    exact congrArg _ refused_eq
  · have hact : actRestart (requestOf f) (taken rest s) = ⟨taken rest s, .done, 0, true⟩ := by
      simp [actRestart, hargs, hrun, hmode]
    rw [exec_restart_answers h hroom he (hloud (.inr (by simp [hrun]))), hact, sendReply_eq]
    rfl
  · obtain ⟨honline, hguard⟩ := warmRestart_onLine (taken rest s)
    have hnow : restartNow straps (taken rest s) = warmRestart (taken rest s) := if_pos hst
    exact ⟨_, hsilent _ hst (.inl rfl) hargs, by rw [hnow]; exact warmRestarted_taken rest s,
      by rw [hnow]; exact honline, by rw [hnow]; exact hguard⟩
  · have hnow : restartNow straps (taken rest s) = reload straps (taken rest s) := if_neg (by simp [hst])
    refine ⟨_, hsilent _ hst (.inr rfl) hargs, ?_⟩
    rw [hnow]
    exact reload_spec straps (taken rest s)

end Sys2Proof.Machine
end

section
/-! SUPPORT. Repeats of a request, and the discard of an entry (R122, R123, R127). -/

namespace Sys2Proof.Machine

-- One thread elaborates this section, so that the check's memory limit holds the stacks.
set_option Elab.async false

/-! ### The entry of a requester and tag -/

theorem findEntry_none_iff (requester tag : Nibble) (s : State) : findEntry requester tag s = none
    ↔ ∀ e ∈ s.req.table, ¬ (e.requester = requester ∧ e.tag = tag) := by
  simp [findEntry]

theorem findEntry_some {requester tag : Nibble} {s : State} {e : PendingEntry} (h : findEntry requester tag s = some e) :
    e ∈ s.req.table ∧ e.requester = requester ∧ e.tag = tag := by
  have hkey := List.find?_some h
  simp only [Bool.and_eq_true, decide_eq_true_eq] at hkey
  exact ⟨List.mem_of_find?_eq_some h, hkey⟩

/-! ### The commands that take requests -/

/-- The command serves requests of these kinds. -/
def Serves (c : Instr) (kinds : Nibble → Bool) (act : Request → State → Reply) : Prop :=
  ∀ s, exec c s = .next (serve kinds act s)

theorem takesKind_cases {c : Instr} {kind : Nibble} (h : TakesKind c kind) :
    (∃ kinds act, kinds kind = true ∧ Serves c kinds act) ∨ ∃ straps, c = .restart straps ∧ kind = kindRestart := by
  have hone : ∀ k : Nibble, kind = k → decide (kind = k) = true := fun k hk => decide_eq_true hk
  cases c with
  | setMode => exact .inl ⟨fun k => k = kindSetMode, actSetMode, hone _ h, fun _ => rfl⟩
  | armMove => exact .inl ⟨fun k => k = kindArmMove, actArmMove, hone _ h, fun _ => rfl⟩
  | waterSet => exact .inl ⟨fun k => k = kindWaterSet, actWaterSet, hone _ h, fun _ => rfl⟩
  | trimSet => exact .inl ⟨fun k => k = kindTrimSet, actTrimSet, hone _ h, fun _ => rfl⟩
  | faultClear => exact .inl ⟨fun k => k = kindFaultClear, actFaultClear, hone _ h, fun _ => rfl⟩
  | query => exact .inl ⟨fun k => k = kindQuery, actQuery, hone _ h, fun _ => rfl⟩
  | restart straps => exact .inr ⟨straps, rfl, h⟩
  | unknownRequestKind =>
    have hkind : kind = 0 ∨ 8 ≤ kind.toNat := h
    refine .inl ⟨kindUnnamed, actUnknown, ?_, fun _ => rfl⟩
    rcases hkind with h0 | h8
    · subst h0
      decide
    · simp [kindUnnamed, h8]
  | _ => exact h.elim

theorem countMissed_taken (rest : List Frame) (s : State) : countMissed (taken rest s) = s.withLine { s.line with
    rx := rest
    counters := { s.line.counters with missedFrames := min 255 (s.line.counters.missedFrames + 1) } } := rfl

/-! ### The answer from the entry -/

/-- The result that an entry's state answers (R123). -/
def PendingState.result : PendingState → Result
  | .running => .pending
  | .done => .done
  | .failed => .failed
  | .superseded => .superseded

theorem answerFromEntry_same {r : Request} {e : PendingEntry} {s : State} (h : operationOf r = some e.op) :
    answerFromEntry r e s = decided e.state.result (entryValue e s)
      (if e.state = .running then refreshEntry e.requester e.tag s else freeEntry e.requester e.tag s) := by
  rw [answerFromEntry, if_pos h]
  cases hs : e.state <;> rfl

section
variable {f : Frame} {rest : List Frame} {s : State} {e : PendingEntry} {c : Instr} {kinds : Nibble → Bool}
  {act : Request → State → Reply}

theorem exec_serves (h : Reaches f.kind f rest s) (hserves : Serves c kinds act) (hkind : kinds f.kind = true) :
    exec c s = .next (answerRequest act (requestOf f) (taken rest s)) := by
  rw [hserves, serve_keeps h.1 h.2.1 hkind (kept_of_reaches h)]

/-- A repeat of the request of an entry. -/
theorem repeat_served (h : Reaches f.kind f rest s) (hroom : s.line.answers.length < 4)
    (he : findEntry f.src (requestOf f).tag s = some e) (hserves : Serves c kinds act) (hkind : kinds f.kind = true)
    (hop : operationOf (requestOf f) = some e.op) : ∃ t, exec c s = .next t
      ∧ KeepsAllBut [.line, .req] s t
      ∧ t.line.rx = rest
      ∧ (e.state = .running → t.req.table = s.req.table.map (fun x =>
          if x.requester = f.src ∧ x.tag = (requestOf f).tag then { x with time := 0 } else x))
      ∧ (e.state ≠ .running → t.req.table = s.req.table.filter
          (fun x => !(x.requester = f.src && x.tag = (requestOf f).tag)))
      ∧ Answers f e.state.result (entryValue e s) s t := by
  obtain ⟨-, hrequester, htag⟩ := findEntry_some he
  have hvalue : entryValue e (taken rest s) = entryValue e s := by
    unfold entryValue
    simp only [taken_arm]
    rfl
  have hexec := (exec_serves h hserves hkind).trans (by rw [answerRequest_repeat hroom he, answerFromEntry_same hop, hvalue])
  by_cases hrunning : e.state = .running
  · rw [if_pos hrunning] at hexec
    refine ⟨_, hexec, keeps_of_reply (by simp) ((refreshEntry_keeps e.requester e.tag _).mono), ?_, fun _ => ?_, fun hne => absurd hrunning hne,
      (sendReply_serves (f := f) (LineButDue.of_line (refreshEntry_line e.requester e.tag _)) rfl).2.2.2⟩
    · exact (sendReply_serves (f := f) (s := s) (LineButDue.of_line (refreshEntry_line e.requester e.tag _)) rfl).1
    · rw [(sendReply_keeps _ _).req, hrequester, htag]
      rfl
  · rw [if_neg hrunning] at hexec
    refine ⟨_, hexec, keeps_of_reply (by simp) ((freeEntry_keeps e.requester e.tag _).mono), ?_, fun hr => absurd hr hrunning, fun _ => ?_,
      (sendReply_serves (f := f) (LineButDue.of_line (freeEntry_line e.requester e.tag _)) rfl).2.2.2⟩
    · exact (sendReply_serves (f := f) (s := s) (LineButDue.of_line (freeEntry_line e.requester e.tag _)) rfl).1
    · rw [(sendReply_keeps _ _).req, hrequester, htag]
      rfl

/-- Another request under the tag of an entry (R122, test 1). -/
theorem answer_mismatch (hroom : s.line.answers.length < 4) (he : findEntry f.src (requestOf f).tag s = some e)
    (hop : operationOf (requestOf f) ≠ some e.op) : answerRequest act (requestOf f) (taken rest s)
      = onlyAnswered f rest .mismatch (mismatchValue (requestOf f) s) s := by
  rw [answerRequest_repeat hroom he, answerFromEntry, if_neg hop]
  exact sendReply_decided (by decide) (by decide)

end

/-! ### The operation of a request -/

theorem operationOf_setMode {r : Request} (h : r.kind = kindSetMode) :
    operationOf r = if modeArg r.args = some .transport then some .setTransport else none := if_pos h

theorem operationOf_armMove {r : Request} (h : r.kind = kindArmMove) (n : ArmId) (target : Target) :
    operationOf r = some (.armMove n target) ↔ armArg r.args = some n ∧ targetArg r.args = some target := by
  rw [operationOf, if_neg (by rw [h]; decide), if_pos h]
  split
  · next a t ha ht => simp [ha, ht]
  · next hne =>
    exact ⟨fun h => (by cases h), fun ⟨ha, ht⟩ => absurd ht (hne n target ha)⟩

theorem operationOf_armMove_ne {r : Request} (h : r.kind = kindArmMove) : operationOf r ≠ some .setTransport := by
  rw [operationOf, if_neg (by rw [h]; decide), if_pos h]
  split <;> simp

theorem operationOf_immediate {f : Frame} (h1 : f.kind ≠ kindSetMode) (h2 : f.kind ≠ kindArmMove) (op : Operation) :
    operationOf (requestOf f) ≠ some op := by
  have hnone : operationOf (requestOf f) = none := (if_neg h1).trans (if_neg h2)
  rw [hnone]
  simp

theorem mismatchValue_other {f : Frame} {s : State} (h1 : f.kind ≠ kindSetMode) (h2 : f.kind ≠ kindWaterSet)
    (h3 : f.kind ≠ kindFaultClear) : mismatchValue (requestOf f) s = 0 :=
  (if_neg h1).trans ((if_neg h2).trans (if_neg h3))

theorem unnamed_ne {k : Nibble} (h : kindUnnamed k = true) : k ≠ kindSetMode ∧ k ≠ kindArmMove ∧ k ≠ kindWaterSet ∧ k ≠ kindFaultClear := by
  revert k
  decide

/-- Another request than the entry's, by its kind: its command, and the value of MISMATCH (R120). -/
theorem exec_mismatch {s : State} {f : Frame} {rest : List Frame} {e : PendingEntry} {c : Instr} {value : Word}
    (h : Reaches f.kind f rest s) (hroom : s.line.answers.length < 4) (he : findEntry f.src (requestOf f).tag s = some e)
    (hop : operationOf (requestOf f) ≠ some e.op) (hvalue : mismatchValue (requestOf f) s = value)
    (hc : (∃ kinds act, kinds f.kind = true ∧ Serves c kinds act) ∨ ∃ straps, c = .restart straps ∧ f.kind = kindRestart) :
    exec c s = .next (onlyAnswered f rest .mismatch value s) := by
  subst hvalue
  rcases hc with ⟨kinds, act, hkind, hserves⟩ | ⟨straps, rfl, hkind⟩
  · rw [exec_serves h hserves hkind, answer_mismatch hroom he hop]
  · have hloud : restartsSilently (requestOf f) s = false := by
      rw [← Bool.not_eq_true, restartsSilently_iff]
      rintro ⟨-, hnone, -⟩
      exact absurd (he.symm.trans hnone) (by simp)
    rw [exec_restart_kept h.1 h.2.1 hkind (kept_of_reaches h), hloud, answer_mismatch hroom he hop]
    rfl

/-- Settles O45: by the first test of R122, what an entry answers and where it ends. -/
theorem pendingEntriesAnswerAndExpire : Obligations.PendingEntriesAnswerAndExpire := by
  refine ⟨fun s f rest c hrx hcls htakes => ?_, fun s requester tag => ⟨findEntry_none_iff requester tag s, fun e he => findEntry_some he⟩,
    fun s f rest e n target h hroom he hop => ?_, fun s f rest e h hroom he hop => ?_, fun s f rest e c value straps h hroom he hall => ?_,
    fun s b requester tag e himage he hdue => ?_⟩
  · intro silent
    refine ⟨fun hany => ?_, fun hdst hsrc hpayload hfull hloud => ?_⟩
    · have hdiscarded : discarded f = true := (discarded_iff f).mpr hany
      rcases takesKind_cases htakes with ⟨kinds, act, hkind, hserves⟩ | ⟨straps, rfl, hkind⟩
      · rw [hserves, serve_discards hrx hcls hkind hdiscarded]
        rfl
      · exact exec_restart_discards hrx hcls hkind hdiscarded
    · have hkept : discarded f = false := by
        rw [← Bool.not_eq_true, discarded_iff, not_or, not_or]
        exact ⟨hdst, hsrc, hpayload⟩
      rw [← countMissed_taken]
      rcases takesKind_cases htakes with ⟨kinds, act, hkind, hserves⟩ | ⟨straps, rfl, hkind⟩
      · rw [hserves, serve_keeps hrx hcls hkind hkept, answerRequest_full _ hfull]
      · have hsounds : restartsSilently (requestOf f) s = false := by
          rw [← Bool.not_eq_true, restartsSilently_iff]
          exact fun ⟨hstation, hnone, hargs⟩ => hloud ⟨⟨straps, rfl⟩, hstation, hnone, hargs⟩
        rw [exec_restart_kept hrx hcls hkind hkept, hsounds, answerRequest_full _ hfull]
        rfl
  · intro same
    have hkind : f.kind = kindArmMove := h.2.2.1
    have h' : Reaches f.kind f rest s := ⟨h.1, h.2.1, rfl, h.2.2.2⟩
    have hserves : Serves .armMove (fun k => k = kindArmMove) actArmMove := fun _ => rfl
    have hsame : operationOf (requestOf f) = some e.op ↔ same := by
      rw [hop]
      exact operationOf_armMove hkind n target
    refine ⟨fun hno => ?_, fun hyes => ?_⟩
    · exact exec_mismatch h' hroom he (fun heq => hno (hsame.mp heq))
        (mismatchValue_other (by rw [hkind]; decide) (by rw [hkind]; decide) (by rw [hkind]; decide))
        (.inl ⟨_, _, decide_eq_true hkind, hserves⟩)
    · obtain ⟨t, hexec, hkeeps, hrx, hrefresh, hfree, hanswers⟩ :=
        repeat_served h' hroom he hserves (decide_eq_true hkind) (hsame.mpr hyes)
      have hvalue : entryValue e s = if e.state = .running then armValue (s.arm n).state else e.value := by
        rw [entryValue, hop]
      rw [hvalue] at hanswers
      refine ⟨t, hexec, hkeeps, hrx, fun hs => ⟨?_, hrefresh hs⟩, hfree, fun hs => ?_, fun hs => ?_, fun hs => ?_⟩
      all_goals
        rw [hs] at hanswers
        exact hanswers
  · intro mode
    have hkind : f.kind = kindSetMode := h.2.2.1
    have h' : Reaches f.kind f rest s := ⟨h.1, h.2.1, rfl, h.2.2.2⟩
    have hserves : Serves .setMode (fun k => k = kindSetMode) actSetMode := fun _ => rfl
    have hsame : operationOf (requestOf f) = some e.op ↔ (requestOf f).args = [0] := by
      rw [hop, operationOf_setMode hkind]
      refine Iff.trans ?_ (modeArg_iff _ .transport)
      split
      · next harg => exact ⟨fun _ => harg, fun _ => rfl⟩
      · next harg => exact ⟨fun h => (by cases h), fun h => absurd h harg⟩
    refine ⟨fun hno => ?_, fun hyes => ?_⟩
    · exact exec_mismatch h' hroom he (fun heq => hno (hsame.mp heq)) (if_pos hkind)
        (.inl ⟨_, _, decide_eq_true hkind, hserves⟩)
    · obtain ⟨t, hexec, hkeeps, hrx, hrefresh, hfree, hanswers⟩ :=
        repeat_served h' hroom he hserves (decide_eq_true hkind) (hsame.mpr hyes)
      have hvalue : entryValue e s = mode := by
        rw [entryValue, hop]
        rfl
      rw [hvalue] at hanswers
      refine ⟨t, hexec, hkeeps, hrx, fun hs => ⟨?_, hrefresh hs⟩, hfree, fun hs => ?_, fun hs => ?_, fun hs => ?_⟩
      all_goals
        rw [hs] at hanswers
        exact hanswers
  · have hnamed : ∀ {k : Nibble} {kinds act}, f.kind = k → kinds k = true → Serves c kinds act →
        (∃ kinds act, kinds f.kind = true ∧ Serves c kinds act) ∨ ∃ straps, c = .restart straps ∧ f.kind = kindRestart :=
      fun hk hkinds hserves => .inl ⟨_, _, by rw [hk]; exact hkinds, hserves⟩
    rcases hall with ⟨hk, hop, rfl, rfl⟩ | ⟨hk, hop, rfl, rfl⟩ | ⟨hk, rfl, rfl⟩ | ⟨hk, rfl, rfl⟩ | ⟨hk, rfl, rfl⟩ | ⟨hk, rfl, rfl⟩
      | ⟨hk, rfl, rfl⟩ | ⟨hk, rfl, rfl⟩
    · refine exec_mismatch h hroom he ?_ (if_pos hk) (hnamed (kinds := fun k => k = kindSetMode) (act := actSetMode) hk (by decide) fun _ => rfl)
      rw [operationOf_setMode hk]
      split
      · exact fun heq => hop (Option.some.inj heq).symm
      · simp
    · refine exec_mismatch h hroom he (by rw [hop]; exact operationOf_armMove_ne hk) ?_
        (hnamed (kinds := fun k => k = kindArmMove) (act := actArmMove) hk (by decide) fun _ => rfl)
      exact mismatchValue_other (by rw [hk]; decide) (by rw [hk]; decide) (by rw [hk]; decide)
    · refine exec_mismatch h hroom he (operationOf_immediate (by rw [hk]; decide) (by rw [hk]; decide) _) ?_
        (hnamed (kinds := fun k => k = kindWaterSet) (act := actWaterSet) hk (by decide) fun _ => rfl)
      have hne : f.kind ≠ kindSetMode := by rw [hk]; decide
      exact (if_neg hne).trans (if_pos hk)
    · refine exec_mismatch h hroom he (operationOf_immediate (by rw [hk]; decide) (by rw [hk]; decide) _) ?_
        (hnamed (kinds := fun k => k = kindTrimSet) (act := actTrimSet) hk (by decide) fun _ => rfl)
      exact mismatchValue_other (by rw [hk]; decide) (by rw [hk]; decide) (by rw [hk]; decide)
    · refine exec_mismatch h hroom he (operationOf_immediate (by rw [hk]; decide) (by rw [hk]; decide) _) ?_
        (hnamed (kinds := fun k => k = kindFaultClear) (act := actFaultClear) hk (by decide) fun _ => rfl)
      have hne : f.kind ≠ kindSetMode := by rw [hk]; decide
      have hne' : f.kind ≠ kindWaterSet := by rw [hk]; decide
      exact (if_neg hne).trans ((if_neg hne').trans (if_pos hk))
    · refine exec_mismatch h hroom he (operationOf_immediate (by rw [hk]; decide) (by rw [hk]; decide) _) ?_
        (hnamed (kinds := fun k => k = kindQuery) (act := actQuery) hk (by decide) fun _ => rfl)
      exact mismatchValue_other (by rw [hk]; decide) (by rw [hk]; decide) (by rw [hk]; decide)
    · refine exec_mismatch h hroom he (operationOf_immediate (by rw [hk]; decide) (by rw [hk]; decide) _) ?_ (.inr ⟨straps, rfl, hk⟩)
      exact mismatchValue_other (by rw [hk]; decide) (by rw [hk]; decide) (by rw [hk]; decide)
    · have hunnamed : kindUnnamed f.kind = true := by
        rcases hk with h0 | h8
        · rw [h0]
          decide
        · simp [kindUnnamed, h8]
      obtain ⟨h1, h2, h3, h5⟩ := unnamed_ne hunnamed
      exact exec_mismatch h hroom he (operationOf_immediate h1 h2 _) (mismatchValue_other h1 h3 h5)
        (hnamed (kinds := kindUnnamed) (act := actUnknown) rfl hunnamed fun _ => rfl)
  · have hexpired : entryExpired requester tag s = true := by
      rw [entryExpired, he]
      exact dueBy_of_image himage rfl _ hdue
    have hexec : exec (.entryDiscard requester tag) s = .next (if entryRunning requester tag s then
        countOrphan (freeEntry requester tag s) else freeEntry requester tag s) := if_pos hexpired
    have hrunning : entryRunning requester tag s = decide (e.state = .running) := by rw [entryRunning, he]
    have hfree := freeEntry_keeps requester tag s
    rw [hexec, hrunning]
    by_cases hs : e.state = .running
    · rw [if_pos (decide_eq_true hs)]
      exact ⟨_, rfl, (hfree.mono).trans ((State.withLine_keeps _ _).mono), rfl, fun _ => rfl, fun hne => absurd hs hne⟩
    · rw [if_neg (by simpa using hs)]
      exact ⟨_, rfl, hfree.mono, rfl, fun heq => absurd heq hs, fun _ => rfl⟩

end Sys2Proof.Machine
end

section
/-! SUPPORT. The items of QUERY, bit by bit (R130, R178). -/

namespace Sys2Proof.Machine

-- One thread elaborates this section, so that the check's memory limit holds the stacks.
set_option Elab.async false

/-! ### Bits of words -/

theorem toNat_append_add {w v : Nat} (x : BitVec w) (y : BitVec v) : (x ++ y).toNat = x.toNat * 2 ^ v + y.toNat := by
  rw [BitVec.toNat_append, ← Nat.shiftLeft_add_eq_or_of_lt y.isLt, Nat.shiftLeft_eq]

theorem DriveState.code_lt (x : DriveState) : x.code < 16 := by cases x <;> decide

theorem ArmState.code_lt (x : ArmState) : x.code < 16 := by cases x <;> decide

theorem WaterState.code_lt (x : WaterState) : x.code < 16 := by cases x <;> decide

theorem StationState.code_lt (x : StationState) : x.code < 256 := by cases x <;> decide

theorem Mode.code_lt (x : Mode) : x.code < 4 := by cases x <;> decide

theorem EntryState.code_lt (x : EntryState) : x.code < 4 := by cases x <;> decide

theorem armWord_toNat (a : Arm) : (armWord a).toNat = a.state.code * 4096 + a.position.toNat := by
  have hcode := a.state.code_lt
  rw [armWord, toNat_append_add, BitVec.toNat_ofNat]
  omega

theorem pairBits_toNat (p : ClampPair) : (pairBits p).toNat = p.high.toNat * 2 + p.low.toNat := by
  rw [pairBits, toNat_append_add, BitVec.toNat_ofBool, BitVec.toNat_ofBool, Nat.pow_one]

theorem flagsWord_toNat (sp : Setpoint) : (flagsWord sp).toNat
    = sp.drv.pedalClamp.low.toNat + sp.drv.pedalClamp.high.toNat * 2
      + sp.drv.feedClamp.low.toNat * 4 + sp.drv.feedClamp.high.toNat * 8
      + sp.br1.clamp.low.toNat * 16 + sp.br1.clamp.high.toNat * 32
      + sp.br2.clamp.low.toNat * 64 + sp.br2.clamp.high.toNat * 128
      + sp.wtr.clamp.low.toNat * 256 + sp.wtr.clamp.high.toNat * 512
      + sp.br1.sat.toNat * 1024 + sp.br2.sat.toNat * 2048 + sp.wtr.sat.toNat * 4096 := by
  simp only [flagsWord, toNat_append_add, pairBits_toNat, BitVec.toNat_ofBool, BitVec.toNat_ofNat]
  omega

theorem entryWord_toNat (e : PeerEntry) : (entryWord (some e)).toNat
    = e.status.code * 16384 + e.vals.mode.code * 4096 + e.vals.water.code * 256
      + (directionCode e.vals.direction).toNat * 64 + e.vals.mask.toNat := by
  have hstatus := e.status.code_lt
  have hmode := e.vals.mode.code_lt
  have hwater := e.vals.water.code_lt
  simp only [entryWord, toNat_append_add, BitVec.toNat_ofNat]
  omega

/-! ### The bitmaps (R22) -/

/-- The entry of a station is in a state. -/
def entryIn (st : EntryState) (s : State) (n : Fin 15) : Prop := ∃ e, s.peers[n] = some e ∧ e.status = st

/-- A station joins the bitmap of a state. -/
def bitmapStep (st : EntryState) (s : State) (m : Word) (n : Fin 15) : Word :=
  match s.peers[n] with
  | some e => if e.status = st then m ||| (1#16 <<< n.val) else m
  | none => m

theorem bitmapOf_eq (st : EntryState) (s : State) : bitmapOf st s = (List.finRange 15).foldl (bitmapStep st s) 0 := rfl

theorem bitmapStep_getLsbD (st : EntryState) (s : State) (m : Word) (n : Fin 15) (i : Nat) :
    (bitmapStep st s m n).getLsbD i = true ↔ m.getLsbD i = true ∨ (n.val = i ∧ entryIn st s n) := by
  have hbit : (1#16 <<< n.val).getLsbD i = true ↔ n.val = i := by
    have hn := n.isLt
    simp only [BitVec.getLsbD_shiftLeft, BitVec.getLsbD_one, Bool.and_eq_true, decide_eq_true_eq, Bool.not_eq_true',
      decide_eq_false_iff_not]
    omega
  unfold entryIn bitmapStep
  cases hp : s.peers[n] with
  | none => simp
  | some e =>
    by_cases he : e.status = st
    · simp only [he, if_true, BitVec.getLsbD_or, Bool.or_eq_true, hbit]
      simp [he]
    · simp [he]

theorem foldl_bitmapStep (st : EntryState) (s : State) (i : Nat) : ∀ (l : List (Fin 15)) (m : Word),
    (l.foldl (bitmapStep st s) m).getLsbD i = true ↔ m.getLsbD i = true ∨ ∃ n ∈ l, n.val = i ∧ entryIn st s n
  | [], m => by simp
  | n :: l, m => by
    rw [List.foldl_cons, foldl_bitmapStep st s i l, bitmapStep_getLsbD, or_assoc]
    simp

/-- Bit n of a bitmap is set for the stations whose entry is in its state. -/
theorem bitmapOf_getLsbD (st : EntryState) (s : State) (i : Nat) :
    (bitmapOf st s).getLsbD i = true ↔ ∃ n : Fin 15, n.val = i ∧ entryIn st s n := by
  rw [bitmapOf_eq, foldl_bitmapStep]
  simp

theorem bitmapOf_station (st : EntryState) (s : State) (n : Fin 15) :
    (bitmapOf st s).getLsbD n.val = true ↔ ∃ e, s.peers[n] = some e ∧ e.status = st := by
  rw [bitmapOf_getLsbD]
  exact ⟨fun ⟨m, hm, h⟩ => Fin.ext hm ▸ h, fun h => ⟨n, rfl, h⟩⟩

theorem bitmapOf_top (st : EntryState) (s : State) : (bitmapOf st s).getLsbD 15 = false := by
  rw [← Bool.not_eq_true, bitmapOf_getLsbD]
  rintro ⟨n, hn, -⟩
  have := n.isLt
  omega

/-! ### The items of the entries -/

theorem itemValue_entry (n : Fin 15) (s : State) : itemValue (16 + n.val) s = entryWord s.peers[n] := by
  have hn := n.isLt
  unfold itemValue
  split <;> first | omega | skip
  rw [if_pos (by omega), entryAt, dif_pos (by omega)]
  simp

theorem itemValue_summary (n : Fin 15) (s : State) : itemValue (32 + n.val) s = summaryWord s.peers[n] := by
  have hn := n.isLt
  unfold itemValue
  split <;> first | omega | skip
  rw [if_neg (by omega), entryAt, dif_pos (by omega)]
  simp

theorem counter_toNat {n : Nat} (h : n ≤ 255) : (BitVec.ofNat 16 n).toNat = n := by
  rw [BitVec.toNat_ofNat]
  omega

theorem stationItem (s : State) : (itemValue 8 s).toNat = s.start.station.code * 256 + (shownMode s).code := by
  have hstation := s.start.station.code_lt
  have hmode := (shownMode s).code_lt
  have hitem : itemValue 8 s = BitVec.ofNat 8 s.start.station.code ++ BitVec.ofNat 8 (shownMode s).code := rfl
  rw [hitem, toNat_append_add, BitVec.toNat_ofNat, BitVec.toNat_ofNat]
  omega

theorem driveItem (s : State) : (itemValue 9 s).toNat = s.drive.state.code * 4096 + (s.sp.drv.ramp.out % 4096).toNat := by
  have hstate := s.drive.state.code_lt
  have hitem : itemValue 9 s = BitVec.ofNat 4 s.drive.state.code ++ BitVec.ofInt 12 s.sp.drv.ramp.out := rfl
  rw [hitem, toNat_append_add, BitVec.toNat_ofNat, BitVec.toNat_ofInt]
  omega

theorem waterItem {s : State} (h : s.water.dryCount ≤ 2) :
    (itemValue 12 s).toNat = s.water.state.code * 256 + s.water.dryCount := by
  have hstate := s.water.state.code_lt
  have hitem : itemValue 12 s = BitVec.ofNat 8 s.water.state.code ++ BitVec.ofNat 8 s.water.dryCount := rfl
  rw [hitem, toNat_append_add, BitVec.toNat_ofNat, BitVec.toNat_ofNat]
  omega

/-- Settles O41: the codes by their tables, and each item by the sum of its fields. -/
theorem queryItemLayout : Obligations.QueryItemLayout := by
  refine ⟨⟨rfl, rfl, rfl, rfl, rfl, rfl, rfl, rfl, rfl, fun code => num_ofNum code⟩, fun s => ⟨fun k => ⟨rfl, rfl⟩, rfl, rfl,
    fun hheld => ?_, fun hstation => ?_, fun hstation => ?_, fun hlow hhigh => ?_, fun hlow hhigh => ?_, armWord_toNat s.arm1,
    armWord_toNat s.arm2, waterItem, fun n => ⟨bitmapOf_station .fresh s n, bitmapOf_station .lost s n, fun hnone => ?_, fun e he => ?_⟩,
    bitmapOf_top .fresh s, bitmapOf_top .lost s, flagsWord_toNat s.sp⟩⟩
  · obtain ⟨h1, h2, h3, h4, h5, h6⟩ := hheld
    exact ⟨counter_toNat h1, counter_toNat h2, counter_toNat h3, counter_toNat h4, counter_toNat h5, counter_toNat h6⟩
  · rw [stationItem, shownMode, if_neg hstation]
  · rw [stationItem, shownMode, if_pos hstation, hstation]
    rfl
  · rw [driveItem]
    omega
  · rw [driveItem]
    omega
  · rw [itemValue_entry, itemValue_summary, hnone]
    exact ⟨rfl, rfl⟩
  · rw [itemValue_entry, itemValue_summary, he]
    exact ⟨entryWord_toNat e, rfl⟩

end Sys2Proof.Machine
end

section
/-! SUPPORT. The outgoing table: answers, repeats and their ends (R135 to R137, R149). -/

namespace Sys2Proof.Machine

-- One thread elaborates this section, so that the check's memory limit holds the stacks.
set_option Elab.async false

/-! ### The table's operations -/

/-- The line port but for the request queue and the frame on the line. -/
def LineButOutgoing (s t : State) : Prop := ∃ requests onLine,
  t.line = { s.line with requests := requests, onLine := onLine } ∧ (s.line.onLine = none → onLine = none)

namespace LineButOutgoing

theorem refl (s : State) : LineButOutgoing s s := ⟨s.line.requests, s.line.onLine, rfl, id⟩

theorem of_line {s t : State} (h : t.line = s.line) : LineButOutgoing s t := ⟨s.line.requests, s.line.onLine, h, id⟩

theorem trans {s t u : State} (h : LineButOutgoing s t) (h' : LineButOutgoing t u) : LineButOutgoing s u := by
  obtain ⟨q, o, hline, hnone⟩ := h
  obtain ⟨q', o', hline', hnone'⟩ := h'
  exact ⟨q', o', by rw [hline', hline], fun hs => hnone' (by rw [hline, hnone hs])⟩

theorem rx {s t : State} (h : LineButOutgoing s t) : t.line.rx = s.line.rx := by
  obtain ⟨q, o, hline, -⟩ := h
  rw [hline]

theorem counters {s t : State} (h : LineButOutgoing s t) : t.line.counters = s.line.counters := by
  obtain ⟨q, o, hline, -⟩ := h
  rw [hline]

theorem same {s t : State} (h : LineButOutgoing s t) :
    { t.line with requests := s.line.requests, onLine := s.line.onLine } = s.line := by
  obtain ⟨q, o, hline, -⟩ := h
  rw [hline]

theorem idle {s t : State} (h : LineButOutgoing s t) (hs : s.line.onLine = none) : t.line.onLine = none := by
  obtain ⟨q, o, hline, hnone⟩ := h
  rw [hline]
  exact hnone hs

end LineButOutgoing

theorem removeOutgoing_outgoing (tag : Nibble) (s : State) :
    (removeOutgoing tag s).req = { s.req with outgoing := s.req.outgoing.filter (fun e => e.tag ≠ tag) } := by
  rw [removeOutgoing, withdrawFrame_req]
  rfl

theorem removeOutgoing_requests (tag : Nibble) (s : State) :
    (removeOutgoing tag s).line.requests = s.line.requests.filter (fun q => q.tag ≠ tag) := rfl

theorem removeOutgoing_line (tag : Nibble) (s : State) : LineButOutgoing s (removeOutgoing tag s) := by
  refine ⟨_, _, rfl, fun h => ?_⟩
  simp [h]

theorem giveUp_req (tag : Nibble) (s : State) :
    (giveUp tag s).req = { s.req with outgoing := s.req.outgoing.filter (fun e => e.tag ≠ tag) } := by
  rw [giveUp, (raiseOnce_keeps _ _).req, removeOutgoing_outgoing]

theorem giveUp_line (tag : Nibble) (s : State) : LineButOutgoing s (giveUp tag s) := by
  have hraise : (giveUp tag s).line = (removeOutgoing tag s).line := by
    rw [giveUp, raiseOnce_line]
    rfl
  exact (removeOutgoing_line tag s).trans (.of_line hraise)

theorem giveUp_sticky (tag : Nibble) (s : State) : sticky .requestLost (giveUp tag s) = true := by
  rw [giveUp, sticky_raiseOnce, if_pos rfl]

theorem mapOutgoing_req (tag : Nibble) (g : OutgoingEntry → OutgoingEntry) (s : State) : (mapOutgoing tag g s).req
    = { s.req with outgoing := s.req.outgoing.map (fun e => if e.tag = tag then g e else e) } := rfl

/-! ### The entry of a tag -/

theorem find?_eq_of_unique {α : Type} {p : α → Bool} {l : List α} {e : α} (he : e ∈ l) (hp : p e = true)
    (hunique : ∀ x ∈ l, p x = true → x = e) : l.find? p = some e := by
  cases hfind : l.find? p with
  | none => exact absurd hp (List.find?_eq_none.mp hfind e he)
  | some x => rw [hunique x (List.mem_of_find?_eq_some hfind) (List.find?_some hfind)]

theorem eq_of_tag {l : List OutgoingEntry} (hnodup : (l.map OutgoingEntry.tag).Nodup) {x e : OutgoingEntry} (hx : x ∈ l)
    (he : e ∈ l) (h : x.tag = e.tag) : x = e := List.inj_on_of_nodup_map hnodup hx he h

/-! ### Answers (R136, R137) -/

/-- The answer is for the entry. -/
def answers (f : Frame) (e : OutgoingEntry) : Prop :=
  e.dest = f.src ∧ e.kind = f.kind ∧ e.tag.toNat = (f.payload.getD 0 0).toNat % 16

theorem tagOf_payload (f : Frame) : (tagOf (f.payload.headD 0)).toNat = (f.payload.getD 0 0).toNat % 16 :=
  (requestOf_fields f).2.2.1

theorem answers_iff (f : Frame) (e : OutgoingEntry) :
    (e.dest = f.src && e.tag = tagOf (f.payload.headD 0) && e.kind = f.kind) = true ↔ answers f e := by
  have htag : e.tag = tagOf (f.payload.headD 0) ↔ e.tag.toNat = (f.payload.getD 0 0).toNat % 16 := by
    rw [← tagOf_payload, BitVec.toNat_inj]
  simp only [Bool.and_eq_true, decide_eq_true_eq, htag, answers]
  exact ⟨fun ⟨⟨hd, ht⟩, hk⟩ => ⟨hd, hk, ht⟩, fun ⟨hd, hk, ht⟩ => ⟨⟨hd, ht⟩, hk⟩⟩

theorem matchAnswer_none {f : Frame} {s : State} (h : ∀ e ∈ s.req.outgoing, ¬ answers f e) : matchAnswer f s = none :=
  List.find?_eq_none.mpr fun e he => by rw [answers_iff]; exact h e he

theorem matchAnswer_some {f : Frame} {s : State} {e : OutgoingEntry} (hnodup : (s.req.outgoing.map OutgoingEntry.tag).Nodup)
    (he : e ∈ s.req.outgoing) (h : answers f e) : matchAnswer f s = some e := by
  refine find?_eq_of_unique he ((answers_iff f e).mpr h) fun x hx hp => ?_
  obtain ⟨-, -, htag⟩ := h
  obtain ⟨-, -, htag'⟩ := (answers_iff f x).mp hp
  exact eq_of_tag hnodup hx he (BitVec.eq_of_toNat_eq (htag'.trans htag.symm))

theorem answered_line (code : Nat) (e : OutgoingEntry) (s : State) : LineButOutgoing s (answered code e s) := by
  unfold answered backOffOrGiveUp
  split_ifs
  · exact .refl s
  · exact .refl s
  · exact .refl s
  · exact giveUp_line _ s
  · exact .refl s
  · exact removeOutgoing_line _ s

section
variable {f : Frame} {rest : List Frame} {s : State}

theorem exec_answer (hrx : s.line.rx = f :: rest) (hcls : f.cls = .answer) : exec .answerArrival s
    = if f.dst = 15 ∨ f.payload.length ≠ 4 then .next (taken rest s) else .next (takeAnswer f (taken rest s)) := by
  have hpop : popRx s = taken rest s := popRx_eq hrx
  have hexec : exec .answerArrival s = execAnswerArrival s := rfl
  rw [hexec, execAnswerArrival, frontOf_eq hrx hcls]
  simp only [hpop]

end

/-- Settles O48: by the result code and the state of the entry that the answer matches. -/
theorem answersActOnTheirEntry : Obligations.AnswersActOnTheirEntry := by
  intro s f rest hrx hcls hnodup code matched
  have hexec := exec_answer hrx hcls
  refine ⟨fun hany => by rw [hexec, if_pos hany]; rfl, fun hdst hlen hnone => ?_, fun e he hdst hlen hmatch => ?_⟩
  · have hno : matchAnswer f (taken rest s) = none := matchAnswer_none (s := taken rest s) hnone
    rw [hexec, if_neg (fun hor => hor.elim hdst fun h => h hlen), takeAnswer, hno]
    rfl
  · have hsome : matchAnswer f (taken rest s) = some e := matchAnswer_some (s := taken rest s) hnodup he hmatch
    have htake : takeAnswer f (taken rest s) = answered code e (taken rest s) := by rw [takeAnswer, hsome]
    have hkeeps := takeAnswer_keeps f (taken rest s)
    have htable := takeAnswer_table f (taken rest s)
    have hline := answered_line code e (taken rest s)
    rw [htake] at hkeeps htable
    rw [if_neg (fun hor => hor.elim hdst fun h => h hlen), htake] at hexec
    have hpending : code = 1 → answered code e (taken rest s) = if e.state = .queued then taken rest s else
        mapOutgoing e.tag (fun x => { x with state := .backingOff, timer := some 0 }) (taken rest s) := fun h => if_pos h
    have hbusy : code = 2 ∨ code = 3 → answered code e (taken rest s)
        = if e.state = .queued then taken rest s else backOffOrGiveUp e (taken rest s) := fun h => by
      have hne : ¬ code = Result.pending.code := by
        show ¬ code = 1
        omega
      exact (if_neg hne).trans (if_pos h)
    have hfinal : code = 0 ∨ 4 ≤ code → answered code e (taken rest s) = removeOutgoing e.tag (taken rest s) := fun h => by
      have hne : ¬ code = Result.pending.code := by
        show ¬ code = 1
        omega
      have hne' : ¬ (code = Result.busy.code ∨ code = Result.conflict.code) := by
        show ¬ (code = 2 ∨ code = 3)
        omega
      exact (if_neg hne).trans (if_neg hne')
    refine ⟨_, hexec, ((taken_keeps rest s).mono).trans hkeeps, hline.rx, hline.counters, htable, fun hstay => ?_, fun h1 hstate => ?_,
      fun hcode hstate => ?_, fun hcode hstate hleft => ?_, fun hcode hstate hleft => ?_, fun hcode => ?_⟩
    · by_cases h1 : code = 1
      · rw [hpending h1]
        split <;> rfl
      · by_cases h23 : code = 2 ∨ code = 3
        · rw [hbusy h23]
          split
          · rfl
          · next hstate =>
            have hleft : ¬ e.repeatsLeft ≤ 1 := fun hle => hstay ⟨h23, hstate, hle⟩
            rw [backOffOrGiveUp, if_neg hleft]
            rfl
        · rw [hfinal (by omega)]
          rfl
    · rw [hpending h1, if_neg hstate]
      rfl
    · rcases hcode with h1 | h23
      · rw [hpending h1, if_pos hstate]
        rfl
      · rw [hbusy h23, if_pos hstate]
        rfl
    · rw [hbusy hcode, if_neg hstate, backOffOrGiveUp, if_neg (by omega)]
      rfl
    · rw [hbusy hcode, if_neg hstate, backOffOrGiveUp, if_pos hleft, giveUp_req]
      exact ⟨rfl, giveUp_sticky _ _⟩
    · rw [hfinal hcode, removeOutgoing_outgoing]
      exact ⟨rfl, rfl⟩

/-! ### Repeat timers (R137) -/

/-- The entry of a tag, requeued with its repeats at a number. -/
def requeuedTable (tag : Nibble) (n : Nat) (l : List OutgoingEntry) : List OutgoingEntry :=
  l.map (fun x => if x.tag = tag then { x with repeatsLeft := n, state := .queued, timer := none } else x)

theorem requeue_line (e : OutgoingEntry) (s : State) :
    (requeue e s).line = { s.line with requests := s.line.requests ++ [⟨e.dest, e.tag, e.kind, e.args⟩] } := rfl

theorem requeue_same {e : OutgoingEntry} {s : State} (hnodup : (s.req.outgoing.map OutgoingEntry.tag).Nodup)
    (he : e ∈ s.req.outgoing) : (requeue e s).req.outgoing = requeuedTable e.tag e.repeatsLeft s.req.outgoing := by
  refine List.map_congr_left fun x hx => ?_
  by_cases htag : x.tag = e.tag
  · rw [eq_of_tag hnodup hx he htag]
  · rw [if_neg htag, if_neg htag]

theorem requeue_consumed {e : OutgoingEntry} {s : State} (hnodup : (s.req.outgoing.map OutgoingEntry.tag).Nodup)
    (he : e ∈ s.req.outgoing) :
    (requeue e (mapOutgoing e.tag (fun x => { x with repeatsLeft := x.repeatsLeft - 1 }) s)).req.outgoing
      = requeuedTable e.tag (e.repeatsLeft - 1) s.req.outgoing := by
  have hlists : (requeue e (mapOutgoing e.tag (fun x => { x with repeatsLeft := x.repeatsLeft - 1 }) s)).req.outgoing
      = (s.req.outgoing.map (fun x => if x.tag = e.tag then { x with repeatsLeft := x.repeatsLeft - 1 } else x)).map
          (fun x => if x.tag = e.tag then { x with state := .queued, timer := none } else x) := rfl
  rw [hlists, List.map_map]
  refine List.map_congr_left fun x hx => ?_
  by_cases htag : x.tag = e.tag
  · rw [eq_of_tag hnodup hx he htag]
    simp
  · simp [htag]

theorem exec_repeatTimer {s : State} {b : StartBlock} {e : OutgoingEntry} {ms : Nat} (himage : s.start.image = some b)
    (he : e ∈ s.req.outgoing) (htimer : e.timer = some ms) (hdue : b.line.repeatInterval ≤ ms)
    (hnodup : (s.req.outgoing.map OutgoingEntry.tag).Nodup) : exec (.repeatTimerExpiry e.tag) s = .next (repeatExpired e s) := by
  have hfind : findOutgoing e.tag s = some e := find?_eq_of_unique he (by simp) fun x hx hp =>
    eq_of_tag hnodup hx he (of_decide_eq_true hp)
  have hrepeat : repeatDue e s = true := dueBy_of_image himage htimer _ hdue
  have hexec : exec (.repeatTimerExpiry e.tag) s = execRepeatTimerExpiry e.tag s := rfl
  rw [hexec, execRepeatTimerExpiry, hfind]
  simp only [hrepeat, if_true]

/-- Settles O49: by the state of the entry whose timer expires, and the repeats it has left. -/
theorem repeatTimersRequeueOrGiveUp : Obligations.RepeatTimersRequeueOrGiveUp := by
  intro s b tag e ms himage he htag htimer hdue hnodup requeued joined
  subst htag
  refine ⟨_, exec_repeatTimer himage he htimer hdue hnodup, repeatExpired_keeps e s, repeatExpired_table e s, fun hstate hleft => ?_,
    fun hstate hleft => ?_, fun hstate => ?_⟩
  · rw [repeatExpired, hstate]
    simp only
    rw [if_neg (by omega)]
    exact ⟨requeue_consumed hnodup he, rfl, rfl⟩
  · rw [repeatExpired, hstate]
    simp only
    rw [if_pos hleft, giveUp_req]
    exact ⟨rfl, giveUp_sticky _ _⟩
  · rw [repeatExpired, hstate]
    exact ⟨requeue_same hnodup he, rfl, rfl⟩

end Sys2Proof.Machine
end

section
/-! SUPPORT. The edge of a switch: debouncers, removals and new entries (R132 to R135). -/

namespace Sys2Proof.Machine

-- One thread elaborates this section, so that the check's memory limit holds the stacks.
set_option Elab.async false

/-! ### Debouncers (R132) -/

theorem withSwitch_keeps (s : State) (i : Fin 8) (d : Debouncer) : KeepsAllBut [.req] s (s.withSwitch i d) :=
  State.withReq_keeps s _

theorem withSwitch_self (s : State) (i : Fin 8) (d : Debouncer) : (s.withSwitch i d).req.switches[i] = d := by
  simp [State.withSwitch]

theorem withSwitch_other (s : State) {i j : Fin 8} (h : j ≠ i) (d : Debouncer) :
    (s.withSwitch i d).req.switches[j] = s.req.switches[j] := by
  have hne : (i : Nat) ≠ (j : Nat) := fun heq => h (Fin.ext heq.symm)
  simp [State.withSwitch, Vector.getElem_set_ne _ _ hne]

theorem exec_switchLevel (i : Fin 8) (level : Bool) (s : State) : exec (.switchLevelChange i level) s
    = .next (s.withSwitch i (if periodsRun s then (s.req.switches[i]).see level else { s.req.switches[i] with raw := level })) := by
  have hexec : exec (.switchLevelChange i level) s = execSwitchLevelChange i level s := rfl
  rw [hexec, execSwitchLevelChange]
  split <;> rfl

/-- The settling timer after a level change (R132). -/
theorem see_settle (d : Debouncer) (level : Bool) : (level = d.level → (d.see level).settle = none)
    ∧ (level ≠ d.level → d.settle = none → (d.see level).settle = some 0)
    ∧ ∀ ms, level ≠ d.level → d.settle = some ms → (d.see level).settle = some ms := by
  refine ⟨fun h => if_pos h, fun h hnone => ?_, fun ms h hsome => ?_⟩
  · exact (if_neg h).trans (if_neg (by simp [hnone]))
  · exact ((if_neg h).trans (if_pos (by simp [hsome]))).trans hsome

/-! ### Removal (R133, R149) -/

/-- The frame on the line, where the entry of one of the tags is removed (R149). -/
def withdrawn (tags : List Nibble) (x : Sending) : Sending :=
  if tags.any (fun tag => x.owner = .request tag) then { x with owner := .orphan } else x

theorem withdrawn_append (l l' : List Nibble) (x : Sending) : withdrawn l' (withdrawn l x) = withdrawn (l ++ l') x := by
  unfold withdrawn
  cases h : l.any (fun tag => x.owner = .request tag)
  · simp [h]
  · simp [h]

theorem withdrawFrame_onLine (tag : Nibble) (s : State) :
    (withdrawFrame tag s).line.onLine = s.line.onLine.map (withdrawn [tag]) := by
  unfold withdrawFrame withdrawn
  cases s.line.onLine with
  | none => rfl
  | some x => by_cases h : x.owner = .request tag <;> simp [h]

/-- What removing the entries of some tags leaves. -/
structure Removed (tags : List Nibble) (s t : State) : Prop where
  req : t.req = { s.req with outgoing := s.req.outgoing.filter (fun e => !tags.contains e.tag) }
  requests : t.line.requests = s.line.requests.filter (fun q => !tags.contains q.tag)
  onLine : t.line.onLine = s.line.onLine.map (withdrawn tags)
  line : LineButOutgoing s t
  faults : t.faults = s.faults

theorem removed_nil (s : State) : Removed [] s s := by
  have hnone : withdrawn [] = id := funext fun x => rfl
  exact ⟨by simp, by simp, by rw [hnone]; simp, .refl s, rfl⟩

theorem removed_one (tag : Nibble) (s : State) : Removed [tag] s (removeOutgoing tag s) := by
  refine ⟨?_, ?_, withdrawFrame_onLine tag _, removeOutgoing_line tag s, removeOutgoing_faults tag s⟩
  · rw [removeOutgoing_outgoing]
    simp
  · rw [removeOutgoing_requests]
    simp

theorem Removed.append {l l' : List Nibble} {s t u : State} (h : Removed l s t) (h' : Removed l' t u) :
    Removed (l ++ l') s u := by
  refine ⟨?_, ?_, ?_, h.line.trans h'.line, h'.faults.trans h.faults⟩
  · rw [h'.req, h.req, List.filter_filter]
    simp [Bool.and_comm]
  · rw [h'.requests, h.requests, List.filter_filter]
    simp [Bool.and_comm]
  · rw [h'.onLine, h.onLine, Option.map_map]
    exact congrArg (fun g => s.line.onLine.map g) (funext fun x => withdrawn_append l l' x)

theorem removed_foldl : ∀ (tags : List Nibble) (s : State), Removed tags s (tags.foldl (fun t tag => removeOutgoing tag t) s)
  | [], s => removed_nil s
  | tag :: tags, s => (removed_one tag s).append (removed_foldl tags _)

/-- Of a table with distinct tags, removing by the tags of some entries is removing these entries. -/
theorem filter_tags {l : List OutgoingEntry} (hnodup : (l.map OutgoingEntry.tag).Nodup) (p : OutgoingEntry → Bool) :
    l.filter (fun e => !((l.filter p).map OutgoingEntry.tag).contains e.tag) = l.filter (fun e => !p e) := by
  refine List.filter_congr fun e he => congrArg _ ?_
  rw [Bool.eq_iff_iff, List.contains_iff_mem, List.mem_map]
  refine ⟨fun ⟨x, hx, htag⟩ => ?_, fun hp => ⟨e, List.mem_filter.mpr ⟨he, hp⟩, rfl⟩⟩
  obtain ⟨hmem, hp⟩ := List.mem_filter.mp hx
  rwa [← eq_of_tag hnodup hmem he htag]

/-- The entries that an edge of the switch removes (R133). -/
def earlierEntry (i : Fin 8) (dest : Nibble) (made : List Nibble) (e : OutgoingEntry) : Bool :=
  e.switch = i && e.dest = dest && !made.contains e.tag

/-- The tags of the entries that a slot of the edge removes. -/
def goneTags (i : Fin 8) (dest : Nibble) (made : List Nibble) (s : State) : List Nibble :=
  (s.req.outgoing.filter (earlierEntry i dest made)).map OutgoingEntry.tag

theorem removeEarlier_removed (i : Fin 8) (dest : Nibble) (made : List Nibble) (s : State) :
    Removed (goneTags i dest made s) s (removeEarlier i dest made s) := removed_foldl _ s

theorem removeEarlier_outgoing {s : State} (hnodup : (s.req.outgoing.map OutgoingEntry.tag).Nodup) (i : Fin 8) (dest : Nibble)
    (made : List Nibble) : (removeEarlier i dest made s).req.outgoing
      = s.req.outgoing.filter (fun e => !earlierEntry i dest made e) := by
  rw [(removeEarlier_removed i dest made s).req]
  exact filter_tags hnodup _

/-! ### The slots of an edge (R133) -/

section
variable (b : StartBlock) (i : Fin 8) (onEdge : Bool) (made : List Nibble) (x : SwitchSlot) (s : State)

theorem serveSlot_full (h : 4 ≤ (removeEarlier i x.dest made s).req.outgoing.length) :
    serveSlot b i onEdge made (some x) s = raiseOnce .requestLost (removeEarlier i x.dest made s) := if_pos h

theorem serveSlot_makes (h : (removeEarlier i x.dest made s).req.outgoing.length < 4) :
    serveSlot b i onEdge made (some x) s = makeOutgoing b i onEdge x (removeEarlier i x.dest made s) :=
  if_neg (Nat.not_le.mpr h)

theorem madeTags_full (h : 4 ≤ (removeEarlier i x.dest made s).req.outgoing.length) : madeTags i made (some x) s = [] :=
  if_pos h

theorem madeTags_makes (h : (removeEarlier i x.dest made s).req.outgoing.length < 4) :
    madeTags i made (some x) s = [freshTag (removeEarlier i x.dest made s)] := if_neg (Nat.not_le.mpr h)

/-- The entry that a slot makes. -/
def madeEntry (tag : Nibble) : OutgoingEntry :=
  ⟨i, onEdge, x.dest, x.kind, x.args.take (argBytes x.kind), tag, b.line.repeatLimit, .queued, none⟩

/-- The frame that a slot queues. -/
def madeFrame (tag : Nibble) : QueuedRequest := ⟨x.dest, tag, x.kind, x.args.take (argBytes x.kind)⟩

/-- What a slot of an edge leaves beside the table and the queue. -/
structure SlotServed (s t : State) : Prop where
  line : LineButOutgoing s t
  switches : t.req.switches = s.req.switches
  active : ∀ k, Machine.active k t = Machine.active k s
  sticky : ∀ k, k ≠ .requestLost → Machine.sticky k t = Machine.sticky k s
  lost : Machine.sticky .requestLost s = true → Machine.sticky .requestLost t = true

end

theorem SlotServed.trans {s t u : State} (h : SlotServed s t) (h' : SlotServed t u) : SlotServed s u :=
  ⟨h.line.trans h'.line, h'.switches.trans h.switches, fun k => (h'.active k).trans (h.active k),
    fun k hk => (h'.sticky k hk).trans (h.sticky k hk), fun hs => h'.lost (h.lost hs)⟩

theorem SlotServed.refl (s : State) : SlotServed s s := ⟨.refl s, rfl, fun _ => rfl, fun _ _ => rfl, id⟩

theorem Removed.served {tags : List Nibble} {s t : State} (h : Removed tags s t) : SlotServed s t :=
  ⟨h.line, by rw [h.req], fun k => active_congr h.faults k, fun k _ => sticky_congr h.faults k,
    fun hs => by rw [sticky_congr h.faults, hs]⟩

theorem raiseLost_line (s : State) : (raiseOnce .requestLost s).line = s.line := by
  rw [raiseOnce_line]
  rfl

theorem raiseLost_served (s : State) : SlotServed s (raiseOnce .requestLost s) :=
  ⟨.of_line (raiseLost_line s), by rw [(raiseOnce_keeps _ _).req], fun k => active_raiseOnce _ k s,
    fun k hk => by rw [sticky_raiseOnce, if_neg hk], fun _ => by rw [sticky_raiseOnce, if_pos rfl]⟩

theorem makeOutgoing_served (b : StartBlock) (i : Fin 8) (onEdge : Bool) (x : SwitchSlot) (s : State) :
    SlotServed s (makeOutgoing b i onEdge x s) := ⟨⟨_, _, rfl, id⟩, rfl, fun _ => rfl, fun _ _ => rfl, id⟩

theorem serveSlot_served (b : StartBlock) (i : Fin 8) (onEdge : Bool) (made : List Nibble) (slot : Option SwitchSlot)
    (s : State) : SlotServed s (serveSlot b i onEdge made slot s) := by
  cases slot with
  | none => exact .refl s
  | some x =>
    have hremoved := (removeEarlier_removed i x.dest made s).served
    by_cases hfull : 4 ≤ (removeEarlier i x.dest made s).req.outgoing.length
    · rw [serveSlot_full b i onEdge made x s hfull]
      exact hremoved.trans (raiseLost_served _)
    · rw [serveSlot_makes b i onEdge made x s (Nat.lt_of_not_le hfull)]
      exact hremoved.trans (makeOutgoing_served ..)

theorem switchEdge_served (b : StartBlock) (i : Fin 8) (onEdge : Bool) (s : State) : SlotServed s (switchEdge b i onEdge s) :=
  (serveSlot_served ..).trans (serveSlot_served ..)

end Sys2Proof.Machine
end

section
/-! SUPPORT. The two slots of a switch edge (R132 to R135). -/

namespace Sys2Proof.Machine

-- One thread elaborates this section, so that the check's memory limit holds the stacks.
set_option Elab.async false

/-! ### One slot -/

/-- What a slot of an edge leaves of the table and the queue, with the entries that stay and the tags that go. -/
structure SlotLeaves (kept : List OutgoingEntry) (gone : List Nibble) (s t : State) (entries : List OutgoingEntry)
    (frames : List QueuedRequest) : Prop where
  outgoing : t.req.outgoing = kept ++ entries
  requests : t.line.requests = s.line.requests.filter (fun q => !gone.contains q.tag) ++ frames
  onLine : t.line.onLine = s.line.onLine.map (withdrawn gone)

section
variable {b : StartBlock} {i : Fin 8} {onEdge : Bool} {made : List Nibble} {x : SwitchSlot} {s : State}
  {kept : List OutgoingEntry}

/-- A slot with a place in the table makes its entry (R133, R134). -/
theorem slot_makes (hkept : (removeEarlier i x.dest made s).req.outgoing = kept) (hroom : kept.length < 4) :
    ∃ tag : Nibble, IsFreshTag (kept.map OutgoingEntry.tag) s.req.nextTag tag
      ∧ (serveSlot b i onEdge made (some x) s).req.nextTag = tag + 1
      ∧ (serveSlot b i onEdge made (some x) s).faults = s.faults
      ∧ madeTags i made (some x) s = [tag]
      ∧ SlotLeaves kept (goneTags i x.dest made s) s (serveSlot b i onEdge made (some x) s) [madeEntry b i onEdge x tag]
          [madeFrame x tag] := by
  have hremoved := removeEarlier_removed i x.dest made s
  have hnext : (removeEarlier i x.dest made s).req.nextTag = s.req.nextTag := by rw [hremoved.req]
  have hfresh := freshTag_spec (removeEarlier i x.dest made s) (by rw [hkept]; omega)
  rw [hkept, hnext] at hfresh
  rw [serveSlot_makes b i onEdge made x s (by rw [hkept]; exact hroom),
    madeTags_makes i made x s (by rw [hkept]; exact hroom)]
  refine ⟨_, hfresh, rfl, hremoved.faults, rfl, ?_, ?_, hremoved.onLine⟩
  · rw [← hkept]
    rfl
  · rw [← hremoved.requests]
    rfl

/-- A full table drops the slot's request (R133). -/
theorem slot_full (hkept : (removeEarlier i x.dest made s).req.outgoing = kept) (hfull : 4 ≤ kept.length) :
    (serveSlot b i onEdge made (some x) s).req.nextTag = s.req.nextTag
      ∧ sticky .requestLost (serveSlot b i onEdge made (some x) s) = true
      ∧ madeTags i made (some x) s = []
      ∧ SlotLeaves kept (goneTags i x.dest made s) s (serveSlot b i onEdge made (some x) s) [] [] := by
  have hremoved := removeEarlier_removed i x.dest made s
  rw [serveSlot_full b i onEdge made x s (by rw [hkept]; exact hfull), madeTags_full i made x s (by rw [hkept]; exact hfull)]
  refine ⟨?_, by rw [sticky_raiseOnce, if_pos rfl], rfl, ?_, ?_, ?_⟩
  · rw [(raiseOnce_keeps _ _).req, hremoved.req]
  · rw [(raiseOnce_keeps _ _).req, hkept, List.append_nil]
  · rw [raiseLost_line, hremoved.requests, List.append_nil]
  · rw [raiseLost_line, hremoved.onLine]

end

/-! ### The entries of the second slot -/

theorem earlierEntry_first (i : Fin 8) (dest : Nibble) :
    earlierEntry i dest [] = fun e => decide (e.switch = i ∧ e.dest = dest) := by
  funext e
  simp [earlierEntry]

/-- The entry that the first slot made stays (R133). -/
theorem earlierEntry_made {b : StartBlock} {i : Fin 8} {onEdge : Bool} {x : SwitchSlot} {tag dest : Nibble} :
    earlierEntry i dest [tag] (madeEntry b i onEdge x tag) = false := by
  simp [earlierEntry, madeEntry]

theorem earlierEntry_second {i : Fin 8} {dest tag : Nibble} {e : OutgoingEntry} (h : e.tag ≠ tag) :
    earlierEntry i dest [tag] e = decide (e.switch = i ∧ e.dest = dest) := by
  simp [earlierEntry, h]

section
variable {b : StartBlock} {i : Fin 8} {onEdge : Bool} {x : SwitchSlot} {tag dest : Nibble} {l : List OutgoingEntry}

theorem second_filter (hfresh : tag ∉ l.map OutgoingEntry.tag) :
    (l ++ [madeEntry b i onEdge x tag]).filter (earlierEntry i dest [tag])
      = l.filter (fun e => decide (e.switch = i ∧ e.dest = dest)) := by
  rw [List.filter_append, List.filter_singleton, earlierEntry_made]
  simp only [cond_false, List.append_nil]
  refine List.filter_congr fun e he => earlierEntry_second fun htag => ?_
  exact hfresh (htag ▸ List.mem_map_of_mem he)

theorem second_filter_not (hfresh : tag ∉ l.map OutgoingEntry.tag) :
    (l ++ [madeEntry b i onEdge x tag]).filter (fun e => !earlierEntry i dest [tag] e)
      = l.filter (fun e => !decide (e.switch = i ∧ e.dest = dest)) ++ [madeEntry b i onEdge x tag] := by
  rw [List.filter_append, List.filter_singleton, earlierEntry_made]
  simp only [Bool.not_false, cond_true]
  refine congrArg (· ++ _) (List.filter_congr fun e he => congrArg _ (earlierEntry_second fun htag => ?_))
  exact hfresh (htag ▸ List.mem_map_of_mem he)

theorem second_nodup (hnodup : (l.map OutgoingEntry.tag).Nodup) (hfresh : tag ∉ l.map OutgoingEntry.tag) :
    ((l ++ [madeEntry b i onEdge x tag]).map OutgoingEntry.tag).Nodup := by
  rw [List.map_append, List.nodup_append]
  refine ⟨hnodup, by simp, ?_⟩
  intro a ha c hc heq
  simp only [List.map_cons, List.map_nil, List.mem_singleton] at hc
  exact hfresh (by rw [← show a = tag from heq.trans hc]; exact ha)

end

theorem filter_nodup {l : List OutgoingEntry} (hnodup : (l.map OutgoingEntry.tag).Nodup) (p : OutgoingEntry → Bool) :
    ((l.filter p).map OutgoingEntry.tag).Nodup := hnodup.sublist (List.filter_sublist.map _)

theorem withdrawn_some (gone : List Nibble) (z : Sending) : some (withdrawn gone z)
    = if gone.any (fun tag => z.owner = .request tag) then some { z with owner := .orphan } else some z := by
  unfold withdrawn
  split <;> rfl

/-- The requests that wait through both removals, with the frame queued between them. -/
theorem filter_between (l : List QueuedRequest) (gone gone' : List Nibble) (frames : List QueuedRequest)
    (h : ∀ q ∈ frames, q.tag ∉ gone') :
    (l.filter (fun q => !gone.contains q.tag) ++ frames).filter (fun q => !gone'.contains q.tag)
      = l.filter (fun q => !(gone ++ gone').contains q.tag) ++ frames := by
  rw [List.filter_append, List.filter_filter]
  congr 1
  · exact List.filter_congr fun q _ => by simp [Bool.and_comm]
  · exact List.filter_eq_self.mpr fun q hq => by simpa using h q hq

/-! ### The expiry -/

theorem exec_settling {i : Fin 8} {s : State} {b : StartBlock} {ms : Nat} (himage : s.start.image = some b)
    (hsettle : (s.req.switches[i]).settle = some ms) (hms : 20 ≤ ms) : exec (.settlingTimerExpiry i) s
    = .next (if s.start.station = .running then
        switchEdge b i (s.req.switches[i]).raw (s.withSwitch i ⟨(s.req.switches[i]).raw, (s.req.switches[i]).raw, none⟩)
      else s.withSwitch i ⟨(s.req.switches[i]).raw, (s.req.switches[i]).raw, none⟩) := by
  have hdue : settlingDue i s = true := by
    rw [settlingDue, hsettle]
    exact decide_eq_true hms
  have hexec : exec (.settlingTimerExpiry i) s = execSettlingTimerExpiry i s := rfl
  rw [hexec, execSettlingTimerExpiry, if_pos hdue]
  simp only [himage]
  split <;> rfl

theorem settled_served {i : Fin 8} {s : State} {b : StartBlock} {d : Debouncer} {onEdge : Bool} :
    SlotServed (s.withSwitch i d)
      (if s.start.station = .running then switchEdge b i onEdge (s.withSwitch i d) else s.withSwitch i d) := by
  split
  · exact switchEdge_served ..
  · exact .refl _

end Sys2Proof.Machine
end

section
/-! SUPPORT. A switch edge as it makes its requests (R132 to R135). -/

namespace Sys2Proof.Machine

-- One thread elaborates this section, so that the check's memory limit holds the stacks.
set_option Elab.async false

section
variable {b : StartBlock} {i : Fin 8} {onEdge : Bool} {s : State}

theorem switchEdge_none (h0 : slotAt b i onEdge 0 = none) (h1 : slotAt b i onEdge 1 = none) : switchEdge b i onEdge s = s := by
  rw [switchEdge, h0, h1]
  rfl

theorem switchEdge_one {x : SwitchSlot} (h : (slotAt b i onEdge 0 = some x ∧ slotAt b i onEdge 1 = none)
    ∨ (slotAt b i onEdge 0 = none ∧ slotAt b i onEdge 1 = some x)) :
    switchEdge b i onEdge s = serveSlot b i onEdge [] (some x) s := by
  rcases h with ⟨h0, h1⟩ | ⟨h0, h1⟩ <;> rw [switchEdge, h0, h1] <;> rfl

theorem switchEdge_two {x y : SwitchSlot} (h0 : slotAt b i onEdge 0 = some x) (h1 : slotAt b i onEdge 1 = some y) :
    switchEdge b i onEdge s
      = serveSlot b i onEdge (madeTags i [] (some x) s) (some y) (serveSlot b i onEdge [] (some x) s) := by
  rw [switchEdge, h0, h1]

end

/-! ### The table after both slots -/

/-- The entries of an edge of the switch to a destination. -/
def edgeEntry (i : Fin 8) (dest : Nibble) (e : OutgoingEntry) : Bool := decide (e.switch = i ∧ e.dest = dest)

/-- The entries that stay. -/
def keptEntries (i : Fin 8) (dest : Nibble) (l : List OutgoingEntry) : List OutgoingEntry :=
  l.filter (fun e => !edgeEntry i dest e)

/-- The tags of the entries that go. -/
def removedTags (i : Fin 8) (dest : Nibble) (l : List OutgoingEntry) : List Nibble :=
  (l.filter (edgeEntry i dest)).map OutgoingEntry.tag

theorem goneTags_first (i : Fin 8) (dest : Nibble) (s : State) : goneTags i dest [] s = removedTags i dest s.req.outgoing := by
  rw [goneTags, earlierEntry_first]
  rfl

theorem kept_first {i : Fin 8} {dest : Nibble} {s : State} (hnodup : (s.req.outgoing.map OutgoingEntry.tag).Nodup) :
    (removeEarlier i dest [] s).req.outgoing = keptEntries i dest s.req.outgoing := by
  rw [removeEarlier_outgoing hnodup, earlierEntry_first]
  rfl

theorem keptEntries_nodup {i : Fin 8} {dest : Nibble} {l : List OutgoingEntry} (hnodup : (l.map OutgoingEntry.tag).Nodup) :
    ((keptEntries i dest l).map OutgoingEntry.tag).Nodup := filter_nodup hnodup _

theorem removedTags_subset {i : Fin 8} {dest : Nibble} {l : List OutgoingEntry} {tag : Nibble}
    (h : tag ∈ removedTags i dest l) : tag ∈ l.map OutgoingEntry.tag := by
  obtain ⟨e, he, rfl⟩ := List.mem_map.mp h
  exact List.mem_map_of_mem (List.mem_filter.mp he).1

/-- What an edge of two slots leaves: the entries of the second slot join those of the first. -/
structure EdgeLeaves (i : Fin 8) (x y : SwitchSlot) (s t : State) (entries : List OutgoingEntry)
    (frames : List QueuedRequest) : Prop where
  outgoing : t.req.outgoing = keptEntries i y.dest (keptEntries i x.dest s.req.outgoing) ++ entries
  requests : t.line.requests = s.line.requests.filter (fun q => !(removedTags i x.dest s.req.outgoing
    ++ removedTags i y.dest (keptEntries i x.dest s.req.outgoing)).contains q.tag) ++ frames
  onLine : t.line.onLine = s.line.onLine.map (withdrawn (removedTags i x.dest s.req.outgoing
    ++ removedTags i y.dest (keptEntries i x.dest s.req.outgoing)))

section
variable {b : StartBlock} {i : Fin 8} {onEdge : Bool} {x y : SwitchSlot} {s u t : State}
  {entries frames : List _}

theorem edgeLeaves_after_full (hfirst : SlotLeaves (keptEntries i x.dest s.req.outgoing) (removedTags i x.dest s.req.outgoing) s u [] [])
    {entries : List OutgoingEntry} {frames : List QueuedRequest}
    (hsecond : SlotLeaves (keptEntries i y.dest u.req.outgoing) (removedTags i y.dest u.req.outgoing) u t entries frames) :
    EdgeLeaves i x y s t entries frames := by
  have hu : u.req.outgoing = keptEntries i x.dest s.req.outgoing := by rw [hfirst.outgoing, List.append_nil]
  rw [hu] at hsecond
  refine ⟨hsecond.outgoing, ?_, ?_⟩
  · rw [hsecond.requests, hfirst.requests, filter_between _ _ _ [] (by simp), List.append_nil]
  · rw [hsecond.onLine, hfirst.onLine, Option.map_map]
    exact congrArg (fun g => s.line.onLine.map g) (funext fun z => withdrawn_append _ _ z)

/-- What removing before the second slot does where the first has made its entry. -/
theorem second_after_made {tag : Nibble} (hnodup : (s.req.outgoing.map OutgoingEntry.tag).Nodup)
    (hfresh : tag ∉ (keptEntries i x.dest s.req.outgoing).map OutgoingEntry.tag)
    (hfirst : SlotLeaves (keptEntries i x.dest s.req.outgoing) (removedTags i x.dest s.req.outgoing) s u
      [madeEntry b i onEdge x tag] [madeFrame x tag]) :
    (removeEarlier i y.dest [tag] u).req.outgoing
        = keptEntries i y.dest (keptEntries i x.dest s.req.outgoing) ++ [madeEntry b i onEdge x tag]
      ∧ goneTags i y.dest [tag] u = removedTags i y.dest (keptEntries i x.dest s.req.outgoing) := by
  have hunodup : (u.req.outgoing.map OutgoingEntry.tag).Nodup := by
    rw [hfirst.outgoing]
    exact second_nodup (keptEntries_nodup hnodup) hfresh
  refine ⟨?_, ?_⟩
  · rw [removeEarlier_outgoing hunodup, hfirst.outgoing, second_filter_not hfresh]
    rfl
  · rw [goneTags, hfirst.outgoing, second_filter hfresh]
    rfl

theorem edgeLeaves_after_made {tag : Nibble} (hfresh : tag ∉ (keptEntries i x.dest s.req.outgoing).map OutgoingEntry.tag)
    (hfirst : SlotLeaves (keptEntries i x.dest s.req.outgoing) (removedTags i x.dest s.req.outgoing) s u
      [madeEntry b i onEdge x tag] [madeFrame x tag]) {entries : List OutgoingEntry} {frames : List QueuedRequest}
    (hsecond : SlotLeaves (keptEntries i y.dest (keptEntries i x.dest s.req.outgoing) ++ [madeEntry b i onEdge x tag])
      (removedTags i y.dest (keptEntries i x.dest s.req.outgoing)) u t entries frames) :
    EdgeLeaves i x y s t (madeEntry b i onEdge x tag :: entries) (madeFrame x tag :: frames) := by
  refine ⟨?_, ?_, ?_⟩
  · rw [hsecond.outgoing, List.append_assoc]
    rfl
  · have hmade : ∀ q ∈ [madeFrame x tag], q.tag ∉ removedTags i y.dest (keptEntries i x.dest s.req.outgoing) := by
      intro q hq hmem
      rw [List.mem_singleton.mp hq] at hmem
      exact hfresh (removedTags_subset hmem)
    rw [hsecond.requests, hfirst.requests, filter_between _ _ _ _ hmade, List.append_assoc]
    rfl
  · rw [hsecond.onLine, hfirst.onLine, Option.map_map]
    exact congrArg (fun g => s.line.onLine.map g) (funext fun z => withdrawn_append _ _ z)

end

end Sys2Proof.Machine
end

section
/-! SUPPORT. SWITCH_LEVEL_CHANGE and SETTLING_TIMER_EXPIRY (R132 to R135). -/

namespace Sys2Proof.Machine

-- One thread elaborates this section, so that the check's memory limit holds the stacks.
set_option Elab.async false

section
variable {b : StartBlock} {i : Fin 8} {onEdge : Bool} {x y : SwitchSlot} {s : State}

/-- An edge with one slot. -/
theorem edge_one (hnodup : (s.req.outgoing.map OutgoingEntry.tag).Nodup)
    (h : (slotAt b i onEdge 0 = some x ∧ slotAt b i onEdge 1 = none)
      ∨ (slotAt b i onEdge 0 = none ∧ slotAt b i onEdge 1 = some x)) :
    ((keptEntries i x.dest s.req.outgoing).length < 4 → ∃ tag : Nibble,
      IsFreshTag ((keptEntries i x.dest s.req.outgoing).map OutgoingEntry.tag) s.req.nextTag tag
      ∧ (switchEdge b i onEdge s).req.nextTag = tag + 1 ∧ (switchEdge b i onEdge s).faults = s.faults
      ∧ SlotLeaves (keptEntries i x.dest s.req.outgoing) (removedTags i x.dest s.req.outgoing) s (switchEdge b i onEdge s)
          [madeEntry b i onEdge x tag] [madeFrame x tag])
    ∧ (4 ≤ (keptEntries i x.dest s.req.outgoing).length → (switchEdge b i onEdge s).req.nextTag = s.req.nextTag
      ∧ sticky .requestLost (switchEdge b i onEdge s) = true
      ∧ SlotLeaves (keptEntries i x.dest s.req.outgoing) (removedTags i x.dest s.req.outgoing) s (switchEdge b i onEdge s) [] []) := by
  rw [switchEdge_one h, ← goneTags_first]
  refine ⟨fun hroom => ?_, fun hfull => ?_⟩
  · obtain ⟨tag, hfresh, hnext, hfaults, -, hleaves⟩ := slot_makes (b := b) (onEdge := onEdge) (kept_first hnodup) hroom
    exact ⟨tag, hfresh, hnext, hfaults, hleaves⟩
  · obtain ⟨hnext, hlost, -, hleaves⟩ := slot_full (b := b) (onEdge := onEdge) (kept_first hnodup) hfull
    exact ⟨hnext, hlost, hleaves⟩

/-- An edge with two slots, by the places that each finds. -/
theorem edge_two (hnodup : (s.req.outgoing.map OutgoingEntry.tag).Nodup) (h0 : slotAt b i onEdge 0 = some x)
    (h1 : slotAt b i onEdge 1 = some y) :
    let first := keptEntries i x.dest s.req.outgoing
    let second := keptEntries i y.dest first
    let t := switchEdge b i onEdge s
    (first.length < 4 → second.length < 3 → ∃ tag tag' : Nibble,
      IsFreshTag (first.map OutgoingEntry.tag) s.req.nextTag tag
      ∧ IsFreshTag ((second ++ [madeEntry b i onEdge x tag]).map OutgoingEntry.tag) (tag + 1) tag'
      ∧ t.req.nextTag = tag' + 1 ∧ t.faults = s.faults
      ∧ EdgeLeaves i x y s t [madeEntry b i onEdge x tag, madeEntry b i onEdge y tag'] [madeFrame x tag, madeFrame y tag'])
    ∧ (first.length < 4 → 3 ≤ second.length → ∃ tag : Nibble,
      IsFreshTag (first.map OutgoingEntry.tag) s.req.nextTag tag
      ∧ t.req.nextTag = tag + 1 ∧ sticky .requestLost t = true
      ∧ EdgeLeaves i x y s t [madeEntry b i onEdge x tag] [madeFrame x tag])
    ∧ (4 ≤ first.length → second.length < 4 → ∃ tag : Nibble,
      IsFreshTag (second.map OutgoingEntry.tag) s.req.nextTag tag
      ∧ t.req.nextTag = tag + 1 ∧ sticky .requestLost t = true
      ∧ EdgeLeaves i x y s t [madeEntry b i onEdge y tag] [madeFrame y tag])
    ∧ (4 ≤ first.length → 4 ≤ second.length →
      t.req.nextTag = s.req.nextTag ∧ sticky .requestLost t = true ∧ EdgeLeaves i x y s t [] []) := by
  intro first second t
  have ht : t = serveSlot b i onEdge (madeTags i [] (some x) s) (some y) (serveSlot b i onEdge [] (some x) s) :=
    switchEdge_two h0 h1
  rw [ht]
  have hmakes : first.length < 4 → _ := slot_makes (b := b) (onEdge := onEdge) (kept_first (dest := x.dest) hnodup)
  have hdrops : 4 ≤ first.length → _ := slot_full (b := b) (onEdge := onEdge) (kept_first (dest := x.dest) hnodup)
  rw [goneTags_first] at hmakes hdrops
  generalize serveSlot b i onEdge [] (some x) s = u at hmakes hdrops
  have hafter : 4 ≤ first.length → u.req.outgoing = first ∧ (u.req.outgoing.map OutgoingEntry.tag).Nodup := fun hfull => by
    obtain ⟨-, -, -, hleaves⟩ := hdrops hfull
    have hu : u.req.outgoing = first := by rw [hleaves.outgoing, List.append_nil]
    exact ⟨hu, by rw [hu]; exact keptEntries_nodup hnodup⟩
  refine ⟨fun hroom hroom' => ?_, fun hroom hfull' => ?_, fun hfull hroom' => ?_, fun hfull hfull' => ?_⟩
  · obtain ⟨tag, hfresh, hnext, hfaults, hmade, hleaves⟩ := hmakes hroom
    obtain ⟨hkept, hgone⟩ := second_after_made (y := y) hnodup hfresh.1 hleaves
    obtain ⟨tag', hfresh', hnext', hfaults', -, hleaves'⟩ := slot_makes (b := b) (onEdge := onEdge) hkept
      (by rw [List.length_append, List.length_singleton]; exact Nat.succ_lt_succ hroom')
    rw [hgone] at hleaves'
    rw [hmade]
    rw [hnext] at hfresh'
    exact ⟨tag, tag', hfresh, hfresh', hnext', hfaults'.trans hfaults, edgeLeaves_after_made hfresh.1 hleaves hleaves'⟩
  · obtain ⟨tag, hfresh, hnext, hfaults, hmade, hleaves⟩ := hmakes hroom
    obtain ⟨hkept, hgone⟩ := second_after_made (y := y) hnodup hfresh.1 hleaves
    obtain ⟨hnext', hlost, -, hleaves'⟩ := slot_full (b := b) (onEdge := onEdge) hkept
      (by rw [List.length_append, List.length_singleton]; exact Nat.succ_le_succ hfull')
    rw [hgone] at hleaves'
    rw [hmade]
    exact ⟨tag, hfresh, hnext'.trans hnext, hlost, edgeLeaves_after_made hfresh.1 hleaves hleaves'⟩
  · obtain ⟨hnext, hlost, hmade, hleaves⟩ := hdrops hfull
    obtain ⟨hu, hunodup⟩ := hafter hfull
    rw [hmade]
    have hserved := serveSlot_served b i onEdge [] (some y) u
    obtain ⟨tag, hfresh', hnext', -, -, hleaves'⟩ := slot_makes (b := b) (onEdge := onEdge) (kept_first (dest := y.dest) hunodup)
      (by rw [hu]; exact hroom')
    rw [goneTags_first] at hleaves'
    rw [hnext, hu] at hfresh'
    exact ⟨tag, hfresh', hnext', hserved.lost hlost, edgeLeaves_after_full hleaves hleaves'⟩
  · obtain ⟨hnext, hlost, hmade, hleaves⟩ := hdrops hfull
    obtain ⟨hu, hunodup⟩ := hafter hfull
    rw [hmade]
    obtain ⟨hnext', hlost', -, hleaves'⟩ := slot_full (b := b) (onEdge := onEdge) (kept_first (dest := y.dest) hunodup)
      (by rw [hu]; exact hfull')
    rw [goneTags_first] at hleaves'
    exact ⟨hnext'.trans hnext, hlost', edgeLeaves_after_full hleaves hleaves'⟩

end

/-- Settles O47: the debouncer by its cases, and an edge by the slots it has and the places they find. -/
theorem switchesSettleAndMakeRequests : Obligations.SwitchesSettleAndMakeRequests := by
  refine ⟨by decide, fun i level s => ?_, fun i s b ms himage hsettle hms hnodup => ?_⟩
  · have hkeeps := withSwitch_keeps s i
      (if periodsRun s then (s.req.switches[i]).see level else { s.req.switches[i] with raw := level })
    refine ⟨_, exec_switchLevel i level s, hkeeps, rfl, rfl, rfl, fun j hj => withSwitch_other s hj _, ?_⟩
    rw [withSwitch_self]
    obtain ⟨hsame, hstart, hruns⟩ := see_settle (s.req.switches[i]) level
    cases hperiods : periodsRun s with
    | true =>
      exact ⟨rfl, rfl, fun _ => hsame, fun _ => hstart, fun ms _ => hruns ms, fun h => (by cases h)⟩
    | false =>
      exact ⟨rfl, rfl, fun h => (by cases h), fun h => (by cases h), fun ms h => (by cases h), fun _ => rfl⟩
  · intro d k
    have hexec : exec (.settlingTimerExpiry i) s = .next (if s.start.station = .running then
        switchEdge b i d.raw (s.withSwitch i ⟨d.raw, d.raw, none⟩) else s.withSwitch i ⟨d.raw, d.raw, none⟩) :=
      exec_settling himage hsettle hms
    have hserved := settled_served (i := i) (s := s) (b := b) (d := ⟨d.raw, d.raw, none⟩) (onEdge := d.raw)
    have hu := withSwitch_keeps s i ⟨d.raw, d.raw, none⟩
    have hkeeps : KeepsAllBut [.line, .req, .faults] s (if s.start.station = .running then
        switchEdge b i d.raw (s.withSwitch i ⟨d.raw, d.raw, none⟩) else s.withSwitch i ⟨d.raw, d.raw, none⟩) := by
      refine (hu.mono).trans ?_
      split
      · exact switchEdge_keeps b i d.raw _
      · exact .refl _ _
    have htable : (if s.start.station = .running then
        switchEdge b i d.raw (s.withSwitch i ⟨d.raw, d.raw, none⟩) else s.withSwitch i ⟨d.raw, d.raw, none⟩).req.table
        = s.req.table := by
      split
      · exact switchEdge_table b i d.raw _
      · rfl
    have hself : (s.withSwitch i ⟨d.raw, d.raw, none⟩).req.switches[i] = ⟨d.raw, d.raw, none⟩ := withSwitch_self ..
    have hother : ∀ j : Fin 8, j ≠ i → (s.withSwitch i ⟨d.raw, d.raw, none⟩).req.switches[j] = s.req.switches[j] :=
      fun j hj => withSwitch_other s hj _
    have huout : (s.withSwitch i ⟨d.raw, d.raw, none⟩).req.outgoing = s.req.outgoing := rfl
    have hunext : (s.withSwitch i ⟨d.raw, d.raw, none⟩).req.nextTag = s.req.nextTag := rfl
    have huline : (s.withSwitch i ⟨d.raw, d.raw, none⟩).line = s.line := hu.line
    have hufaults : (s.withSwitch i ⟨d.raw, d.raw, none⟩).faults = s.faults := hu.faults
    generalize s.withSwitch i ⟨d.raw, d.raw, none⟩ = u at hexec hserved hkeeps htable hself hother huout hunext huline hufaults
    have hunodup : (u.req.outgoing.map OutgoingEntry.tag).Nodup := by rw [huout]; exact hnodup
    have hline : LineButOutgoing s (if s.start.station = .running then switchEdge b i d.raw u else u) :=
      (LineButOutgoing.of_line huline).trans hserved.line
    refine ⟨_, hexec, hkeeps, htable, by rw [hserved.switches, hself], fun j hj => by rw [hserved.switches, hother j hj],
      hline.same, hline.idle, fun k => by rw [hserved.active, active_congr hufaults],
      fun k hk => by rw [hserved.sticky k hk, sticky_congr hufaults], fun hstop => ?_, fun hrun h0 h1 => ?_, ?_⟩
    · rw [if_neg hstop]
      exact ⟨huout, hunext, huline, hufaults⟩
    · rw [if_pos hrun, switchEdge_none h0 h1]
      exact ⟨huout, hunext, huline, hufaults⟩
    · intro made frame earlier kept
      refine ⟨fun x hrun hor => ?_, fun x y hrun h0 h1 => ?_⟩
      · intro first gone waiting
        rw [if_pos hrun]
        obtain ⟨hmakes, hdrops⟩ := edge_one hunodup hor
        rw [huout, hunext] at hmakes hdrops
        refine ⟨fun hroom => ?_, fun hfull => ?_, fun z hz => ?_⟩
        · obtain ⟨tag, hfresh, hnext, hfaults, hleaves⟩ := hmakes hroom
          exact ⟨tag, hfresh, hnext, hleaves.outgoing, by rw [hleaves.requests, huline]; rfl, hfaults.trans hufaults⟩
        · obtain ⟨hnext, hlost, hleaves⟩ := hdrops hfull
          exact ⟨hnext, by rw [hleaves.outgoing, List.append_nil]; rfl, by rw [hleaves.requests, huline, List.append_nil]; rfl, hlost⟩
        · have honline : (switchEdge b i d.raw u).line.onLine = u.line.onLine.map (withdrawn gone) := by
            by_cases hroom : first.length < 4
            · obtain ⟨tag, -, -, -, hleaves⟩ := hmakes hroom
              exact hleaves.onLine
            · obtain ⟨-, -, hleaves⟩ := hdrops (Nat.le_of_not_lt hroom)
              exact hleaves.onLine
          rw [honline, huline, hz, ← withdrawn_some]
          rfl
      · intro first second gone waiting fresh
        rw [if_pos hrun]
        obtain ⟨hboth, hfirst, hsecond, hnone⟩ := edge_two hunodup h0 h1
        rw [huout, hunext] at hboth hfirst hsecond hnone
        have hedge : ∀ {entries frames}, EdgeLeaves i x y u (switchEdge b i d.raw u) entries frames →
            (switchEdge b i d.raw u).req.outgoing = second ++ entries
            ∧ (switchEdge b i d.raw u).line.requests = waiting ++ frames
            ∧ (switchEdge b i d.raw u).line.onLine = s.line.onLine.map (withdrawn gone) := fun hleaves => by
          refine ⟨?_, ?_, ?_⟩
          · rw [hleaves.outgoing, huout]
            rfl
          · rw [hleaves.requests, huout, huline]
            rfl
          · rw [hleaves.onLine, huout, huline]
            rfl
        refine ⟨fun hroom hroom' => ?_, fun hroom hfull' => ?_, fun hfull hroom' => ?_, fun hfull hfull' => ?_, fun z hz => ?_⟩
        · obtain ⟨tag, tag', hfresh, hfresh', hnext, hfaults, hleaves⟩ := hboth hroom hroom'
          obtain ⟨hout, hwait, -⟩ := hedge hleaves
          exact ⟨tag, tag', hfresh, hfresh', hnext, hout, hwait, hfaults.trans hufaults⟩
        · obtain ⟨tag, hfresh, hnext, hlost, hleaves⟩ := hfirst hroom hfull'
          obtain ⟨hout, hwait, -⟩ := hedge hleaves
          exact ⟨tag, hfresh, hnext, hout, hwait, hlost⟩
        · obtain ⟨tag, hfresh, hnext, hlost, hleaves⟩ := hsecond hfull hroom'
          obtain ⟨hout, hwait, -⟩ := hedge hleaves
          exact ⟨tag, hfresh, hnext, hout, hwait, hlost⟩
        · obtain ⟨hnext, hlost, hleaves⟩ := hnone hfull hfull'
          obtain ⟨hout, hwait, -⟩ := hedge hleaves
          exact ⟨hnext, by rw [hout, List.append_nil], by rw [hwait, List.append_nil], hlost⟩
        · have honline : (switchEdge b i d.raw u).line.onLine = s.line.onLine.map (withdrawn gone) := by
            by_cases hroom : first.length < 4
            · by_cases hroom' : second.length < 3
              · obtain ⟨tag, tag', -, -, -, -, hleaves⟩ := hboth hroom hroom'
                exact (hedge hleaves).2.2
              · obtain ⟨tag, -, -, -, hleaves⟩ := hfirst hroom (Nat.le_of_not_lt hroom')
                exact (hedge hleaves).2.2
            · by_cases hroom' : second.length < 4
              · obtain ⟨tag, -, -, -, hleaves⟩ := hsecond (Nat.le_of_not_lt hroom) hroom'
                exact (hedge hleaves).2.2
              · obtain ⟨-, -, hleaves⟩ := hnone (Nat.le_of_not_lt hroom) (Nat.le_of_not_lt hroom')
                exact (hedge hleaves).2.2
          rw [honline, hz, ← withdrawn_some]
          rfl

end Sys2Proof.Machine
end

section
/-! SUPPORT. The arbiter, the contest and the end of a frame (R139, R144, R145, R147, R149, R151). -/

namespace Sys2Proof.Machine

-- One thread elaborates this section, so that the check's memory limit holds the stacks.
set_option Elab.async false

/-! ### The contest (R139, R176) -/

theorem numOf_cons (a : Bool) (l : List Bool) : numOf (a :: l) = a.toNat * 2 ^ l.length + numOf l := by
  have h := numOf_append [a] l
  simpa [numOf] using h

/-- Of two fields of the same length, the lower number wins. -/
theorem winsContest_of_lt : ∀ (a b x y : List Bool), a.length = b.length → numOf a < numOf b →
    winsContest (a ++ x) (b ++ y) = true ∧ winsContest (b ++ y) (a ++ x) = false
  | [], [], _, _, _, h => absurd h (Nat.lt_irrefl _)
  | [], _ :: _, _, _, hlen, _ => by simp at hlen
  | _ :: _, [], _, _, hlen, _ => by simp at hlen
  | c :: a, d :: b, x, y, hlen, h => by
    have hlen' : a.length = b.length := by simpa using hlen
    have ha := numOf_lt a
    have hb := numOf_lt b
    rw [numOf_cons, numOf_cons, ← hlen'] at h
    rw [← hlen'] at hb
    simp only [List.cons_append, winsContest]
    cases c <;> cases d
    · simpa using winsContest_of_lt a b x y hlen' (by simpa using h)
    · simp
    · simp only [Bool.toNat_true, Bool.toNat_false] at h
      omega
    · simpa using winsContest_of_lt a b x y hlen' (by simpa using h)

theorem winsContest_diff (head tail tail' : List Bool) : winsContest (head ++ false :: tail) (head ++ true :: tail') = true
    ∧ winsContest (head ++ true :: tail) (head ++ false :: tail') = false ∧ winsContest head head = true := by
  induction head with
  | nil => exact ⟨rfl, rfl, rfl⟩
  | cons a head ih => simpa [winsContest] using ih

/-- The class and the source lead the frame (R176). -/
theorem frameBits_priority (f : Frame) : ∃ rest, frameBits f = (bitsOf (classCode f.cls) ++ bitsOf f.src) ++ rest := by
  refine ⟨bitsOf f.dst ++ bitsOf f.kind ++ bitsOf (BitVec.ofNat 5 f.payload.length) ++ f.payload.flatMap bitsOf
    ++ bitsOf (crc (bodyBits f)), ?_⟩
  simp [frameBits, bodyBits, headerBits]

theorem priority_numOf (f : Frame) :
    numOf (bitsOf (classCode f.cls) ++ bitsOf f.src) = (classCode f.cls).toNat * 16 + f.src.toNat := by
  rw [numOf_append, numOf_bitsOf, numOf_bitsOf, bitsOf_length]
  rfl

/-! ### The arbiter (R144, R145) -/

section
variable {s : State} {rival : Option Frame} {o : Offer}

theorem exec_lineIdle_none (hline : s.line.onLine = none) (h : chosenOffer s = none) : exec (.lineIdle rival) s = .next s := by
  have htransmits : transmitting s = false := by rw [transmitting, hline]; rfl
  have hexec : exec (.lineIdle rival) s = execLineIdle rival s := rfl
  rw [hexec, execLineIdle, htransmits, h]
  rfl

theorem exec_lineIdle_some (hline : s.line.onLine = none) (h : chosenOffer s = some o) : exec (.lineIdle rival) s
    = if winsLine (frameOf s (Config.freeTagHigh s.free) o) rival then
        .next (putOnLine o (frameOf s (Config.freeTagHigh s.free) o) (s.withFree (s.free + 1)))
      else .next (s.withFree (s.free + 1)) := by
  have htransmits : transmitting s = false := by rw [transmitting, hline]; rfl
  have hexec : exec (.lineIdle rival) s = execLineIdle rival s := rfl
  rw [hexec, execLineIdle, htransmits, h]
  rfl

/-- The chosen frame goes on an idle line. -/
theorem exec_lineIdle_offers (hline : s.line.onLine = none) (h : chosenOffer s = some o) : exec (.lineIdle none) s
    = .next (putOnLine o (frameOf s (Config.freeTagHigh s.free) o) (s.withFree (s.free + 1))) :=
  (exec_lineIdle_some hline h).trans (if_pos rfl)

theorem putOnLine_other (h : o ≠ .report) (f : Frame) (s : State) : putOnLine o f s = s.withLine { s.line with
    guardTime := 0, onLine := some ⟨ownerOf o, f⟩ } := by
  rw [putOnLine, if_neg h]

theorem transmitterOn_iff (s : State) : transmitterOn s = true ↔ s.start.station = .listening ∨ s.start.station = .running
    ∨ (s.start.station = .failedStart ∧ s.line.heldOff = false) := by
  unfold transmitterOn
  cases hs : s.start.station <;> simp

theorem chosenOffer_off (h : transmitterOn s = false) : chosenOffer s = none := by
  rw [chosenOffer, h]
  rfl

theorem chosenOffer_alert {k : FaultKind} (hon : transmitterOn s = true) (h : s.line.alertSlot = some k) :
    chosenOffer s = some (.alert k) := by
  rw [chosenOffer, hon, h]
  rfl

theorem chosenOffer_answer {a : Answer} (hon : transmitterOn s = true) (hslot : s.line.alertSlot = none)
    (h : freeAnswer s = some a) : chosenOffer s = some (.answer a) := by
  rw [chosenOffer, hon, hslot, h]
  rfl

theorem chosenOffer_rest (hon : transmitterOn s = true) (hslot : s.line.alertSlot = none) (h : freeAnswer s = none) :
    chosenOffer s = if s.line.reportDue && sendsReports s then some .report else (freeRequest s).map Offer.request := by
  rw [chosenOffer, hon, hslot, h]
  rfl

theorem freeAnswer_some {a : Answer} {rest : List Answer} (h : s.line.answers = a :: rest) (hmark : a.mark = none) :
    freeAnswer s = some a := by
  rw [freeAnswer, h]
  simp [hmark]

theorem freeAnswer_none (h : ¬ ∃ a rest, s.line.answers = a :: rest ∧ a.mark = none) : freeAnswer s = none := by
  unfold freeAnswer
  split
  · next a rest heq =>
    refine if_pos ?_
    rw [Option.isSome_iff_ne_none]
    exact fun hmark => h ⟨a, rest, heq, hmark⟩
  · rfl

theorem sendsReports_iff (s : State) : sendsReports s = true ↔ s.start.station = .running ∨ s.start.station = .failedStart := by
  simp [sendsReports]

end

theorem tagByte_low (high tag : BitVec 4) : (tagByte high tag).toNat % 16 = tag.toNat := by
  have := tag.isLt
  rw [tagByte, toNat_append_add]
  omega

theorem hiByte_eq (w : Word) : hiByte w = BitVec.ofNat 8 (w.toNat / 256) := by
  apply BitVec.eq_of_toNat_eq
  simp [hiByte, Nat.shiftRight_eq_div_pow]

theorem loByte_eq (w : Word) : loByte w = BitVec.ofNat 8 w.toNat := by
  apply BitVec.eq_of_toNat_eq
  simp [loByte]

/-- Settles O53: the choice of the arbiter, in its order. -/
theorem arbiterOffersInOrder : Obligations.ArbiterOffersInOrder := by
  intro s hline sends reports answerFree
  have hsends : transmitterOn s = true ↔ sends := transmitterOn_iff s
  have hfree : ¬ answerFree → freeAnswer s = none := freeAnswer_none
  refine ⟨fun hoff => ?_, fun k hon hslot => ?_, fun a rest hon hslot hanswers hmark => ?_, fun hon hrep hslot hno hdue => ?_,
    fun q rest hrun hslot hno hdue hrequests => ?_, fun hon hslot hno hdue hidle => ?_⟩
  · exact exec_lineIdle_none hline (chosenOffer_off (by rw [← Bool.not_eq_true, hsends]; exact hoff))
  · rw [exec_lineIdle_offers hline (chosenOffer_alert (hsends.mpr hon) hslot), putOnLine_other (by simp)]
    rfl
  · refine ⟨tagByte (Config.freeTagHigh s.free) a.tag, tagByte_low _ _, ?_⟩
    rw [exec_lineIdle_offers hline (chosenOffer_answer (hsends.mpr hon) hslot (freeAnswer_some hanswers hmark)),
      putOnLine_other (by simp), frameOf, hiByte_eq, loByte_eq]
    rfl
  · have hchosen : chosenOffer s = some .report := by
      rw [chosenOffer_rest (hsends.mpr hon) hslot (hfree hno), hdue, (sendsReports_iff s).mpr hrep]
      rfl
    rw [exec_lineIdle_offers hline hchosen]
    rfl
  · have hchosen : chosenOffer s = some (.request q) := by
      rw [chosenOffer_rest (hsends.mpr (.inr (.inl hrun))) hslot (hfree hno), hdue, freeRequest, if_pos hrun, hrequests]
      rfl
    refine ⟨tagByte (Config.freeTagHigh s.free) q.tag, tagByte_low _ _, ?_⟩
    rw [exec_lineIdle_offers hline hchosen, putOnLine_other (by simp)]
    rfl
  · have hdue' : (s.line.reportDue && sendsReports s) = false := by
      rcases hdue with hdue | hlisten
      · rw [hdue]
        rfl
      · rw [sendsReports, hlisten]
        simp
    have hrequest : freeRequest s = none := by
      unfold freeRequest
      rcases hidle with hempty | hstop
      · rw [hempty]
        simp
      · exact if_neg hstop
    refine exec_lineIdle_none hline ?_
    rw [chosenOffer_rest (hsends.mpr hon) hslot (hfree hno), hdue', hrequest]
    rfl

/-- Settles O54: by the first bit that differs, and the frame offered on an idle line. -/
theorem contestsGoToTheLowerWord : Obligations.ContestsGoToTheLowerWord := by
  refine ⟨fun f g h => ?_, winsContest_diff, fun s t g hline hexec => ?_⟩
  · obtain ⟨x, hx⟩ := frameBits_priority f
    obtain ⟨y, hy⟩ := frameBits_priority g
    rw [hx, hy]
    exact winsContest_of_lt _ _ x y (by simp) (by rwa [priority_numOf, priority_numOf])
  · cases hchosen : chosenOffer s with
    | none =>
      rw [exec_lineIdle_none hline hchosen] at hexec
      cases hexec
      exact ⟨fun x hx => absurd (hline.symm.trans hx) (by simp), fun _ => exec_lineIdle_none hline hchosen⟩
    | some o =>
      rw [exec_lineIdle_offers hline hchosen] at hexec
      cases hexec
      refine ⟨fun x hx => ?_, fun hnone => absurd hnone (by simp [putOnLine])⟩
      have hframe : x.frame = frameOf s (Config.freeTagHigh s.free) o := by
        cases hx
        rfl
      have hwins : winsLine (frameOf s (Config.freeTagHigh s.free) o) (some g) = winsContest (frameBits x.frame) (frameBits g) := by
        rw [hframe]
        rfl
      refine ⟨fun hlose => ?_, fun hwin => ?_⟩
      · rw [exec_lineIdle_some hline hchosen, hwins, hlose]
        rfl
      · rw [exec_lineIdle_some hline hchosen, hwins, hwin]
        rfl

/-! ### The end of a frame (R145) -/

theorem exec_frameSent {s : State} {x : Sending} (h : s.line.onLine = some x) : exec .frameSent s
    = .next (frameEnded x.owner (s.withLine { s.line with onLine := none, guardTime := 0 })) := by
  have hexec : exec .frameSent s = execFrameSent s := rfl
  rw [hexec, execFrameSent, h]

theorem alertSent_eq (k : FaultKind) (s : State) : alertSent k s = s.withLine { s.line with
    alertSlot := if s.line.alertSlot = some k then none else s.line.alertSlot } := by
  by_cases h : s.line.alertSlot = some k
  · rw [alertSent, if_pos h, if_pos h]
  · rw [alertSent, if_neg h, if_neg h]
    rfl

/-- Settles O55: the end of a frame, by its owner. -/
theorem frameSentReachesItsBlock : Obligations.FrameSentReachesItsBlock := by
  intro s x hx
  have hexec := exec_frameSent hx
  refine ⟨fun k ho => ?_, fun ho => ?_, fun tag ho => ?_, fun a rest ho hanswers => ⟨fun hstay => ?_, fun hrestarts hrun => ?_⟩,
    fun ho => ?_⟩
  · rw [hexec, ho]
    exact congrArg _ (alertSent_eq k _)
  · rw [hexec, ho]
    rfl
  · rw [ho] at hexec
    refine ⟨_, hexec, ?_, rfl, rfl⟩
    have hline := State.withLine_keeps s { s.line with onLine := none, guardTime := 0 }
    exact ((hline.mono).trans ((State.withLine_keeps _ _).mono)).trans ((mapOutgoing_keeps _ _ _).mono)
  · rw [hexec, ho]
    simp only [frameEnded, answerSent, State.withLine_line, hanswers, hstay]
    rfl
  · have hended : frameEnded .answer (s.withLine { s.line with onLine := none, guardTime := 0 })
        = warmRestart (s.withLine { s.line with onLine := none, guardTime := 0, answers := rest }) := by
      simp only [frameEnded, answerSent, State.withLine_line, hanswers]
      exact if_pos ⟨hrestarts, hrun⟩
    obtain ⟨hkeeps, hall⟩ := warmRestart_spec (s.withLine { s.line with onLine := none, guardTime := 0, answers := rest })
    obtain ⟨honline, hguard⟩ := warmRestart_onLine (s.withLine { s.line with onLine := none, guardTime := 0, answers := rest })
    rw [ho, hended] at hexec
    exact ⟨_, hexec, ⟨((State.withLine_keeps s _).mono).trans hkeeps, hall⟩, honline, hguard⟩
  · rw [hexec, ho]
    rfl

end Sys2Proof.Machine
end

section
/-! SUPPORT. The fault unit's hand-over and the frame on the wire (R138, R140, R157, R158, R162, R163, R176). -/

namespace Sys2Proof.Machine

-- One thread elaborates this section, so that the check's memory limit holds the stacks.
set_option Elab.async false

/-! ### The fault unit -/

theorem handOver_line_present {k : FaultKind} {s : State} (htrip : k.isTrip = true) (hs : sticky k s = false) :
    (handOver k true s).line.alertSlot = some k := by
  simp [handOver_line, htrip, hs]

theorem handOver_line_same {k : FaultKind} {present : Bool} {s : State}
    (h : present = false ∨ k.isTrip = false ∨ sticky k s = true) : (handOver k present s).line = s.line := by
  rw [handOver_line]
  refine if_neg ?_
  rcases h with h | h | h <;> simp [h]

theorem and_ne_zero_iff (x m : FaultSet) : (x &&& m != 0) = true ↔ ∃ i : Fin 16, m.getLsbD i = true ∧ x.getLsbD i = true := by
  rw [bne_iff_ne, ne_eq, BitVec.eq_of_getLsbD_eq_iff]
  have hzero : ∀ i, (0 : FaultSet).getLsbD i = false := fun i => BitVec.getLsbD_zero
  simp only [BitVec.getLsbD_and, hzero, not_forall]
  constructor
  · rintro ⟨i, hi, h⟩
    rw [Bool.not_eq_false, Bool.and_eq_true] at h
    exact ⟨⟨i, hi⟩, h.2, h.1⟩
  · rintro ⟨i, hm, hx⟩
    exact ⟨i, i.isLt, by simp [hm, hx]⟩

/-- The trip kinds are the members of R162's mask. -/
theorem mem_tripKinds : ∀ i : Fin 16, tripKinds.getLsbD i = true ↔ ∃ k ∈ [FaultKind.pedalInput, .speedSensor, .arm1Fault, .arm2Fault,
    .waterDry, .waterInput, .lineFault, .configBad], k.num = i.val := by decide

theorem faultAsserted_iff (s : State) : faultAsserted s = true ↔ ∃ k ∈ [FaultKind.pedalInput, .speedSensor, .arm1Fault,
    .arm2Fault, .waterDry, .waterInput, .lineFault, .configBad], sticky k s = true := by
  rw [faultAsserted, and_ne_zero_iff]
  constructor
  · rintro ⟨i, htrip, hs⟩
    obtain ⟨k, hk, hnum⟩ := (mem_tripKinds i).mp htrip
    exact ⟨k, hk, by rw [sticky, hasKind, hnum]; exact hs⟩
  · rintro ⟨k, hk, hs⟩
    exact ⟨⟨k.num, k.num_lt⟩, (mem_tripKinds _).mpr ⟨k, hk, rfl⟩, hs⟩

/-- Settles O58: what a hand-over does to the two sets and the ALERT slot. -/
theorem faultUnitHoldsItsSets : Obligations.FaultUnitHoldsItsSets := by
  refine ⟨fun s => ?_, fun k s => ⟨sticky_handOver_present k s, active_handOver_present k s, handOver_line_present,
    fun h => handOver_line_same (.inr h), handOver_line_same (.inl rfl), fun hk => ?_, ?_,
    fun h1 h2 => active_handOver_self h1 h2 false s,
    fun j present hj => ⟨sticky_handOver_other hj present s, active_handOver_other hj present s⟩⟩⟩
  · exact faultAsserted_iff s
  · simp [sticky_handOver, hk]
  · simp [sticky_handOver]

/-! ### Fields of a frame (R176) -/

/-- The bits of a field stand at a place of the frame. -/
def FieldAt {w : Nat} (bits : List Bool) (start : Nat) (v : BitVec w) : Prop :=
  ∃ before after, bits = before ++ bitsOf v ++ after ∧ before.length = start

section
variable {w start : Nat} {bits : List Bool} {v : BitVec w}

theorem FieldAt.slice (h : FieldAt bits start v) : (bits.drop start).take w = bitsOf v := by
  obtain ⟨before, after, rfl, rfl⟩ := h
  rw [List.append_assoc, List.drop_left]
  exact List.take_left' (bitsOf_length v)

theorem FieldAt.number (h : FieldAt bits start v) : numOf ((bits.drop start).take w) = v.toNat := by
  rw [h.slice, numOf_bitsOf]

theorem FieldAt.field_eq (h : FieldAt bits start v) : field bits start w = v := by
  rw [field, h.number, BitVec.ofNat_toNat, BitVec.setWidth_eq]

theorem FieldAt.append (h : FieldAt bits start v) (tail : List Bool) : FieldAt (bits ++ tail) start v := by
  obtain ⟨before, after, rfl, hstart⟩ := h
  exact ⟨before, after ++ tail, by simp, hstart⟩

end

theorem headerBits_length (f : Frame) : (headerBits f).length = 19 := by simp [headerBits]

theorem payloadBits_length (l : List Byte) : (l.flatMap bitsOf).length = 8 * l.length := by
  simp [List.length_flatMap, Nat.mul_comm]

theorem bodyBits_length (f : Frame) : (bodyBits f).length = 19 + 8 * f.payload.length := by
  rw [bodyBits, List.length_append, headerBits_length, payloadBits_length]

theorem frameBits_length (f : Frame) : (frameBits f).length = 19 + 8 * f.payload.length + 16 := by
  rw [frameBits, List.length_append, bodyBits_length, bitsOf_length]

section
variable (f : Frame)

theorem fieldAt_class : FieldAt (frameBits f) 0 (classCode f.cls) :=
  ⟨[], bitsOf f.src ++ bitsOf f.dst ++ bitsOf f.kind ++ bitsOf (BitVec.ofNat 5 f.payload.length) ++ f.payload.flatMap bitsOf
    ++ bitsOf (crc (bodyBits f)), by simp [frameBits, bodyBits, headerBits], rfl⟩

theorem fieldAt_src : FieldAt (frameBits f) 2 f.src :=
  ⟨bitsOf (classCode f.cls), bitsOf f.dst ++ bitsOf f.kind ++ bitsOf (BitVec.ofNat 5 f.payload.length)
    ++ f.payload.flatMap bitsOf ++ bitsOf (crc (bodyBits f)), by simp [frameBits, bodyBits, headerBits], by simp⟩

theorem fieldAt_dst : FieldAt (frameBits f) 6 f.dst :=
  ⟨bitsOf (classCode f.cls) ++ bitsOf f.src, bitsOf f.kind ++ bitsOf (BitVec.ofNat 5 f.payload.length)
    ++ f.payload.flatMap bitsOf ++ bitsOf (crc (bodyBits f)), by simp [frameBits, bodyBits, headerBits], by simp⟩

theorem fieldAt_kind : FieldAt (frameBits f) 10 f.kind :=
  ⟨bitsOf (classCode f.cls) ++ bitsOf f.src ++ bitsOf f.dst, bitsOf (BitVec.ofNat 5 f.payload.length)
    ++ f.payload.flatMap bitsOf ++ bitsOf (crc (bodyBits f)), by simp [frameBits, bodyBits, headerBits], by simp⟩

theorem fieldAt_length : FieldAt (frameBits f) 14 (BitVec.ofNat 5 f.payload.length) :=
  ⟨bitsOf (classCode f.cls) ++ bitsOf f.src ++ bitsOf f.dst ++ bitsOf f.kind,
    f.payload.flatMap bitsOf ++ bitsOf (crc (bodyBits f)), by simp [frameBits, bodyBits, headerBits], by simp⟩

theorem fieldAt_payload {i : Nat} (h : i < f.payload.length) : FieldAt (frameBits f) (19 + 8 * i) f.payload[i] := by
  refine ⟨headerBits f ++ (f.payload.take i).flatMap bitsOf, (f.payload.drop (i + 1)).flatMap bitsOf ++ bitsOf (crc (bodyBits f)), ?_, ?_⟩
  · have hsplit : f.payload = f.payload.take i ++ f.payload[i] :: f.payload.drop (i + 1) := by
      rw [List.cons_getElem_drop_succ, List.take_append_drop]
    have hbits : f.payload.flatMap bitsOf = (f.payload.take i).flatMap bitsOf
        ++ (bitsOf f.payload[i] ++ (f.payload.drop (i + 1)).flatMap bitsOf) := by
      conv_lhs => rw [hsplit]
      rw [List.flatMap_append, List.flatMap_cons]
    rw [frameBits, bodyBits, hbits]
    simp only [List.append_assoc]
  · rw [List.length_append, headerBits_length, payloadBits_length, List.length_take, Nat.min_eq_left h.le]

theorem fieldAt_crc : FieldAt (frameBits f) (19 + 8 * f.payload.length) (crc (bodyBits f)) :=
  ⟨bodyBits f, [], by simp [frameBits], bodyBits_length f⟩

theorem take_body (tail : List Bool) : (frameBits f ++ tail).take (19 + 8 * f.payload.length) = bodyBits f := by
  rw [frameBits, List.append_assoc, ← bodyBits_length f]
  exact List.take_left

end

/-! ### Reading back -/

theorem classOfBits_code (c : FrameClass) : classOfBits (classCode c) = c := by cases c <;> rfl

theorem classCode_ofBits (b : BitVec 2) : classCode (classOfBits b) = b := by
  revert b
  decide

/-- A frame is read back from its bits, whatever follows them. -/
theorem parseFrame_frameBits {f : Frame} (hlen : f.payload.length ≤ 16) (tail : List Bool) :
    parseFrame (frameBits f ++ tail) = some f := by
  have hlength : (field (frameBits f ++ tail) 14 5).toNat = f.payload.length := by
    rw [((fieldAt_length f).append tail).field_eq, BitVec.toNat_ofNat]
    omega
  have hbits : (frameBits f ++ tail).length = 19 + 8 * f.payload.length + 16 + tail.length := by
    rw [List.length_append, frameBits_length]
  have hpayload : (List.range f.payload.length).map (fun i => field (frameBits f ++ tail) (19 + 8 * i) 8) = f.payload := by
    refine List.ext_getElem (by simp) fun i _ hi => ?_
    rw [List.getElem_map, List.getElem_range]
    exact ((fieldAt_payload f hi).append tail).field_eq
  simp only [parseFrame, hlength]
  rw [if_neg (by omega), if_neg (by omega), if_neg (by omega), if_pos, hpayload,
    ((fieldAt_class f).append tail).field_eq, ((fieldAt_src f).append tail).field_eq,
    ((fieldAt_dst f).append tail).field_eq, ((fieldAt_kind f).append tail).field_eq, classOfBits_code]
  rw [((fieldAt_crc f).append tail).field_eq, take_body]

theorem numOf_injective : ∀ (a b : List Bool), a.length = b.length → numOf a = numOf b → a = b
  | [], [], _, _ => rfl
  | [], _ :: _, hlen, _ => by simp at hlen
  | _ :: _, [], hlen, _ => by simp at hlen
  | c :: a, d :: b, hlen, h => by
    have hlen' : a.length = b.length := by simpa using hlen
    have ha := numOf_lt a
    have hb := numOf_lt b
    rw [numOf_cons, numOf_cons, ← hlen'] at h
    rw [← hlen'] at hb
    cases c <;> cases d <;> simp only [Bool.toNat_true, Bool.toNat_false] at h
    · rw [numOf_injective a b hlen' (by omega)]
    · omega
    · omega
    · rw [numOf_injective a b hlen' (by omega)]

/-- A field of enough bits stands at its place. -/
theorem bitsOf_field {bits : List Bool} {start w : Nat} (h : start + w ≤ bits.length) :
    bitsOf (field bits start w) = (bits.drop start).take w := by
  have hlen : ((bits.drop start).take w).length = w := by
    rw [List.length_take, List.length_drop]
    omega
  have hlt := numOf_lt ((bits.drop start).take w)
  rw [hlen] at hlt
  refine numOf_injective _ _ (by rw [bitsOf_length, hlen]) ?_
  rw [numOf_bitsOf, field, BitVec.toNat_ofNat, Nat.mod_eq_of_lt hlt]

/-- The bits up to the end of a field are those before it and the field's. -/
theorem take_field {bits : List Bool} {start w : Nat} (h : start + w ≤ bits.length) :
    bits.take (start + w) = bits.take start ++ bitsOf (field bits start w) := by
  rw [List.take_add, bitsOf_field h]

theorem take_payload {bits : List Bool} : ∀ n : Nat, 19 + 8 * n ≤ bits.length →
    bits.take (19 + 8 * n) = bits.take 19 ++ ((List.range n).map (fun i => field bits (19 + 8 * i) 8)).flatMap bitsOf
  | 0, _ => by simp
  | n + 1, h => by
    have hstep : 19 + 8 * (n + 1) = 19 + 8 * n + 8 := by omega
    rw [hstep, take_field (by omega), take_payload n (by omega), List.range_succ]
    simp

theorem take_header {bits : List Bool} (h : 19 ≤ bits.length) : bits.take 19
    = bitsOf (field bits 0 2) ++ bitsOf (field bits 2 4) ++ bitsOf (field bits 6 4) ++ bitsOf (field bits 10 4)
      ++ bitsOf (field bits 14 5) := by
  have h0 := take_field (bits := bits) (start := 0) (w := 2) (by omega)
  have h2 := take_field (bits := bits) (start := 2) (w := 4) (by omega)
  have h6 := take_field (bits := bits) (start := 6) (w := 4) (by omega)
  have h10 := take_field (bits := bits) (start := 10) (w := 4) (by omega)
  have h14 := take_field (bits := bits) (start := 14) (w := 5) (by omega)
  rw [h14, h10, h6, h2, h0]
  simp

/-- What is parsed is a frame's bits, and what follows them. -/
theorem parseFrame_some {bits : List Bool} {f : Frame} (h : parseFrame bits = some f) :
    f.payload.length ≤ 16 ∧ ∃ tail, bits = frameBits f ++ tail := by
  simp only [parseFrame] at h
  split_ifs at h with h19 hmax htotal hcrc
  obtain rfl := Option.some.inj h
  set n := (field bits 14 5).toNat with hn
  have hlength : BitVec.ofNat 5 ((List.range n).map (fun i => field bits (19 + 8 * i) 8)).length = field bits 14 5 := by
    rw [List.length_map, List.length_range, hn, BitVec.ofNat_toNat, BitVec.setWidth_eq]
  have hbody : bits.take (19 + 8 * n) = bodyBits ⟨classOfBits (field bits 0 2), field bits 2 4, field bits 6 4, field bits 10 4,
      (List.range n).map (fun i => field bits (19 + 8 * i) 8)⟩ := by
    rw [take_payload n (by omega), take_header (by omega), bodyBits, headerBits, hlength, classCode_ofBits]
  refine ⟨by simpa using hmax, bits.drop (19 + 8 * n + 16), ?_⟩
  rw [frameBits, ← hbody, ← hcrc, ← take_field (by omega), List.take_append_drop]

theorem crcBit_eq (reg : Word) (b : Bool) : crcBit reg b = (reg <<< 1) ^^^ (if reg.msb = b then 0 else 0x1021#16) := by
  unfold crcBit
  cases reg.msb <;> cases b <;> simp

/-- Settles O59: the check sequence bit by bit, and a frame by its fields. -/
theorem framesReadBackFromTheirBits : Obligations.FramesReadBackFromTheirBits := by
  refine ⟨rfl, crc_nil, fun bits b => ?_, fun bits f h => parseFrame_some h, fun f tail hlen => ?_⟩
  · rw [crc_append_singleton, crcBit_eq]
  · intro bits number n
    have hn : (BitVec.ofNat 5 f.payload.length).toNat = n := by
      rw [BitVec.toNat_ofNat]
      omega
    have htake : bits.take (19 + 8 * n) = bodyBits f := by
      have := take_body f []
      rwa [List.append_nil] at this
    refine ⟨frameBits_length f, (fieldAt_class f).number, (fieldAt_src f).number, (fieldAt_dst f).number, (fieldAt_kind f).number,
      (fieldAt_length f).number.trans hn, fun i hi => ?_, ?_, parseFrame_frameBits hlen tail⟩
    · rw [List.getD_eq_getElem _ _ hi]
      exact (fieldAt_payload f hi).number
    · rw [htake]
      exact (fieldAt_crc f).number

end Sys2Proof.Machine
end

section
/-! SUPPORT. Reports: their values, their bytes, and reading them back (R26, R67, R151, R172, R177). -/

namespace Sys2Proof.Machine

-- One thread elaborates this section, so that the check's memory limit holds the stacks.
set_option Elab.async false

/-! ### The values of a report (R151) -/

theorem reportValues_of_image {s : State} {b : StartBlock} (h : s.start.image = some b) : reportValues s = driveValues s
    { silentValues b.line.period s.start.mode s.faults.sticky with
      mask := roleMask s.start.role
      brush1 := BitVec.ofNat 8 (ownBrushByte .one s)
      brush2 := BitVec.ofNat 8 (ownBrushByte .two s)
      arm1 := s.arm1.state
      arm2 := s.arm2.state
      water := s.water.state } := by
  rw [reportValues, h]

theorem roleMask_eq : ∀ role : BitVec 3, roleMask role = ([0b000000#6, 0b000001#6, 0b011110#6, 0b000110#6, 0b100000#6, 0b111110#6,
    0b100001#6, 0b111111#6] : List (BitVec 6)).getD role.toNat 0 := by decide

/-! ### Fields of bytes -/

theorem extract_toNat (b : Byte) (start w : Nat) : (b.extractLsb' start w).toNat = b.toNat / 2 ^ start % 2 ^ w := by
  rw [BitVec.extractLsb'_toNat, Nat.shiftRight_eq_div_pow]

theorem quad_fields (a b c d : BitVec 2) : BitVec.extractLsb' 6 2 (a ++ b ++ c ++ d : Byte) = a
    ∧ BitVec.extractLsb' 4 2 (a ++ b ++ c ++ d : Byte) = b ∧ BitVec.extractLsb' 2 2 (a ++ b ++ c ++ d : Byte) = c
    ∧ BitVec.extractLsb' 0 2 (a ++ b ++ c ++ d : Byte) = d := by
  have ha := a.isLt
  have hb := b.isLt
  have hc := c.isLt
  have hd := d.isLt
  refine ⟨?_, ?_, ?_, ?_⟩
  all_goals
    apply BitVec.eq_of_toNat_eq
    rw [extract_toNat]
    simp only [toNat_append_add]
    omega

theorem pair_fields (a b : BitVec 4) : BitVec.extractLsb' 4 4 (a ++ b : Byte) = a ∧ BitVec.extractLsb' 0 4 (a ++ b : Byte) = b := by
  have ha := a.isLt
  have hb := b.isLt
  refine ⟨?_, ?_⟩
  all_goals
    apply BitVec.eq_of_toNat_eq
    rw [extract_toNat]
    simp only [toNat_append_add]
    omega

theorem mode_fields (a : BitVec 2) (b : BitVec 6) :
    BitVec.extractLsb' 6 2 (a ++ b : Byte) = a ∧ BitVec.extractLsb' 0 6 (a ++ b : Byte) = b := by
  have ha := a.isLt
  have hb := b.isLt
  refine ⟨?_, ?_⟩
  all_goals
    apply BitVec.eq_of_toNat_eq
    rw [extract_toNat]
    simp only [toNat_append_add]
    omega

theorem wordOf_bytes (w : Word) : wordOf (hiByte w) (loByte w) = w := by
  apply BitVec.eq_of_toNat_eq
  have := w.isLt
  rw [wordOf_toNat, hiByte_eq, loByte_eq, BitVec.toNat_ofNat, BitVec.toNat_ofNat]
  omega

theorem bytes_toNat (w : Word) : (hiByte w).toNat * 256 + (loByte w).toNat = w.toNat := by
  rw [← wordOf_toNat, wordOf_bytes]

/-! ### Codes read back (R177) -/

theorem Mode.ofBits_code (m : Mode) : Mode.ofBits (BitVec.ofNat 2 m.code) = m := by cases m <;> rfl

theorem Quality.ofBits_code (q : Quality) : Quality.ofBits q.code = q := by cases q <;> rfl

theorem directionOfBits_code (d : Option Direction) : directionOfBits (directionCode d) = d := by
  rcases d with _ | (_ | _) <;> rfl

theorem ArmState.ofCode_code (a : ArmState) : ArmState.ofCode (BitVec.ofNat 4 a.code).toNat = a := by cases a <;> rfl

theorem WaterState.ofCode_code (w : WaterState) : WaterState.ofCode (BitVec.ofNat 8 w.code).toNat = w := by cases w <;> rfl

theorem Quality.ofBits_three {b : BitVec 2} (h : b.toNat = 3) : Quality.ofBits b = .bad := by
  revert b
  decide

theorem directionOfBits_three {b : BitVec 2} (h : b.toNat = 3) : directionOfBits b = none := by
  revert b
  decide

theorem ArmState.ofCode_unnamed {n : Nat} (h : 5 ≤ n) : ArmState.ofCode n = .held := by
  unfold ArmState.ofCode
  split <;> first | omega | rfl

theorem WaterState.ofCode_unnamed {n : Nat} (h : 5 ≤ n) : WaterState.ofCode n = .off := by
  unfold WaterState.ofCode
  split <;> first | omega | rfl

/-- A report reads back, its pressure in steps of 2 bar (R177). -/
theorem parseReport_reportBytes (seq : Byte) {v : ReportValues} (h : reportFits v) :
    parseReport (reportBytes seq v) = some (seq, { v with pressure := 2 * (v.pressure / 2) }) := by
  obtain ⟨⟨hperiod, hperiod'⟩, htravel, htravel', hengine, hpressure⟩ := h
  obtain ⟨hq1, hq2, hq3, hq4⟩ := quad_fields v.travelQ.code v.engineQ.code v.pressureQ.code (directionCode v.direction)
  obtain ⟨ha1, ha2⟩ := pair_fields (BitVec.ofNat 4 v.arm1.code) (BitVec.ofNat 4 v.arm2.code)
  obtain ⟨hm1, hm2⟩ := mode_fields (BitVec.ofNat 2 v.mode.code) v.mask
  have hspeed : (BitVec.ofInt 16 v.travel).toInt = v.travel := by
    rw [BitVec.toInt_ofInt]
    simp only [Int.bmod]
    omega
  have hnE : (BitVec.ofNat 16 v.engine).toNat = v.engine := by
    rw [BitVec.toNat_ofNat]
    omega
  have hbar : (BitVec.ofNat 8 (v.pressure / 2)).toNat = v.pressure / 2 := by
    rw [BitVec.toNat_ofNat]
    omega
  have hT : (BitVec.ofNat 8 v.period).toNat = v.period := by
    rw [BitVec.toNat_ofNat]
    omega
  simp only [reportBytes, parseReport, wordOf_bytes, hq1, hq2, hq3, hq4, ha1, ha2, hm1, hm2, hspeed, hnE, hbar, hT, Mode.ofBits_code,
    Quality.ofBits_code, directionOfBits_code, ArmState.ofCode_code, WaterState.ofCode_code]
  rw [Nat.min_eq_right hperiod', Nat.max_eq_right hperiod, min_eq_right htravel', max_eq_right htravel, Nat.min_eq_right hengine,
    Nat.min_eq_right (by omega)]

theorem reportBytes_values (seq : Byte) {v : ReportValues} (h : reportFits v) :
    let byte := fun i : Nat => ((reportBytes seq v).getD i 0).toNat
    byte 1 = v.period ∧ byte 2 = v.mode.code * 64 + v.mask.toNat
    ∧ ((byte 3 * 256 + byte 4 : Nat) : Int) = v.travel % 65536
    ∧ byte 5 = v.travelQ.code.toNat * 64 + v.engineQ.code.toNat * 16 + v.pressureQ.code.toNat * 4
        + (directionCode v.direction).toNat
    ∧ byte 6 * 256 + byte 7 = v.engine ∧ byte 8 = v.pressure / 2
    ∧ byte 11 = v.arm1.code * 16 + v.arm2.code ∧ byte 12 = v.water.code ∧ byte 13 * 256 + byte 14 = v.summary.toNat := by
  obtain ⟨⟨-, hperiod⟩, -, -, hengine, hpressure⟩ := h
  have hmode := v.mode.code_lt
  have harm1 := v.arm1.code_lt
  have harm2 := v.arm2.code_lt
  have hwater := v.water.code_lt
  intro byte
  refine ⟨?_, ?_, ?_, ?_, ?_, ?_, ?_, ?_, bytes_toNat v.summary⟩
  · show (BitVec.ofNat 8 v.period).toNat = _
    rw [BitVec.toNat_ofNat]
    omega
  · show (BitVec.ofNat 2 v.mode.code ++ v.mask).toNat = _
    rw [toNat_append_add, BitVec.toNat_ofNat]
    omega
  · have hspeed : byte 3 * 256 + byte 4 = (BitVec.ofInt 16 v.travel).toNat := bytes_toNat _
    rw [hspeed, BitVec.toNat_ofInt]
    omega
  · show (v.travelQ.code ++ v.engineQ.code ++ v.pressureQ.code ++ directionCode v.direction).toNat = _
    simp only [toNat_append_add]
    omega
  · have hnE : byte 6 * 256 + byte 7 = (BitVec.ofNat 16 v.engine).toNat := bytes_toNat _
    rw [hnE, BitVec.toNat_ofNat]
    omega
  · show (BitVec.ofNat 8 (v.pressure / 2)).toNat = _
    rw [BitVec.toNat_ofNat]
    omega
  · show (BitVec.ofNat 4 v.arm1.code ++ BitVec.ofNat 4 v.arm2.code).toNat = _
    rw [toNat_append_add, BitVec.toNat_ofNat, BitVec.toNat_ofNat]
    omega
  · show (BitVec.ofNat 8 v.water.code).toNat = _
    rw [BitVec.toNat_ofNat]
    omega

/-- A payload of 15 bytes, field by field (R26). -/
theorem parseReport_fields {p : List Byte} (h : p.length = 15) : ∃ v, parseReport p = some (p.getD 0 0, v)
    ∧ v.period = max 2 (min 20 (p.getD 1 0).toNat)
    ∧ v.travel = max (-1500) (min 1500 (wordOf (p.getD 3 0) (p.getD 4 0)).toInt)
    ∧ v.engine = min 4000 (wordOf (p.getD 6 0) (p.getD 7 0)).toNat ∧ v.pressure = min 500 (2 * (p.getD 8 0).toNat)
    ∧ v.travelQ = Quality.ofBits ((p.getD 5 0).extractLsb' 6 2) ∧ v.engineQ = Quality.ofBits ((p.getD 5 0).extractLsb' 4 2)
    ∧ v.pressureQ = Quality.ofBits ((p.getD 5 0).extractLsb' 2 2)
    ∧ v.direction = directionOfBits ((p.getD 5 0).extractLsb' 0 2)
    ∧ v.arm1 = ArmState.ofCode ((p.getD 11 0).extractLsb' 4 4).toNat
    ∧ v.arm2 = ArmState.ofCode ((p.getD 11 0).extractLsb' 0 4).toNat
    ∧ v.water = WaterState.ofCode (p.getD 12 0).toNat := by
  match p, h with
  | [_, _, _, _, _, _, _, _, _, _, _, _, _, _, _], _ => exact ⟨_, rfl, rfl, rfl, rfl, rfl, rfl, rfl, rfl, rfl, rfl, rfl, rfl⟩

/-- Settles O60: the values of a report, its bytes, and what a payload reads back as. -/
theorem reportsReadBackFromTheirBytes : Obligations.ReportsReadBackFromTheirBytes := by
  refine ⟨fun s => ⟨fun h => ?_, fun b h => ?_⟩, rfl, fun seq v h => ?_, fun p => ⟨parseReport_none, fun h => ?_⟩⟩
  · rw [reportValues, h]
    rfl
  · have hvalues := reportValues_of_image h
    have hmask := roleMask_eq s.start.role
    intro v
    have hdrive : v = driveValues s _ := hvalues
    rw [hdrive]
    cases hpop : populated .drv s with
    | true =>
      rw [driveValues, if_pos hpop]
      refine ⟨rfl, rfl, rfl, hmask, BitVec.toNat_ofNat .., BitVec.toNat_ofNat .., rfl, rfl, rfl, fun _ => ⟨rfl, rfl, ?_, rfl, rfl, rfl, rfl⟩,
        fun hno => (by cases hno)⟩
      show shownDirection s.drive = _
      unfold shownDirection
      cases s.drive.state <;> rfl
    | false =>
      rw [driveValues, if_neg (by simp [hpop])]
      exact ⟨rfl, rfl, rfl, hmask, BitVec.toNat_ofNat .., BitVec.toNat_ofNat .., rfl, rfl, rfl, fun hyes => (by cases hyes),
        fun _ => ⟨rfl, rfl, rfl, rfl, rfl, rfl, rfl⟩⟩
  · intro byte
    obtain ⟨h1, h2, h34, h5, h67, h8, h11, h12, h1314⟩ := reportBytes_values seq h
    exact ⟨rfl, rfl, h1, h2, h34, h5, h67, h8, rfl, rfl, h11, h12, h1314, parseReport_reportBytes seq h⟩
  · obtain ⟨v, hparse, hperiod, htravel, hengine, hpressure, hq1, hq2, hq3, hdir, ha1, ha2, hw⟩ := parseReport_fields h
    have h5 := (p.getD 5 0).isLt
    have h11 := (p.getD 11 0).isLt
    refine ⟨v, hparse, ?_⟩
    intro byte speed
    refine ⟨hperiod, htravel, by rw [hengine, wordOf_toNat], hpressure, fun hc => ?_, fun hc => ?_, fun hc => ?_, fun hc => ?_,
      fun hc => ?_, fun hc => ?_, fun hc => ?_⟩
    · rw [hq1, Quality.ofBits_three]
      rw [extract_toNat]
      exact Nat.mod_eq_of_lt (by omega) |>.trans hc
    · rw [hq2, Quality.ofBits_three]
      rw [extract_toNat]
      exact hc
    · rw [hq3, Quality.ofBits_three]
      rw [extract_toNat]
      exact hc
    · rw [hdir, directionOfBits_three]
      rw [extract_toNat, Nat.pow_zero, Nat.div_one]
      exact hc
    · have hc' : 5 ≤ (p.getD 11 0).toNat / 16 := hc
      rw [ha1, ArmState.ofCode_unnamed]
      rw [extract_toNat]
      show 5 ≤ (p.getD 11 0).toNat / 16 % 16
      omega
    · rw [ha2, ArmState.ofCode_unnamed]
      rw [extract_toNat, Nat.pow_zero, Nat.div_one]
      exact hc
    · rw [hw, WaterState.ofCode_unnamed hc]

end Sys2Proof.Machine
end

section
/-! SUPPORT. Entry to SILENCED: the line port, the arms and the brushes (R80, R87, R142, R163, R174). -/

namespace Sys2Proof.Machine

-- One thread elaborates this section, so that the check's memory limit holds the stacks.
set_option Elab.async false

/-! ### The line port stays in SILENCED (R150) -/

theorem makeDue_silenced {s : State} (h : s.start.station = .silenced) : makeDue s = s := if_neg (by simp [h])

theorem enterArm_line_silenced {n : ArmId} {st : ArmState} {r : Bool} {s : State} (h : s.start.station = .silenced) :
    (enterArm n st r s).line = s.line := by
  have harm : (s.withArm n ((s.arm n).entered st r)).start.station = .silenced := by simpa using h
  have hstop : (stopBrush n (s.withArm n ((s.arm n).entered st r))).start.station = .silenced := by simpa using h
  simp only [enterArm]
  split_ifs
  · simp
  · rw [makeDue_silenced hstop]
    simp
  · rw [makeDue_silenced harm]
    simp

theorem silenceArm_line_silenced {n : ArmId} {s : State} (h : s.start.station = .silenced) : (silenceArm n s).line = s.line := by
  rcases silenceArm_cases n s with heq | heq | ⟨_, heq⟩ <;> rw [heq]
  all_goals exact enterArm_line_silenced h

theorem forArms_silence_line {s : State} (h : s.start.station = .silenced) : (forArms silenceArm s).line = s.line := by
  simp only [forArms]
  split_ifs
  · rw [silenceArm_line_silenced (by simpa using h), silenceArm_line_silenced h]
  · exact silenceArm_line_silenced h
  · exact silenceArm_line_silenced h
  · rfl

theorem stopWater_line_silenced {s : State} (h : s.start.station = .silenced) : (stopWater s).line = s.line := by
  unfold stopWater
  split
  · simp only [waterOff, enterWater]
    split
    · rfl
    · rw [makeDue_silenced (by simpa using h)]
      rfl
  · rfl

/-! ### The state that both arms start from -/

/-- LINE_FAULT is set, the state and the timers of the start unit and the reports stop (R142, R174). -/
def silencedStart (s : State) : State :=
  let t := raiseOnce .lineFault s
  let t := t.withStart { t.start with station := .silenced, joinTimer := none }
  t.withLine { t.line with reportTimer := none }

theorem enterSilenced_eq (s : State) : enterSilenced s = stopWater (forArms silenceArm (silencedStart s)) := rfl

theorem silencedStart_keeps (s : State) : KeepsAllBut [.start, .line, .faults] s (silencedStart s) :=
  (((raiseOnce_keeps _ s).mono).trans ((State.withStart_keeps _ _).mono)).trans ((State.withLine_keeps _ _).mono)

theorem silencedStart_start (s : State) :
    (silencedStart s).start = { s.start with station := .silenced, joinTimer := none } := by
  have hstart : (raiseOnce .lineFault s).start = s.start := (raiseOnce_keeps _ s).start
  have heq : (silencedStart s).start = { (raiseOnce .lineFault s).start with station := .silenced, joinTimer := none } := rfl
  rw [heq, hstart]

theorem silencedStart_line (s : State) : (silencedStart s).line = { s.line with
    alertSlot := if sticky .lineFault s then s.line.alertSlot else some .lineFault, reportTimer := none } := by
  have heq : (silencedStart s).line = { (raiseOnce .lineFault s).line with reportTimer := none } := rfl
  rw [heq, raiseOnce_line]
  cases sticky .lineFault s <;> rfl

theorem enterSilenced_line (s : State) : (enterSilenced s).line = { s.line with
    alertSlot := if sticky .lineFault s then s.line.alertSlot else some .lineFault, reportTimer := none } := by
  have hsilenced : (silencedStart s).start.station = .silenced := by rw [silencedStart_start]
  rw [enterSilenced_eq, stopWater_line_silenced, forArms_silence_line hsilenced, silencedStart_line]
  rw [(forArms_keeps silenceArm_keeps _).start, hsilenced]

theorem enterSilenced_faults (s : State) : (enterSilenced s).faults = (raiseOnce .lineFault s).faults := by
  rw [enterSilenced_eq, stopWater_faults, (forArms_keeps silenceArm_keeps _).faults]
  rfl

/-! ### The arms (R80) -/

/-- The state an arm takes at entry to SILENCED. -/
def silencedState : ArmState → ArmState
  | .stowed => .stowed
  | .lowering => .held
  | .working => .held
  | .lifting => .held
  | .reverseLifted => .stowed
  | .held => .held

theorem silenceArm_still {n : ArmId} {s : State} (h : (s.arm n).state = .stowed ∨ (s.arm n).state = .held) :
    silenceArm n s = s := by
  rcases h with h | h <;> rw [silenceArm, h]

theorem silenceArm_moves {n : ArmId} {s : State} (h1 : (s.arm n).state ≠ .stowed) (h2 : (s.arm n).state ≠ .held) :
    silenceArm n s = enterArm n (silencedState (s.arm n).state) false s := by
  unfold silenceArm
  split <;> simp_all [silencedState]

theorem silencedState_still (st : ArmState) : silencedState st = .stowed ∨ silencedState st = .held := by
  cases st <;> simp [silencedState]

theorem silenceArm_state (n : ArmId) (s : State) : ((silenceArm n s).arm n).state = silencedState (s.arm n).state := by
  by_cases h : (s.arm n).state = .stowed ∨ (s.arm n).state = .held
  · rw [silenceArm_still h]
    rcases h with h | h <;> rw [h] <;> rfl
  · rw [not_or] at h
    rw [silenceArm_moves h.1 h.2]
    exact (enterArm_state ..).1

/-- An arm that leaves its state loses resume flag and timers and keeps position and trim (R77, R80, R84). -/
theorem silenceArm_leaves {n : ArmId} {s : State} (h1 : (s.arm n).state ≠ .stowed) (h2 : (s.arm n).state ≠ .held) :
    ((silenceArm n s).arm n).resume = false ∧ ((silenceArm n s).arm n).moveTimer = none
      ∧ ((silenceArm n s).arm n).blindTimer = none ∧ ((silenceArm n s).arm n).position = (s.arm n).position
      ∧ ((silenceArm n s).arm n).trim = (s.arm n).trim := by
  rw [silenceArm_moves h1 h2, enterArm_arm]
  refine ⟨rfl, ?_, ?_, rfl, rfl⟩
  · rcases silencedState_still (s.arm n).state with h | h <;> simp [Arm.entered, moveTimerAfter, h]
  · rcases silencedState_still (s.arm n).state with h | h <;> simp [Arm.entered, h]

theorem silenceArm_working {n : ArmId} {s : State} (h : (s.arm n).state = .working) :
    ((silenceArm n s).arm n).command = 0 ∧ ((silenceArm n s).sp.brush n).ramp.out = 0 := by
  rw [silenceArm, h]
  refine ⟨?_, ?_⟩
  · rw [enterArm_arm]
    simp [h]
  · rw [enterArm_brush, if_pos ⟨h, by decide⟩]
    rfl

theorem silencedStart_arm (n : ArmId) (s : State) : (silencedStart s).arm n = s.arm n :=
  (silencedStart_keeps s).arm n (by cases n <;> decide)

theorem silencedStart_populated (c : Channel) (s : State) : populated c (silencedStart s) = populated c s := by
  unfold populated
  rw [silencedStart_start]

theorem enterSilenced_arm (n : ArmId) (s : State) : (enterSilenced s).arm n
    = if populated (armChannel n) s then (silenceArm n (silencedStart s)).arm n else s.arm n := by
  rw [enterSilenced_eq, (stopWater_keeps _).arm n (by cases n <;> decide), forArms_arm silenceArm_local silenceArm_determined,
    silencedStart_populated, silencedStart_arm]

theorem forArms_silence_brush {n : ArmId} {s : State} (hpop : populated (armChannel n) s = true) :
    (forArms silenceArm s).sp.brush n = (armTurn silenceArm n (match n with
      | .one => s
      | .two => armTurn silenceArm .one s)).sp.brush n := by
  rw [forArms_eq_turns fun m u => (silenceArm_local m u).2.2.1]
  cases n with
  | one => exact ((armTurn_local silenceArm_local .two _).2.2.2 .one (by decide)).2
  | two => rfl

theorem enterSilenced_working {n : ArmId} {s : State} (hpop : populated (armChannel n) s = true) (h : (s.arm n).state = .working) :
    ((enterSilenced s).arm n).command = 0 ∧ ((enterSilenced s).sp.brush n).ramp.out = 0 := by
  have hw : ((silencedStart s).arm n).state = .working := by rw [silencedStart_arm, h]
  have hwpop : populated (armChannel n) (silencedStart s) = true := by rw [silencedStart_populated, hpop]
  refine ⟨?_, ?_⟩
  · rw [enterSilenced_arm, if_pos hpop]
    exact (silenceArm_working hw).1
  · rw [enterSilenced_eq, stopWater_brush, forArms_silence_brush hwpop]
    cases n with
    | one =>
      rw [armTurn, if_pos hwpop]
      exact (silenceArm_working hw).2
    | two =>
      obtain ⟨-, -, hstart, hother⟩ := armTurn_local silenceArm_local .one (silencedStart s)
      have hpop2 : populated (armChannel .two) (armTurn silenceArm .one (silencedStart s)) = true := by
        unfold populated at hwpop ⊢
        rw [hstart]
        exact hwpop
      simp only
      rw [armTurn, if_pos hpop2]
      exact (silenceArm_working (by rw [(hother .two (by decide)).1, hw])).2

end Sys2Proof.Machine
end

section
/-! SUPPORT. Entry to SILENCED: the pending table (R78, R80, R111, R126). -/

namespace Sys2Proof.Machine

-- One thread elaborates this section, so that the check's memory limit holds the stacks.
set_option Elab.async false

/-! ### One arm's turn -/

/-- What an arm's turn at entry to SILENCED does to a pending entry (R78, R111). -/
def silenceMoved (n : ArmId) (s : State) (e : PendingEntry) : PendingEntry :=
  if populated (armChannel n) s then
    match (s.arm n).state with
    | .stowed => e
    | .held => e
    | .reverseLifted => e.endedBy n (some (.failed, 0)) (some (.done, 0))
        (if allStowed (enterArm n .stowed false s) then some (.done, 0) else none)
    | _ => e.endedBy n (some (.failed, 5)) (some (.failed, 5)) (some (.failed, 0))
  else e

theorem silenceTurn_entry {n : ArmId} {s : State} {i : Nat} {e : PendingEntry} (he : s.req.table[i]? = some e) :
    (armTurn silenceArm n s).req.table[i]? = some (silenceMoved n s e) := by
  have hheld : (enterArm n .held false s).req.table[i]?
      = some (e.endedBy n (some (.failed, 5)) (some (.failed, 5)) (some (.failed, 0))) := by
    rw [enterArm_held_req]
    simp [he]
  unfold armTurn silenceMoved
  split
  · unfold silenceArm
    split
    case h_4 hs =>
      rw [hs, enterArm_stowed_req]
      simp only [List.getElem?_map, he, Option.map_some]
    case h_5 hs => rw [hs]; exact he
    case h_6 hs => rw [hs]; exact he
    all_goals
      rename_i hs
      rw [hs]
      exact hheld
  · exact he

theorem silenceMoved_clear {e : PendingEntry} {n : ArmId} (h : ¬ (e.state = .running ∧ e.claims.hasArm n = true)) (s : State) :
    silenceMoved n s e = e := by
  unfold silenceMoved
  simp only [endedBy_clear h]
  split
  · split <;> rfl
  · rfl

/-- The table after both arms' turns. -/
theorem silenced_entry {s : State} {i : Nat} {e : PendingEntry} (he : s.req.table[i]? = some e) :
    (forArms silenceArm s).req.table[i]? = some (silenceMoved .two (armTurn silenceArm .one s) (silenceMoved .one s e)) := by
  rw [forArms_eq_turns fun m u => (silenceArm_local m u).2.2.1]
  exact silenceTurn_entry (silenceTurn_entry he)

theorem silenceTurn_req (n : ArmId) (s : State) : { (armTurn silenceArm n s).req with table := s.req.table } = s.req
    ∧ (armTurn silenceArm n s).req.table.length = s.req.table.length := by
  unfold armTurn
  split
  · rcases silenceArm_cases n s with heq | heq | ⟨_, heq⟩ <;> rw [heq]
    · exact ⟨rfl, rfl⟩
    all_goals
      rw [enterArm_req]
      exact ⟨rfl, List.length_map _⟩
  · exact ⟨rfl, rfl⟩

theorem silenced_req (s : State) : { (forArms silenceArm s).req with table := s.req.table } = s.req
    ∧ (forArms silenceArm s).req.table.length = s.req.table.length := by
  obtain ⟨h1, hlen1⟩ := silenceTurn_req .one s
  obtain ⟨h2, hlen2⟩ := silenceTurn_req .two (armTurn silenceArm .one s)
  rw [forArms_eq_turns fun m u => (silenceArm_local m u).2.2.1]
  refine ⟨?_, hlen2.trans hlen1⟩
  rw [← h2] at h1
  exact h1

/-! ### Both turns -/

section
variable {s : State}

theorem armTurn_populated (c : Channel) (n : ArmId) (s : State) :
    populated c (armTurn silenceArm n s) = populated c s := by
  unfold populated
  rw [(armTurn_local silenceArm_local n s).2.2.1]

theorem afterOne_arm_two (s : State) : (armTurn silenceArm .one s).arm .two = s.arm .two :=
  ((armTurn_local silenceArm_local .one s).2.2.2 .two (by decide)).1

theorem afterOne_arm_one (s : State) : ((armTurn silenceArm .one s).arm .one).state
    = if populated (armChannel .one) s then silencedState (s.arm .one).state else (s.arm .one).state := by
  unfold armTurn
  split
  · exact silenceArm_state .one s
  · rfl

/-- The arm lifts, lowers or works. -/
def moving (n : ArmId) (s : State) : Prop :=
  (s.arm n).state = .lowering ∨ (s.arm n).state = .working ∨ (s.arm n).state = .lifting

/-- The last outcome of an end of a running SET_MODE TRANSPORT. -/
theorem endedBy_setTransport {e : PendingEntry} {n : ArmId} (hop : e.op = .setTransport) (hrun : e.state = .running)
    (harm : e.claims.hasArm n = true) (w x : Option (PendingState × Word)) (st : PendingState) (value : Word) :
    e.endedBy n w x (some (st, value)) = { e with state := st, value := value, claims := ⟨false, false, false⟩ }
    ∧ e.endedBy n w x none = e := by
  unfold PendingEntry.endedBy
  rw [hop]
  exact ⟨if_pos ⟨hrun, harm⟩, rfl⟩

/-- The entry of an ended operation. -/
def endedEntry (e : PendingEntry) (st : PendingState) : PendingEntry :=
  { e with state := st, value := 0, claims := ⟨false, false, false⟩ }

theorem endedEntry_still {e : PendingEntry} {st : PendingState} (n : ArmId) (s : State) :
    silenceMoved n s (endedEntry e st) = endedEntry e st := by
  refine silenceMoved_clear (fun ⟨_, harm⟩ => ?_) s
  cases n <;> cases harm

variable {n : ArmId} {e : PendingEntry}

theorem silenceMoved_still (h : populated (armChannel n) s = true → (s.arm n).state = .stowed ∨ (s.arm n).state = .held) :
    silenceMoved n s e = e := by
  unfold silenceMoved
  split
  · next hpop => rcases h hpop with hs | hs <;> rw [hs]
  · rfl

theorem silenceMoved_moving (hpop : populated (armChannel n) s = true) (h : moving n s) (hop : e.op = .setTransport)
    (hrun : e.state = .running) (harm : e.claims.hasArm n = true) : silenceMoved n s e = endedEntry e .failed := by
  have hends := (endedBy_setTransport hop hrun harm (some (.failed, 5)) (some (.failed, 5)) .failed 0).1
  unfold silenceMoved
  rw [if_pos hpop]
  rcases h with hs | hs | hs <;> rw [hs] <;> exact hends

theorem silenceMoved_stows (hpop : populated (armChannel n) s = true) (h : (s.arm n).state = .reverseLifted)
    (hop : e.op = .setTransport) (hrun : e.state = .running) (harm : e.claims.hasArm n = true) :
    silenceMoved n s e = if allStowed (enterArm n .stowed false s) then endedEntry e .done else e := by
  obtain ⟨hdone, hnone⟩ := endedBy_setTransport hop hrun harm (some (.failed, 0)) (some (.done, 0)) .done 0
  unfold silenceMoved
  rw [if_pos hpop, h]
  simp only
  split
  · exact hdone
  · exact hnone

end

end Sys2Proof.Machine
end

section
/-! SUPPORT. Every clause of the entry to SILENCED (R80, R87, R111, R126, R142, R163, R174). -/

namespace Sys2Proof.Machine

-- One thread elaborates this section, so that the check's memory limit holds the stacks.
set_option Elab.async false

/-! ### An operation of one arm -/

/-- What becomes of the pending entry of an operation of arm n at entry to SILENCED (R78, R111). -/
def silenceEnded (s : State) (n : ArmId) (e : PendingEntry) : PendingEntry :=
  if populated (armChannel n) s then
    match (s.arm n).state with
    | .stowed => e
    | .lowering => e.endedBy n (some (.failed, 5)) (some (.failed, 5)) none
    | .working => e.endedBy n (some (.failed, 5)) (some (.failed, 5)) none
    | .lifting => e.endedBy n (some (.failed, 5)) (some (.failed, 5)) none
    | .reverseLifted => e.endedBy n (some (.failed, 0)) none none
    | .held => e
  else e

/-- No stow of an arm in REVERSE_LIFTED: the operation whose end at entry to SILENCED the statement leaves open. -/
def NoStowWhenLifted (s : State) (e : PendingEntry) : Prop :=
  ∀ n, (s.arm n).state = .reverseLifted → e.claims.hasArm n = true → ∀ m, e.op ≠ .armMove m .stow

theorem endedBy_work {e : PendingEntry} (hop : e.op ≠ .setTransport) (hstow : ∀ m, e.op ≠ .armMove m .stow) (n : ArmId)
    (w x y : Option (PendingState × Word)) : e.endedBy n w x y = e.endedBy n w none none := by
  unfold PendingEntry.endedBy
  rcases hform : e.op with _ | ⟨m, _ | _⟩
  · exact absurd hform hop
  · exact absurd hform (hstow m)
  · rfl

theorem endedBy_hasArm {e : PendingEntry} {n m : ArmId} {w x y : Option (PendingState × Word)}
    (h : (e.endedBy n w x y).claims.hasArm m = true) : e.claims.hasArm m = true := by
  by_cases hrun : e.state = .running ∧ e.claims.hasArm n = true
  · unfold PendingEntry.endedBy at h
    simp only [if_pos hrun] at h
    split at h
    · cases m <;> cases h
    · exact h
  · rwa [endedBy_clear hrun] at h

theorem silenceMoved_ended {s : State} {e : PendingEntry} (hop : e.op ≠ .setTransport) (hstow : NoStowWhenLifted s e)
    (n : ArmId) : silenceMoved n s e = silenceEnded s n e := by
  have hdrop : ∀ w x y, e.endedBy n w x y = e.endedBy n w x none := endedBy_transport (Or.inl hop) n
  unfold silenceMoved silenceEnded
  split
  · rcases hs : (s.arm n).state with _ | _ | _ | _ | _ | _ <;> simp only
    case reverseLifted =>
      by_cases harm : e.claims.hasArm n = true
      · exact endedBy_work hop (hstow n hs harm) ..
      · rw [endedBy_clear fun hboth => harm hboth.2, endedBy_clear fun hboth => harm hboth.2]
    all_goals exact hdrop ..
  · rfl

theorem silenceEnded_kept (s : State) (n : ArmId) (e : PendingEntry) : (silenceEnded s n e).op = e.op
    ∧ ∀ m, (silenceEnded s n e).claims.hasArm m = true → e.claims.hasArm m = true := by
  unfold silenceEnded
  split
  · split <;> first | exact ⟨endedBy_kept .., fun _ => endedBy_hasArm⟩ | exact ⟨rfl, fun _ => id⟩
  · exact ⟨rfl, fun _ => id⟩

theorem silenceEnded_afterOne (s : State) (e : PendingEntry) :
    silenceEnded (armTurn silenceArm .one s) .two e = silenceEnded s .two e := by
  unfold silenceEnded
  rw [armTurn_populated, afterOne_arm_two]

/-- Arm 1 in its own turn never comes to REVERSE_LIFTED, so the operations left open stay the same ones. -/
theorem noStowWhenLifted_afterOne {s : State} {e : PendingEntry} (h : NoStowWhenLifted s e) :
    NoStowWhenLifted (armTurn silenceArm .one s) (silenceEnded s .one e) := by
  obtain ⟨hop, harms⟩ := silenceEnded_kept s .one e
  intro n hn harm m
  rw [hop]
  refine h n ?_ (harms n harm) m
  cases n with
  | one =>
    rw [afterOne_arm_one] at hn
    split at hn
    · rcases silencedState_still (s.arm .one).state with hs | hs <;> rw [hs] at hn <;> cases hn
    · exact hn
  | two => rwa [afterOne_arm_two] at hn

theorem silenced_operation {s : State} {i : Nat} {e : PendingEntry} (he : s.req.table[i]? = some e)
    (hop : e.op ≠ .setTransport) (hstow : NoStowWhenLifted s e) :
    (forArms silenceArm s).req.table[i]? = some (silenceEnded s .two (silenceEnded s .one e)) := by
  have hop1 : (silenceEnded s .one e).op ≠ .setTransport := by rwa [(silenceEnded_kept s .one e).1]
  rw [silenced_entry he, silenceMoved_ended hop hstow, silenceMoved_ended hop1 (noStowWhenLifted_afterOne hstow),
    silenceEnded_afterOne]

/-! ### A running SET_MODE TRANSPORT -/

theorem silenced_idle {s : State} {i : Nat} {e : PendingEntry} (he : s.req.table[i]? = some e) (hrun : e.state ≠ .running) :
    (forArms silenceArm s).req.table[i]? = some e := by
  rw [silenced_entry he, silenceMoved_clear (fun h => hrun h.1), silenceMoved_clear (fun h => hrun h.1)]

section
variable {s : State} {i : Nat} {e : PendingEntry} (he : s.req.table[i]? = some e) (hop : e.op = .setTransport)
  (hrun : e.state = .running) (hclaims : e.claims = ⟨true, populated .arm1 s, populated .arm2 s⟩)

include hclaims in
theorem transport_hasArm (n : ArmId) : e.claims.hasArm n = populated (armChannel n) s := by
  rw [hclaims]
  cases n <;> rfl

theorem moving_afterOne (h : moving .two s) : moving .two (armTurn silenceArm .one s) := by
  unfold moving
  rwa [afterOne_arm_two]

theorem still_afterOne {e : PendingEntry}
    (h : populated (armChannel .two) s = true → (s.arm .two).state = .stowed ∨ (s.arm .two).state = .held) :
    silenceMoved .two (armTurn silenceArm .one s) e = e := by
  refine silenceMoved_still fun hpop => ?_
  rw [afterOne_arm_two]
  exact h (by rwa [armTurn_populated] at hpop)

include he in
theorem silenced_still (h : ∀ n, populated (armChannel n) s = true → (s.arm n).state = .stowed ∨ (s.arm n).state = .held) :
    (forArms silenceArm s).req.table[i]? = some e := by
  rw [silenced_entry he, silenceMoved_still (h .one), still_afterOne (h .two)]

include hop hrun hclaims in
/-- With arm 2 moving, arm 1's turn ends the operation by failure or not at all: the arms are not all stowed. -/
theorem firstTurn_of_moving (hpop : populated (armChannel .two) s = true) (h : moving .two s) :
    silenceMoved .one s e = endedEntry e .failed ∨ silenceMoved .one s e = e := by
  by_cases hpop1 : populated (armChannel .one) s = true
  · have harm : e.claims.hasArm .one = true := by rw [transport_hasArm hclaims, hpop1]
    rcases hs : (s.arm .one).state with _ | _ | _ | _ | _ | _
    case stowed => exact Or.inr (silenceMoved_still fun _ => Or.inl hs)
    case held => exact Or.inr (silenceMoved_still fun _ => Or.inr hs)
    case reverseLifted =>
      right
      rw [silenceMoved_stows hpop1 hs hop hrun harm]
      refine if_neg fun hall => ?_
      have hkeeps := enterArm_keeps .one .stowed false s
      have htwo := (allStowed_iff _).1 hall .two (by unfold populated at hpop ⊢; rwa [hkeeps.start])
      rw [hkeeps.arm .two (by decide)] at htwo
      rcases h with h | h | h <;> rw [htwo] at h <;> cases h
    all_goals exact Or.inl (silenceMoved_moving hpop1 (by simp [moving, hs]) hop hrun harm)
  · exact Or.inr (silenceMoved_still fun hp => absurd hp hpop1)

include he hop hrun hclaims in
theorem silenced_failed {n : ArmId} (hpop : populated (armChannel n) s = true) (h : moving n s) :
    (forArms silenceArm s).req.table[i]? = some (endedEntry e .failed) := by
  have harm : e.claims.hasArm n = true := by rw [transport_hasArm hclaims, hpop]
  rw [silenced_entry he]
  cases n with
  | one => rw [silenceMoved_moving hpop h hop hrun harm, endedEntry_still]
  | two =>
    rcases firstTurn_of_moving hop hrun hclaims hpop h with heq | heq <;> rw [heq]
    · rw [endedEntry_still]
    · rw [silenceMoved_moving (by rw [armTurn_populated, hpop]) (moving_afterOne h) hop hrun harm]

theorem allStowed_afterTwo
    (h : populated (armChannel .one) s = true → silencedState (s.arm .one).state = .stowed) :
    allStowed (enterArm .two .stowed false (armTurn silenceArm .one s)) = true := by
  have hkeeps := enterArm_keeps .two .stowed false (armTurn silenceArm .one s)
  refine (allStowed_iff _).2 fun n hn => ?_
  have hpop : populated (armChannel n) s = true := by
    rw [← armTurn_populated _ .one]
    unfold populated at hn ⊢
    rwa [hkeeps.start] at hn
  cases n with
  | one => rw [hkeeps.arm .one (by decide), afterOne_arm_one, if_pos hpop, h hpop]
  | two => exact (enterArm_state ..).1

include he hop hrun hclaims in
theorem silenced_done (hall : ∀ n, populated (armChannel n) s = true →
      (s.arm n).state = .stowed ∨ (s.arm n).state = .reverseLifted)
    {n : ArmId} (hpop : populated (armChannel n) s = true) (h : (s.arm n).state = .reverseLifted) :
    (forArms silenceArm s).req.table[i]? = some (endedEntry e .done) := by
  have harms : ∀ m, populated (armChannel m) s = true → e.claims.hasArm m = true :=
    fun m hm => by rw [transport_hasArm hclaims, hm]
  have hstowed1 : populated (armChannel .one) s = true → silencedState (s.arm .one).state = .stowed := by
    intro hp
    rcases hall .one hp with hs | hs <;> rw [hs] <;> rfl
  have htwo : populated (armChannel .two) s = true → (s.arm .two).state = .reverseLifted →
      silenceMoved .two (armTurn silenceArm .one s) e = endedEntry e .done := by
    intro hp hs
    rw [silenceMoved_stows (by rw [armTurn_populated, hp]) (by rw [afterOne_arm_two, hs]) hop hrun (harms .two hp)]
    exact if_pos (allStowed_afterTwo hstowed1)
  have hone : silenceMoved .one s e = endedEntry e .done
      ∨ silenceMoved .one s e = e ∧ populated (armChannel .two) s = true ∧ (s.arm .two).state = .reverseLifted := by
    by_cases hlifted : populated (armChannel .one) s = true ∧ (s.arm .one).state = .reverseLifted
    · obtain ⟨hp, hs⟩ := hlifted
      rw [silenceMoved_stows hp hs hop hrun (harms .one hp)]
      split_ifs with hevery
      · exact Or.inl rfl
      · by_contra hnot
        refine hevery ((allStowed_iff _).2 fun m hm => ?_)
        have hkeeps := enterArm_keeps .one .stowed false s
        have hpm : populated (armChannel m) s = true := by
          unfold populated at hm ⊢
          rwa [hkeeps.start] at hm
        cases m with
        | one => exact (enterArm_state ..).1
        | two =>
          rw [hkeeps.arm .two (by decide)]
          exact (hall .two hpm).resolve_right fun hs2 => hnot (Or.inr ⟨rfl, hpm, hs2⟩)
    · refine Or.inr ⟨silenceMoved_still fun hp => Or.inl ((hall .one hp).resolve_right fun hs => hlifted ⟨hp, hs⟩), ?_⟩
      cases n with
      | one => exact absurd ⟨hpop, h⟩ hlifted
      | two => exact ⟨hpop, h⟩
  rw [silenced_entry he]
  rcases hone with heq | ⟨heq, hp, hs⟩ <;> rw [heq]
  · rw [endedEntry_still]
  · rw [htwo hp hs]

end

end Sys2Proof.Machine
end

section
/-! O51 and O52: a frame arrival, and a babbling transmitter that is cut off (R140 to R143). -/

namespace Sys2Proof.Machine

-- One thread elaborates this section, so that the check's memory limit holds the stacks.
set_option Elab.async false

/-! ### The pending table after entry to SILENCED -/

theorem enterSilenced_req (s : State) : (enterSilenced s).req = (forArms silenceArm (silencedStart s)).req := by
  rw [enterSilenced_eq, stopWater_req]

theorem silencedStart_req (s : State) : (silencedStart s).req = s.req := (silencedStart_keeps s).req

/-- The arms' states and the slots they stand in are those of s. -/
structure SameArms (s u : State) : Prop where
  arm : ∀ n, u.arm n = s.arm n
  start : ∀ c, populated c u = populated c s
  req : u.req = s.req

theorem KeepsAllBut.sameArms {s v : State} (h : KeepsAllBut [.line] s v) : SameArms s (silencedStart v) where
  arm n := by rw [silencedStart_arm, h.arm n (by cases n <;> decide)]
  start c := by
    rw [silencedStart_populated]
    unfold populated
    rw [h.start]
  req := by rw [silencedStart_req, h.req]

theorem SameArms.silenceEnded {s u : State} (h : SameArms s u) (n : ArmId) (e : PendingEntry) :
    silenceEnded u n e = silenceEnded s n e := by
  unfold Sys2Proof.Machine.silenceEnded
  rw [h.start, h.arm]

/-- What entry to SILENCED leaves of an arm that the role populates (R80). -/
theorem enterSilenced_populated {s v : State} (h : KeepsAllBut [.line] s v) {n : ArmId}
    (hpop : populated (armChannel n) s = true) :
    (enterSilenced v).arm n = (silenceArm n (silencedStart v)).arm n := by
  rw [enterSilenced_arm, if_pos]
  rw [← silencedStart_populated, h.sameArms.start, hpop]

theorem enterSilenced_state {s v : State} (h : KeepsAllBut [.line] s v) {n : ArmId}
    (hpop : populated (armChannel n) s = true) :
    ((enterSilenced v).arm n).state = silencedState (s.arm n).state := by
  rw [enterSilenced_populated h hpop, silenceArm_state, h.sameArms.arm]

/-- Entry to SILENCED from a state that differs in the line port only (R80, R87, R142, R163, R174). -/
theorem enterSilenced_enters {s v : State} (h : KeepsAllBut [.line] s v) : EntersSilenced s (enterSilenced v) := by
  have hsame := h.sameArms
  have hsticky : sticky .lineFault v = sticky .lineFault s := by rw [sticky, sticky, h.faults]
  have htable : (silencedStart v).req.table = s.req.table := by rw [hsame.req]
  obtain ⟨hreq, hlength⟩ := silenced_req (silencedStart v)
  rw [← enterSilenced_req, hsame.req] at hreq hlength
  refine ⟨?_, ?_, ?_, ?_, ?_, stopWater_inactive _, ?_, ?_, hreq, hlength, ?_⟩
  · rw [enterSilenced_eq, stopWater_start, (forArms_keeps silenceArm_keeps _).start, silencedStart_start, h.start]
  · rw [enterSilenced_line]
  · rw [sticky, enterSilenced_faults]
    exact (sticky_raiseOnce .lineFault .lineFault v).trans (if_pos rfl)
  · rw [enterSilenced_faults]
    exact (setSticky_cause .lineFault v).trans (by rw [h.faults])
  · intro hclear
    rw [enterSilenced_line, hsticky, hclear]
    rfl
  · intro n hpop
    refine ⟨?_, ?_, ?_, ?_⟩
    · rw [enterSilenced_state h hpop]
      cases (s.arm n).state <;> rfl
    · intro hstill
      rw [enterSilenced_populated h hpop, silenceArm_still (by rwa [hsame.arm]), hsame.arm]
    · intro h1 h2
      have hleaves := silenceArm_leaves (s := silencedStart v) (n := n) (by rwa [hsame.arm]) (by rwa [hsame.arm])
      rw [hsame.arm] at hleaves
      rwa [enterSilenced_populated h hpop]
    · intro hwork
      refine enterSilenced_working ?_ ?_
      · rw [← silencedStart_populated, hsame.start, hpop]
      · rw [← silencedStart_arm, hsame.arm, hwork]
  · intro n hnone
    rw [enterSilenced_arm, if_neg]
    · rw [← silencedStart_arm, hsame.arm]
    · rwa [← silencedStart_populated, hsame.start]
  · intro i e he
    have hentry : (silencedStart v).req.table[i]? = some e := by rw [htable, he]
    have hlaterPop : ∀ {m : ArmId}, populated (armChannel m) s = true → populated (armChannel m) (silencedStart v) = true :=
      fun hm => by rw [hsame.start, hm]
    have hbackPop : ∀ {m : ArmId}, populated (armChannel m) (silencedStart v) = true → populated (armChannel m) s = true :=
      fun hm => by rwa [hsame.start] at hm
    rw [enterSilenced_req]
    refine ⟨fun hop hstow => ?_, fun _ hrun => silenced_idle hentry hrun, fun hop hrun hclaims => ?_⟩
    · have hopen : NoStowWhenLifted (silencedStart v) e := fun n hn => hstow n (by rwa [hsame.arm] at hn)
      rw [silenced_operation hentry hop hopen, hsame.silenceEnded, hsame.silenceEnded]
      rfl
    · have hheld : e.claims = ⟨true, populated .arm1 (silencedStart v), populated .arm2 (silencedStart v)⟩ := by
        rw [hsame.start, hsame.start, hclaims]
      refine ⟨?_, ?_, ?_⟩
      · rintro ⟨n, hpop, hmoves⟩
        exact silenced_failed hentry hop hrun hheld (hlaterPop hpop) (by unfold moving; rwa [hsame.arm])
      · rintro hstill ⟨n, hpop, hlifted⟩ hstowed
        refine silenced_done hentry hop hrun hheld (fun m hm => ?_) (hlaterPop hpop) (by rw [hsame.arm, hlifted])
        have hends := hstowed m (hbackPop hm)
        have hnot := hstill m (hbackPop hm)
        rw [enterSilenced_state h (hbackPop hm)] at hends
        rw [hsame.arm]
        rcases hs : (s.arm m).state with _ | _ | _ | _ | _ | _ <;> simp_all [silencedState]
      · intro hstill
        refine silenced_still hentry fun m hm => ?_
        rw [hsame.arm]
        exact hstill m (hbackPop hm)

end Sys2Proof.Machine
end

section
/-! O51 and O52: a frame that arrives, and a babbling transmitter that is cut off (R140 to R143). -/

namespace Sys2Proof.Machine

-- One thread elaborates this section, so that the check's memory limit holds the stacks.
set_option Elab.async false

/-! ### A frame arrival (R140 to R142) -/

section
variable {s : State} {bits : List Bool}

theorem frameArrival_deaf (h : receiverOn s = false ∨ transmitting s = true) : exec (.frameArrival bits) s = .next s :=
  if_pos h

theorem frameArrival_heard (h : ¬ (receiverOn s = false ∨ transmitting s = true)) :
    (parseFrame bits = none → exec (.frameArrival bits) s = .next (countCheckError s))
    ∧ ∀ f, parseFrame bits = some f → exec (.frameArrival bits) s = .next (sortFrame f s) := by
  have hexec : exec (.frameArrival bits) s = execFrameArrival bits s := rfl
  rw [hexec, execFrameArrival, if_neg h]
  refine ⟨fun hparse => ?_, fun f hparse => ?_⟩ <;> rw [hparse]

theorem sortFrame_passes {f : Frame} (hsrc : f.src ≠ s.start.number) (h1 : f.dst ≠ s.start.number) (h2 : f.dst ≠ 15) :
    sortFrame f s = s := by
  rw [sortFrame, if_neg hsrc, if_neg fun hor => hor.elim h1 h2]

theorem sortFrame_queues {f : Frame} (hsrc : f.src ≠ s.start.number) (hdst : f.dst = s.start.number ∨ f.dst = 15) :
    sortFrame f s = queueFrame f s := by
  rw [sortFrame, if_neg hsrc, if_pos hdst]

theorem sortFrame_own {f : Frame} (hsrc : f.src = s.start.number) : sortFrame f s = duplicateStation s := if_pos hsrc

end

/-- Settles O51, by the branches of the receiver: deaf, a frame cut short, a frame sorted by its addresses. -/
theorem frameArrivalSortsTheFrame : Obligations.FrameArrivalSortsTheFrame := by
  intro s bits
  refine ⟨fun hdeaf => frameArrival_deaf ?_, fun hload hline => ?_⟩
  · rcases hdeaf with h | h
    · exact Or.inl (by simp [receiverOn, h])
    · exact Or.inr h
  · obtain ⟨hbad, hgood⟩ := frameArrival_heard (s := s) (bits := bits) (by simp [receiverOn, transmitting, hload, hline])
    refine ⟨hbad, fun f hf => ?_⟩
    rw [hgood f hf]
    refine ⟨fun hsrc h1 h2 => ?_, fun hsrc hdst hroom => ?_, fun hsrc hdst hfull => ?_, fun hsrc h1 h2 => ?_, fun hsrc hlive => ?_⟩
    · rw [sortFrame_passes hsrc h1 h2]
    · rw [sortFrame_queues hsrc hdst, queueFrame, if_neg (by omega)]
    · rw [sortFrame_queues hsrc hdst, queueFrame, if_pos hfull]
      rfl
    · rw [sortFrame_own hsrc, duplicateStation, if_neg fun hor => hor.elim h1 h2]
    · rw [sortFrame_own hsrc, duplicateStation, if_pos hlive]
      refine ⟨_, rfl, enterSilenced_keeps s, enterSilenced_enters (.refl _ _), fun hsticky => ?_, ?_⟩
      · rw [enterSilenced_line, hsticky]
        rfl
      · rw [enterSilenced_line]

/-! ### The babble guard (R143) -/

/-- The line port after a cut-off, before its effect on the station. -/
def cutLine (s : State) : LinePort := { loseSending s.line with guardArmed := decide (s.start.station = .loading) }

section
variable {s : State}

theorem cutOff_silences (h : s.start.station = .listening ∨ s.start.station = .running) :
    cutOff s = enterSilenced (s.withLine (cutLine s)) := by
  unfold cutOff cutLine
  rcases h with h | h <;> simp [h]

theorem cutOff_failedStart (h : s.start.station = .failedStart) :
    cutOff s = raiseOnce .lineFault (s.withLine { cutLine s with heldOff := true }) := by
  unfold cutOff cutLine
  simp only [State.withLine_start, h]
  rfl

theorem cutOff_quiet (h : s.start.station = .silenced ∨ s.start.station = .loading) :
    cutOff s = s.withLine (cutLine s) := by
  unfold cutOff cutLine
  rcases h with h | h <;> simp [h]

/-- What a cut-off leaves of the line port: the frame is lost, and the ALERT of LINE_FAULT takes its slot where the
station trips on it and the kind was not sticky (R143, R163). -/
structure CutLeaves (s t : State) : Prop where
  onLine : t.line.onLine = (cutLine s).onLine
  answers : t.line.answers = (cutLine s).answers
  requests : t.line.requests = (cutLine s).requests
  reportDue : t.line.reportDue = (cutLine s).reportDue
  seq : t.line.seq = (cutLine s).seq
  silencedSlot : s.start.station = .silenced → t.line.alertSlot = (cutLine s).alertSlot
  trippedSlot : s.start.station = .listening ∨ s.start.station = .running ∨ s.start.station = .failedStart →
    t.line.alertSlot = if sticky .lineFault s then (cutLine s).alertSlot else some .lineFault

theorem CutLeaves.of_line {t : State} {slot : Option FaultKind} {timer : Option Nat} {off : Bool}
    (hline : t.line = { cutLine s with alertSlot := slot, reportTimer := timer, heldOff := off })
    (hquiet : s.start.station = .silenced → slot = (cutLine s).alertSlot)
    (htrips : s.start.station = .listening ∨ s.start.station = .running ∨ s.start.station = .failedStart →
      slot = if sticky .lineFault s then (cutLine s).alertSlot else some .lineFault) : CutLeaves s t := by
  constructor <;> rw [hline]
  · exact hquiet
  · exact htrips

theorem cutOff_leaves (s : State) : CutLeaves s (cutOff s) := by
  cases hstation : s.start.station with
  | listening =>
    rw [cutOff_silences (Or.inl hstation)]
    exact .of_line (enterSilenced_line _) (fun hs => by rw [hstation] at hs; cases hs) fun _ => rfl
  | running =>
    rw [cutOff_silences (Or.inr hstation)]
    exact .of_line (enterSilenced_line _) (fun hs => by rw [hstation] at hs; cases hs) fun _ => rfl
  | failedStart =>
    rw [cutOff_failedStart hstation]
    refine .of_line (slot := if sticky .lineFault s then (cutLine s).alertSlot else some .lineFault)
      (timer := (cutLine s).reportTimer) (off := true) ?_
      (fun hs => by rw [hstation] at hs; cases hs) fun _ => rfl
    rw [raiseOnce_line]
    have hsame : sticky .lineFault (s.withLine { cutLine s with heldOff := true }) = sticky .lineFault s := rfl
    rw [hsame]
    cases sticky .lineFault s <;> rfl
  | silenced =>
    rw [cutOff_quiet (Or.inl hstation)]
    exact .of_line rfl (fun _ => rfl) fun hs => by simp [hstation] at hs
  | loading =>
    rw [cutOff_quiet (Or.inr hstation)]
    exact .of_line rfl (fun _ => rfl) fun hs => by simp [hstation] at hs

/-! ### The frame that is lost -/

variable {x : Sending} (h : s.line.onLine = some x)

include h

theorem cutLine_keeps : (cutLine s).onLine = none ∧ (cutLine s).seq = s.line.seq := by
  unfold cutLine loseSending
  rw [h]
  simp only
  cases x.owner with
  | alert k => simp only; split <;> exact ⟨rfl, rfl⟩
  | answer => exact ⟨rfl, rfl⟩
  | report => exact ⟨rfl, rfl⟩
  | request tag => exact ⟨rfl, rfl⟩
  | orphan => exact ⟨rfl, rfl⟩

theorem cutLine_alert {k : FaultKind} (hx : x.owner = .alert k) :
    (cutLine s).alertSlot = if s.line.alertSlot = some k then none else s.line.alertSlot := by
  unfold cutLine loseSending
  rw [h]
  simp only [hx]
  split <;> rfl

theorem cutLine_alertSlot (hx : ∀ k, x.owner ≠ .alert k) : (cutLine s).alertSlot = s.line.alertSlot := by
  unfold cutLine loseSending
  rw [h]
  simp only
  cases howner : x.owner with
  | alert k => exact absurd howner (hx k)
  | answer => rfl
  | report => rfl
  | request tag => rfl
  | orphan => rfl

theorem cutLine_answer (hx : x.owner = .answer) : (cutLine s).answers = s.line.answers.tail := by
  unfold cutLine loseSending
  rw [h]
  simp only [hx]

theorem cutLine_report (hx : x.owner = .report) :
    (cutLine s).reportDue = true ∧ (cutLine s).answers = s.line.answers.map (markBack s.line.seq) := by
  unfold cutLine loseSending
  rw [h]
  simp only [hx, and_self]

theorem cutLine_answers (h1 : x.owner ≠ .answer) (h2 : x.owner ≠ .report) : (cutLine s).answers = s.line.answers := by
  unfold cutLine loseSending
  rw [h]
  simp only
  cases howner : x.owner with
  | alert k => simp only; split <;> rfl
  | answer => exact absurd howner h1
  | report => exact absurd howner h2
  | request tag => rfl
  | orphan => rfl

theorem cutLine_request {tag : Nibble} (hx : x.owner = .request tag) :
    (cutLine s).requests = s.line.requests.filter (fun q => q.tag ≠ tag) := by
  unfold cutLine loseSending
  rw [h]
  simp only [hx]

end

theorem babbleGuardCutoff_cuts {s : State} {x : Sending} (h : s.line.onLine = some x) (harmed : s.line.guardArmed = true)
    (htime : 2 ≤ s.line.guardTime) : exec .babbleGuardCutoff s = .next (cutOff s) := by
  have hdue : guardDue s = true := by simp [guardDue, h, harmed, htime]
  have hexec : exec .babbleGuardCutoff s = execBabbleGuardCutoff s := rfl
  rw [hexec, execBabbleGuardCutoff, if_pos hdue]

/-- Settles O52: what the cut-off does to the station by its state, and to the line port by the frame's owner. -/
theorem babbleGuardCutsTheTransmitter : Obligations.BabbleGuardCutsTheTransmitter := by
  intro s x hx harmed htime
  have hleaves := cutOff_leaves s
  obtain ⟨hline, hseq⟩ := cutLine_keeps hx
  refine ⟨_, babbleGuardCutoff_cuts hx harmed htime, hleaves.onLine.trans hline, fun hlive => ?_, fun hfailed => ?_,
    fun hquiet => ?_, fun hother => ?_, ?_, fun hown => hleaves.answers.trans (cutLine_answer hx hown),
    hleaves.seq.trans hseq, fun hown => ?_, fun h1 h2 => hleaves.answers.trans (cutLine_answers hx h1 h2),
    fun tag hown => hleaves.requests.trans (cutLine_request hx hown)⟩
  · rw [cutOff_silences hlive]
    exact enterSilenced_enters (State.withLine_keeps s _)
  · rw [cutOff_failedStart hfailed]
    refine ⟨?_, ?_, (sticky_raiseOnce .lineFault .lineFault _).trans (if_pos rfl)⟩
    · exact (raiseOnce_keeps .lineFault _).start
    · rw [raiseOnce_line]
      split <;> rfl
  · rw [cutOff_quiet hquiet]
    exact State.withLine_keeps s _
  · rw [← cutLine_alertSlot hx hother]
    exact ⟨hleaves.silencedSlot, hleaves.trippedSlot⟩
  · intro k hown left
    have hleft : (cutLine s).alertSlot = left := cutLine_alert hx hown
    rw [← hleft]
    exact ⟨hleaves.silencedSlot, hleaves.trippedSlot⟩
  · obtain ⟨hdue, hanswers⟩ := cutLine_report hx hown
    exact ⟨hleaves.reportDue.trans hdue, hleaves.answers.trans hanswers⟩

end Sys2Proof.Machine
end
